-- ==== Sys2Proof/Word.lean ====
section
/-! DEFINITION. The widths the manual gives its data (00 R10, 05 R105), and the plain records that
name places and packets. -/

namespace Sys2Proof

/-- One byte of memory. -/
abbrev Byte := BitVec 8

/-- A scalar register, a special register, a PADDR (05 R105, 03 R86). -/
abbrev Word := BitVec 64

/-- The 64 bytes of a vector register, byte b at bits [8b+7:8b] (05 R107). -/
abbrev Row := BitVec 512

/-- Where a strand stands: die 0 to 15, cluster 0 to 2, core 0 to 3, strand 0 to 3 (00 R3). -/
structure Place where
  die : Nat
  cluster : Nat
  core : Nat
  strand : Nat
  deriving DecidableEq, Repr

/-- The header fields of a fabric flit, its payload and the CRC-32C of its bytes 252 to 255 (14 R303, R304). -/
structure Flit where
  type : Nat
  dmod : Nat
  ddie : Nat
  smod : Nat
  sdie : Nat
  tag : Nat
  payload : List Byte
  crc : Nat
  deriving DecidableEq, Repr

/-- What the driver writes into a group table entry, and the entry's index in the table (14 R296, R305). -/
structure GroupEntry where
  index : Nat
  group : Nat
  ctx : Nat
  predMod : Nat
  predDie : Nat
  predPort : Nat
  succMod : Nat
  succDie : Nat
  succPort : Nat
  recvVa : Nat
  recvLen : Nat
  deriving DecidableEq, Repr

/-- Where a checker error of a strand lies (13 R278, R279): in a row of a result that lands; in the branch or loop target of the bundle
that issued last; in a register file, the in-flight queue, or a save or restore path. -/
inductive ErrorPlace where
  | row | target | stored
  deriving DecidableEq, Repr

/-- A checker error (13 R278 to R280) found with an event: where, which of the results landing or which chunk (an index), whether in
address or control logic or storage (`control`), residue 0 or parity 1, and the array column whose cell disagreed. -/
structure Mismatch where
  place : ErrorPlace
  which : Nat
  control : Bool
  kind : Nat
  column : Nat
  deriving DecidableEq, Repr

/-- A firmware image offered to the secure element (14 R312). -/
structure FwImage where
  component : Nat
  version : Nat
  rollback : Nat
  bytes : List Byte
  signature : List Byte
  deriving DecidableEq, Repr

/-- How a control flit arrived: its port, the module of its DMOD, and whether its CRC held (14 R303, R304). -/
structure Arrival where
  port : Nat
  dmod : Nat
  crc : Bool
  deriving DecidableEq, Repr

/-- A control flit about a number: the group of a HOLD or REJOIN, the tag of a NACK (14 R304). -/
structure FlitTo where
  num : Nat
  via : Arrival
  deriving DecidableEq, Repr

/-- A group and the ring neighbour that a message of it comes from: its predecessor, or its successor (12 R276). -/
structure GroupPeer where
  group : Nat
  pred : Bool
  via : Arrival
  deriving DecidableEq, Repr

/-- A shoot-down acknowledgement: the module that sends it, and the tag it answers (10 R239). -/
structure ShootAck where
  modid : Nat
  tag : Nat
  via : Arrival
  deriving DecidableEq, Repr

/-- The source of a shoot-down flit, the module of its DMOD, and whether its CRC held (10 R239; 14 R303, R304). -/
structure ShootFrom where
  modid : Nat
  dmod : Nat
  crc : Bool
  deriving DecidableEq, Repr

/-- What a die's error logic or a neighbour found (13 R292): a checker or parity error in its distributor, range translator, die
network or error logic; an uncorrectable error in its firmware core's instruction memory, or in its queue tables. -/
inductive FenceKind where
  | checker | firmwareMemory | queueTables
  deriving DecidableEq, Repr

/-- A die to fence, why, and whether the error logic located the fault in the core reserved for its firmware (13 R292). -/
structure FenceCause where
  die : Nat
  kind : FenceKind
  located : Bool
  deriving DecidableEq, Repr

/-- A die-network link or router of a die that gives no answer, and for how many cycles (13 R292). -/
structure LinkSilence where
  die : Nat
  cycles : Nat
  deriving DecidableEq, Repr

/-- An access to a function's BAR0: the function, 0 for the physical one, the offset and the width (14 R295). -/
structure BarAccess where
  func : Nat
  off : Nat
  bytes : Nat
  deriving DecidableEq, Repr

end Sys2Proof
end

