-- ==== Sys2Proof/Config.lean ====
section
/-! DEFINITION. The fixed figures of the MX-B16 and the values the manual leaves open. An opaque
constant is a free value: no proof can see what it is. -/

namespace Sys2Proof.Config

/-- Contents the manual calls undefined, byte by byte (07 R155; 05 R40). DESIGN CHOICE (log 7): drawn with the
counter State.freeCount. -/
opaque freeByte : Nat → Byte

/-- A bounded choice the manual leaves open (15 R332, 06 R135). DESIGN CHOICE (log 7). -/
opaque freeNat : Nat → Nat

/-- Which value within the bound of 06 R135 an approximation returns: a fixed function of the operation, the
format, the rounding mode and the operand. DESIGN CHOICE (log 8). -/
opaque approxPick (op fmt rnd operand : Nat) : Nat

/-- The Falcon-1024 signature under the module's identity key of a 64-byte digest (12 R274, 14 R314). The key never
leaves the secure element (R311). DESIGN CHOICE (log 9). -/
opaque falconSign : List Byte → List Byte

/-- Whether the Elolmox key verifies a signature over a digest (14 R312). DESIGN CHOICE (log 9). -/
opaque falconVerify : List Byte → List Byte → Bool

/-- The 256-bit digest of the image that a component runs until an update of it is taken (14 R314). DESIGN CHOICE (log 9). -/
opaque imageDigest (component : Nat) : List Byte

/-- The 256-bit digest of a configuration record (14 R313, R314): 0 HARVEST, 1 CALIB, 2 FWCORE with what it names. DESIGN CHOICE
(log 9). -/
opaque recordDigest (record : Nat) (content : List (Nat × Nat)) : List Byte

/-- What the driver's tables answer for a range of a context, by generation: its home address and permissions, or none
when the translation fails (10 R219, R237). DESIGN CHOICE (log 16). -/
opaque driverMap (gen ctx va len : Nat) : Option (Nat × Bool × Bool)

/-- The save area that the driver provides for a unit (11 R258). DESIGN CHOICE (log 16). -/
opaque saveArea (ctx launch rank : Nat) : Nat

/-- The 64 KiB page at which SLOT_LOAD pins a copy of a slot's code (10 R222). DESIGN CHOICE (log 16). -/
opaque codePage (vf slot load : Nat) : Nat

/-- Where a device ring's position record lies, as a virtual address and a length in its context (10 R220, 12 R269). DESIGN CHOICE
(log 21). -/
opaque positionRecord (page : Nat) : Nat × Nat

/-- The word of global memory that holds the completion counter of a context's job (01 R34). DESIGN CHOICE (log 48). -/
opaque jobWord (ctx : Nat) : Nat

/-- The fabric port that accesses to another module's memory go by (14 R303). DESIGN CHOICE (log 27). -/
opaque portOf (module : Nat) : Nat

/-- The HBM4 channel and LLC slice of a line (07 R171). DESIGN CHOICE (log 85). -/
opaque channelOf (line : Nat) : Nat

/-- WEARMAX of the calibration record (14 R308). DESIGN CHOICE (log 9). -/
opaque wearMax : Nat

/-- Calibrated clamp limit of a cluster, in units of 0.1 A (14 R306). DESIGN CHOICE (log 9). -/
opaque clampLimit (die cluster : Nat) : Nat

/-- Module ID (05 R122). DESIGN CHOICE (log 9). -/
opaque moduleId : Nat

/-- Guaranteed retention at reset (00 R8: at least 350,000 at or below 95 °C). DESIGN CHOICE (log 4). -/
def retnReset : Nat := 350000

/-- Base and boost clock in MHz (00 R5). -/
def baseMhz : Nat := 1400
def boostMhz : Nat := 1750

/-- HBM4 of the module, 16 stacks of 48 GiB; its SCM, 2 TiB; the scratchpad of a die, 16 MiB (00 R2, R6). -/
def hbmBytes : Nat := 16 * 48 * 2 ^ 30
def scmBytes : Nat := 2 * 2 ^ 40
def dieSpadBytes : Nat := 16 * 2 ^ 20

/-- Room of an image area of SCM, of which the two lie at its end (12 R272). DESIGN CHOICE (log 21). -/
def imageRoom : Nat := 768 * 2 ^ 30

/-- Room of the firmware store of SCM, which lies below the image areas (14 R312). DESIGN CHOICE (log 66). -/
def firmwareRoom : Nat := 2 ^ 30

def accTiles : Nat := 24
def spadGranules : Nat := 320
def spadChunks : Nat := 640
def chunkBytes : Nat := 512
def maxRecords : Nat := 64
def bufferEntries : Nat := 16
def runningCopies : Nat := 16
def ifqEntries : Nat := 32
def blockTags : Nat := 16
def blockLines : Nat := 1024
def markEntries : Nat := 64
def quantum : Nat := 256
def switchCycles : Nat := 2
def bandWake : Nat := 200
def bandIdle : Nat := 64
def engineStop : Nat := 65536
def saveAreaBytes : Nat := 0x230000

end Sys2Proof.Config
end

