-- ==== Sys2Proof/Syntax.lean ====
section
/-! DEFINITION. The instruction set: one constructor for each row of spec/opcode_table.json. The 224 opcodes carry the
fields their formats give (03 R71 to R85); the other rows are steps of other agents and carry what the agent
brings. -/

namespace Sys2Proof

/-- Format V.R (03 R74). -/
structure VR where
  d : BitVec 11
  a : BitVec 11
  b : BitVec 11
  c : BitVec 11
  rnd : BitVec 2
  cnt : BitVec 4
  sat : BitVec 2
  fmt : BitVec 4
  deriving DecidableEq, Repr

/-- Format V.S (03 R74). -/
structure VS where
  d : BitVec 11
  a : BitVec 11
  s : BitVec 6
  imm : BitVec 16
  rnd : BitVec 2
  cnt : BitVec 4
  deriving DecidableEq, Repr

/-- Format M.A (03 R77): flags[4] is z, flags[3:0] is fmt. -/
structure MA where
  acc : BitVec 5
  h : BitVec 5
  sa : BitVec 6
  sn : BitVec 6
  oc : BitVec 4
  z : BitVec 1
  fmt : BitVec 4
  deriving DecidableEq, Repr

/-- Format MEM (03 R79). -/
structure MemF where
  r : BitVec 11
  sp : BitVec 2
  xi : BitVec 4
  b : BitVec 6
  off : BitVec 20
  oc : BitVec 4
  svc : BitVec 2
  o : BitVec 6
  deriving DecidableEq, Repr

/-- Format MEM.T (03 R79). -/
structure MemT where
  t : BitVec 7
  h : BitVec 5
  oc : BitVec 4
  svc : BitVec 2
  deriving DecidableEq, Repr

/-- Format C.C (03 R82). -/
structure CC where
  tok : BitVec 6
  sa : BitVec 6
  sd : BitVec 6
  sl : BitVec 6
  oc : BitVec 4
  svc : BitVec 2
  dl : BitVec 16
  md : BitVec 10
  deriving DecidableEq, Repr

/-- The instructions and events of the opcode table. -/
inductive Instr where
  /-- ADD (R321): Adds two scalars into d, modulo 2^64. -/
  | add (d : BitVec 6) (a : BitVec 6) (b : BitVec 6)
  /-- SUB (R348): Subtracts scalar b from scalar a into d, modulo 2^64. -/
  | sub (d : BitVec 6) (a : BitVec 6) (b : BitVec 6)
  /-- MUL (R348): Writes the low 64 bits of the product into d, with latency 3. -/
  | mul (d : BitVec 6) (a : BitVec 6) (b : BitVec 6)
  /-- MULHI_S (R348): Writes bits [127:64] of the signed product into d. -/
  | mulhiS (d : BitVec 6) (a : BitVec 6) (b : BitVec 6)
  /-- MULHI_U (R348): Writes bits [127:64] of the unsigned product into d. -/
  | mulhiU (d : BitVec 6) (a : BitVec 6) (b : BitVec 6)
  /-- DIV_S (R334): Signed quotient on the shared divider, latency 18; a zero divisor raises DIVZERO at landing. -/
  | divS (d : BitVec 6) (a : BitVec 6) (b : BitVec 6)
  /-- DIV_U (R334): Unsigned quotient on the shared divider, latency 18; a zero divisor raises DIVZERO at landing. -/
  | divU (d : BitVec 6) (a : BitVec 6) (b : BitVec 6)
  /-- REM_S (R348): Signed remainder on the divider, latency 18. -/
  | remS (d : BitVec 6) (a : BitVec 6) (b : BitVec 6)
  /-- REM_U (R348): Unsigned remainder on the divider, latency 18. -/
  | remU (d : BitVec 6) (a : BitVec 6) (b : BitVec 6)
  /-- AND (R321): Bitwise AND of two scalars into d. -/
  | land (d : BitVec 6) (a : BitVec 6) (b : BitVec 6)
  /-- OR (R348): Bitwise OR of two scalars into d. -/
  | lor (d : BitVec 6) (a : BitVec 6) (b : BitVec 6)
  /-- XOR (R405): Bitwise XOR of two scalars into d. -/
  | lxor (d : BitVec 6) (a : BitVec 6) (b : BitVec 6)
  /-- ANDN (R321): Writes a AND NOT b into d. -/
  | andn (d : BitVec 6) (a : BitVec 6) (b : BitVec 6)
  /-- SHL (R348): Shifts left by b[5:0], with zeros in. -/
  | shl (d : BitVec 6) (a : BitVec 6) (b : BitVec 6)
  /-- SHR (R348): Shifts right logically by b[5:0]. -/
  | shr (d : BitVec 6) (a : BitVec 6) (b : BitVec 6)
  /-- SAR (R348): Shifts right arithmetically by b[5:0]. -/
  | sar (d : BitVec 6) (a : BitVec 6) (b : BitVec 6)
  /-- ROTL (R348): Rotates left by b[5:0]. -/
  | rotl (d : BitVec 6) (a : BitVec 6) (b : BitVec 6)
  /-- MIN_S (R348): Writes the signed minimum into d. -/
  | minS (d : BitVec 6) (a : BitVec 6) (b : BitVec 6)
  /-- MIN_U (R348): Writes the unsigned minimum into d. -/
  | minU (d : BitVec 6) (a : BitVec 6) (b : BitVec 6)
  /-- MAX_S (R348): Writes the signed maximum into d. -/
  | maxS (d : BitVec 6) (a : BitVec 6) (b : BitVec 6)
  /-- MAX_U (R348): Writes the unsigned maximum into d. -/
  | maxU (d : BitVec 6) (a : BitVec 6) (b : BitVec 6)
  /-- CMP_EQ (R327): Writes 1 to d if a = b, else 0. -/
  | cmpEq (d : BitVec 6) (a : BitVec 6) (b : BitVec 6)
  /-- CMP_NE (R327): Writes 1 to d if a ≠ b, else 0. -/
  | cmpNe (d : BitVec 6) (a : BitVec 6) (b : BitVec 6)
  /-- CMP_LT (R327): Writes 1 to d if a < b (signed), else 0. -/
  | cmpLt (d : BitVec 6) (a : BitVec 6) (b : BitVec 6)
  /-- CMP_LE (R327): Writes 1 to d if a ≤ b (signed), else 0. -/
  | cmpLe (d : BitVec 6) (a : BitVec 6) (b : BitVec 6)
  /-- CMP_LTU (R327): Writes 1 to d if a < b (unsigned), else 0. -/
  | cmpLtu (d : BitVec 6) (a : BitVec 6) (b : BitVec 6)
  /-- CMP_LEU (R327): Writes 1 to d if a ≤ b (unsigned), else 0. -/
  | cmpLeu (d : BitVec 6) (a : BitVec 6) (b : BitVec 6)
  /-- CMPI_EQ (R327): Compares a for equality with the sign-extended immediate. -/
  | cmpiEq (d : BitVec 6) (a : BitVec 6) (imm : BitVec 32)
  /-- CMPI_NE (R327): Compares a for inequality with the sign-extended immediate. -/
  | cmpiNe (d : BitVec 6) (a : BitVec 6) (imm : BitVec 32)
  /-- CMPI_LT (R327): Signed less-than compare of a with the immediate. -/
  | cmpiLt (d : BitVec 6) (a : BitVec 6) (imm : BitVec 32)
  /-- CMPI_LE (R327): Signed less-or-equal compare of a with the immediate. -/
  | cmpiLe (d : BitVec 6) (a : BitVec 6) (imm : BitVec 32)
  /-- CMPI_LTU (R327): Unsigned less-than compare of a with the sign-extended immediate. -/
  | cmpiLtu (d : BitVec 6) (a : BitVec 6) (imm : BitVec 32)
  /-- CMPI_LEU (R327): Unsigned less-or-equal compare of a with the sign-extended immediate. -/
  | cmpiLeu (d : BitVec 6) (a : BitVec 6) (imm : BitVec 32)
  /-- SEL (R348): Writes a to d if c ≠ 0, else b. -/
  | sel (d : BitVec 6) (a : BitVec 6) (b : BitVec 6) (c : BitVec 6)
  /-- ADDI (R321): Adds the sign-extended imm32 to a. -/
  | addi (d : BitVec 6) (a : BitVec 6) (imm : BitVec 32)
  /-- LI (R321): Loads the sign-extended imm32 into d. -/
  | li (d : BitVec 6) (imm : BitVec 32)
  /-- LIH (R321): Replaces the high 32 bits of d with imm32. -/
  | lih (d : BitVec 6) (imm : BitVec 32)
  /-- CLZ (R321): Counts the leading zero bits of a. -/
  | clz (d : BitVec 6) (a : BitVec 6)
  /-- POPC (R348): Counts the set bits of a. -/
  | popc (d : BitVec 6) (a : BitVec 6)
  /-- BITREV (R321): Reverses the 64 bits of a. -/
  | bitrev (d : BitVec 6) (a : BitVec 6)
  /-- CRC32 (R333): Advances a CRC-32C state over the eight bytes of b, with latency 2. -/
  | crc32 (d : BitVec 6) (a : BitVec 6) (b : BitVec 6)
  /-- EXTR (R321): Extracts a zero-extended bit field of a. -/
  | extr (d : BitVec 6) (a : BitVec 6) (pos : BitVec 6) (len : BitVec 6)
  /-- INS (R321): Inserts the low bits of a into a field of d. -/
  | ins (d : BitVec 6) (a : BitVec 6) (pos : BitVec 6) (len : BitVec 6)
  /-- BR_Z (R324): Branches if a = 0, popping loop levels the target leaves. -/
  | brZ (a : BitVec 6) (off : BitVec 26)
  /-- BR_NZ (R324): Branches if a ≠ 0. -/
  | brNz (a : BitVec 6) (off : BitVec 26)
  /-- BR_LTZ (R324): Branches if a < 0 (signed). -/
  | brLtz (a : BitVec 6) (off : BitVec 26)
  /-- BR_GEZ (R324): Branches if a ≥ 0 (signed). -/
  | brGez (a : BitVec 6) (off : BitVec 26)
  /-- JMP (R324): Transfers unconditionally to PC plus off26. -/
  | jmp (off : BitVec 26)
  /-- CALL (R324): Transfers to the target and writes the return index to s63. -/
  | call (off : BitVec 26)
  /-- RET (R365): Transfers to the bundle index held in s63. -/
  | ret
  /-- LOOP (R344): Pushes a loop level with its count from a scalar, or skips the body when the count is 0. -/
  | loop (a : BitVec 6) (len : BitVec 16)
  /-- LOOPI (R344): Pushes a loop level with an immediate count, or skips the body when the count is 0. -/
  | loopi (imm : BitVec 20) (len : BitVec 16)
  /-- LBRK (R346): Pops the innermost loop level and continues after its body. -/
  | lbrk
  /-- MFSR (R356): Reads a special register into d, with latency 2. -/
  | mfsr (d : BitVec 6) (sno : BitVec 12)
  /-- MTSR (R356): Writes a special register, clamping where stated; a write to EPC in a handler also sets RIDX. -/
  | mtsr (a : BitVec 6) (sno : BitVec 12)
  /-- SLACK (R369): Sets the strand's M slack and C slack for the rest of the clause. -/
  | slack (imm : BitVec 32)
  /-- TRAP (R378): Raises TRAP with CODE = imm32, or returns from a user handler when the code is 0. -/
  | trap (imm : BitVec 32)
  /-- END (R335): Moves the unit to ENDING and stops its issue. -/
  | endUnit
  /-- RFT (R254): Restores onto the strand the unit whose save area SAVEBASE names, and gives it issue. -/
  | rft
  /-- SETX (R367): Writes one word of an extent register (privileged). -/
  | setx (a : BitVec 6) (sno : BitVec 12)
  /-- GETX (R338): Reads one word of an extent register (privileged). -/
  | getx (d : BitVec 6) (sno : BitVec 12)
  /-- VADD (R382): Adds floating-point vector rows element-wise. -/
  | vadd (f : VR)
  /-- VSUB (R382): Subtracts floating-point vector rows element-wise. -/
  | vsub (f : VR)
  /-- VMUL (R382): Multiplies floating-point vector rows element-wise. -/
  | vmul (f : VR)
  /-- VFMA (R382): Computes a·b + c with one rounding. -/
  | vfma (f : VR)
  /-- VFMS (R382): Computes a·b − c with one rounding. -/
  | vfms (f : VR)
  /-- VDIV (R382): Divides element-wise, correctly rounded, with latency 14. -/
  | vdiv (f : VR)
  /-- VMIN (R382): Floating-point element minimum by R134. -/
  | vmin (f : VR)
  /-- VMAX (R382): Floating-point element maximum by R134. -/
  | vmax (f : VR)
  /-- VABS (R381): Clears the sign bit of each element. -/
  | vabs (f : VR)
  /-- VNEG (R381): Inverts the sign bit of each element. -/
  | vneg (f : VR)
  /-- VCPSGN (R381): Copies the sign of b onto each element of a. -/
  | vcpsgn (f : VR)
  /-- VSCAL (R401): Multiplies each element by 2^k, with k from a scalar. -/
  | vscal (f : VS)
  /-- VRND (R395): Rounds each element to an integral value. -/
  | vrnd (f : VR)
  /-- VRCP (R395): Approximates the reciprocal within R135. -/
  | vrcp (f : VR)
  /-- VRSQ (R395): Approximates the reciprocal square root within R135. -/
  | vrsq (f : VR)
  /-- VSQRT (R395): Computes the correctly rounded square root. -/
  | vsqrt (f : VR)
  /-- VEXP2 (R395): Approximates 2^x within R135. -/
  | vexp2 (f : VR)
  /-- VLOG2 (R395): Approximates log2 x within R135. -/
  | vlog2 (f : VR)
  /-- VTANH (R395): Approximates tanh x within R135. -/
  | vtanh (f : VR)
  /-- VCMP_EQ (R389): Floating-point equal compare writing lane masks. -/
  | vcmpEq (f : VR)
  /-- VCMP_NE (R389): Floating-point not-equal compare writing lane masks. -/
  | vcmpNe (f : VR)
  /-- VCMP_LT (R389): Floating-point less-than compare writing lane masks. -/
  | vcmpLt (f : VR)
  /-- VCMP_LE (R389): Floating-point less-or-equal compare writing lane masks. -/
  | vcmpLe (f : VR)
  /-- VCMP_GT (R389): Floating-point greater-than compare writing lane masks. -/
  | vcmpGt (f : VR)
  /-- VCMP_GE (R389): Floating-point greater-or-equal compare writing lane masks. -/
  | vcmpGe (f : VR)
  /-- VIADD (R384): Integer add, wrapping or saturating. -/
  | viadd (f : VR)
  /-- VISUB (R384): Integer subtract, wrapping or saturating. -/
  | visub (f : VR)
  /-- VIMUL (R384): Integer multiply, wrapping or saturating. -/
  | vimul (f : VR)
  /-- VIMAD (R384): Integer multiply-add with one wrap or clamp. -/
  | vimad (f : VR)
  /-- VIMIN (R384): Integer element minimum. -/
  | vimin (f : VR)
  /-- VIMAX (R384): Integer element maximum. -/
  | vimax (f : VR)
  /-- VAVG (R384): Integer average, rounded in the selected mode. -/
  | vavg (f : VR)
  /-- VICMP_EQ (R389): Integer equal compare writing lane masks. -/
  | vicmpEq (f : VR)
  /-- VICMP_NE (R389): Integer not-equal compare writing lane masks. -/
  | vicmpNe (f : VR)
  /-- VICMP_LT (R389): Integer less-than compare writing lane masks. -/
  | vicmpLt (f : VR)
  /-- VICMP_LE (R389): Integer less-or-equal compare writing lane masks. -/
  | vicmpLe (f : VR)
  /-- VICMP_LTU (R389): Unsigned less-than compare writing lane masks. -/
  | vicmpLtu (f : VR)
  /-- VICMP_LEU (R389): Unsigned less-or-equal compare writing lane masks. -/
  | vicmpLeu (f : VR)
  /-- VAND (R383): Bytewise AND of vector rows. -/
  | vand (f : VR)
  /-- VOR (R383): Bytewise OR of vector rows. -/
  | vor (f : VR)
  /-- VXOR (R383): Bytewise XOR of vector rows. -/
  | vxor (f : VR)
  /-- VSHL (R388): Shifts integer elements left. -/
  | vshl (f : VR)
  /-- VSHR (R388): Shifts integer elements right logically. -/
  | vshr (f : VR)
  /-- VSAR (R388): Shifts integer elements right arithmetically. -/
  | vsar (f : VR)
  /-- VCLZ (R388): Counts leading zeros per element. -/
  | vclz (f : VR)
  /-- VPOPC (R388): Counts set bits per element. -/
  | vpopc (f : VR)
  /-- VSEL (R387): Selects lanes of a or b by the mask in c. -/
  | vsel (f : VR)
  /-- VCLAMP (R387): Clamps each lane of a between b and c. -/
  | vclamp (f : VR)
  /-- VCVT (R392): Converts elements between FP and integer formats. -/
  | vcvt (f : VR)
  /-- VQNT (R393): Quantises rows to BSE blocks and writes a trailer register. -/
  | vqnt (f : VR)
  /-- VDQN (R394): Dequantises BSE blocks to a floating-point format. -/
  | vdqn (f : VR)
  /-- VCMPR (R390): Compresses rows to 2-of-4 sparse values and masks. -/
  | vcmpr (f : VR)
  /-- VMOV (R385): Copies vector rows together with their tags. -/
  | vmov (f : VR)
  /-- VFILL (R386): Fills rows with a scalar pattern under a given tag. -/
  | vfill (f : VS)
  /-- VBCS (R386): Broadcasts one element of each source row across the row. -/
  | vbcs (f : VS)
  /-- VPERM (R398): Permutes bytes by an index row. -/
  | vperm (f : VR)
  /-- VSLD (R398): Slides row bytes up or down by n. -/
  | vsld (f : VS)
  /-- VZIP (R398): Interleaves the low halves of two rows. -/
  | vzip (f : VR)
  /-- VUNZ (R398): Gathers the even elements of two rows. -/
  | vunz (f : VR)
  /-- VRSUM (R400): Sums a row by a pairwise tree into element 0. -/
  | vrsum (f : VR)
  /-- VRMAX (R400): Reduces a row to its maximum. -/
  | vrmax (f : VR)
  /-- VRMIN (R400): Reduces a row to its minimum. -/
  | vrmin (f : VR)
  /-- TCSUM (R374): Sums rows element-wise down a tile into one register. -/
  | tcsum (f : VR)
  /-- TCMAX (R374): Takes the element-wise maximum down a tile into one register. -/
  | tcmax (f : VR)
  /-- TCRD (R373): Gathers one 4-byte column of a tile into a register. -/
  | tcrd (t : BitVec 7) (v : BitVec 11) (idx : BitVec 4)
  /-- TCWR (R373): Writes a register into one 4-byte column of a tile. -/
  | tcwr (t : BitVec 7) (v : BitVec 11) (idx : BitVec 4)
  /-- TTRN (R379): Transposes tile ta into tile t and configures t. -/
  | ttrn (t : BitVec 7) (ta : BitVec 7)
  /-- TCFG (R372): Configures and zeroes a tile group. -/
  | tcfg (t : BitVec 7) (rows : BitVec 4) (rowb : BitVec 5) (fmt : BitVec 4)
  /-- TREL (R372): Releases a tile group's configuration. -/
  | trel (t : BitVec 7)
  /-- VCRC (R391): Advances a CRC-32C state in d over rows. -/
  | vcrc (f : VR)
  /-- MCFG (R351): Writes the unit's matrix configuration word. -/
  | mcfg (f : MA)
  /-- MSCL (R182): Scales an accumulator tile by an FP32 value. -/
  | mscl (f : MA)
  /-- MLDS (R177): Loads a column-major plane into the shadow plane. -/
  | mlds (f : MA)
  /-- MLDS_T (R177): Loads a k-row-major plane into the shadow plane. -/
  | mldsT (f : MA)
  /-- MLDSH (R353): Stages a tile through a handle and loads it as a plane. -/
  | mldsh (f : MA)
  /-- MLDSP (R353): Loads a 2-of-4 sparse plane with its metadata. -/
  | mldsp (f : MA)
  /-- MSWP (R176): Exchanges the active and shadow planes. -/
  | mswp (f : MA)
  /-- MSTR (R179): Streams activation rows against the active plane into an accumulator. -/
  | mstr (f : MA)
  /-- MSTR_T (R179): Streams transposed activation rows. -/
  | mstrT (f : MA)
  /-- MSTRH (R179): Streams a handle-named tile through staging. -/
  | mstrh (f : MA)
  /-- MGRP (R179): Streams 16-row blocks, each into its selected column group. -/
  | mgrp (f : MA)
  /-- MSPS (R352): Streams compressed sparse activation rows. -/
  | msps (f : MA)
  /-- MZA (R182): Clears an accumulator tile's live bit. -/
  | mza (f : MA)
  /-- MWRA (R352): Writes FP32 rows from LOC into an accumulator tile. -/
  | mwra (f : MA)
  /-- MRDA (R354): Converts accumulator rows into a tile group. -/
  | mrda (f : MA)
  /-- MRDS (R354): Quantises accumulator rows to BSE and writes a trailer register. -/
  | mrds (f : MA)
  /-- MCAN (R355): Discards queued M commands and stops the running one at a step boundary. -/
  | mcan (f : MA)
  /-- LD_B (R343): Loads a sign-extended byte. -/
  | ldB (f : MemF)
  /-- LD_BU (R343): Loads a zero-extended byte. -/
  | ldBu (f : MemF)
  /-- LD_H (R343): Loads a sign-extended halfword. -/
  | ldH (f : MemF)
  /-- LD_HU (R343): Loads a zero-extended halfword. -/
  | ldHu (f : MemF)
  /-- LD_W (R343): Loads a sign-extended word. -/
  | ldW (f : MemF)
  /-- LD_WU (R343): Loads a zero-extended word. -/
  | ldWu (f : MemF)
  /-- LD_D (R343): Loads a doubleword. -/
  | ldD (f : MemF)
  /-- VLD (R397): Loads one vector row. -/
  | vld (f : MemF)
  /-- VLDS (R397): Loads a strided vector row. -/
  | vlds (f : MemF)
  /-- VLDB (R397): Loads one element and broadcasts it across the row. -/
  | vldb (f : MemF)
  /-- TLD (R377): Loads a tile through a handle and checks its trailer. -/
  | tld (f : MemT)
  /-- THDL (R375): Loads a 32-byte tile handle into a handle register. -/
  | thdl (f : MemF)
  /-- LDB (R341): Declares and fills a block in the block cache. -/
  | ldb (f : MemF)
  /-- PLD (R360): Prefetches one line into the LLC. -/
  | pld (f : MemF)
  /-- TAKE (R359): Takes a value from a FULL mailbox and empties it (blocking). -/
  | take (f : MemF)
  /-- PEEK (R359): Reads a mailbox word without changing its bit. -/
  | peek (f : MemF)
  /-- ST_B (R371): Stores a byte. -/
  | stB (f : MemF)
  /-- ST_H (R371): Stores a halfword. -/
  | stH (f : MemF)
  /-- ST_W (R371): Stores a word. -/
  | stW (f : MemF)
  /-- ST_D (R371): Stores a doubleword. -/
  | stD (f : MemF)
  /-- VST (R397): Stores one vector row. -/
  | vst (f : MemF)
  /-- VSTS (R397): Stores a strided vector row. -/
  | vsts (f : MemF)
  /-- TST (R377): Stores a tile through a handle, with a trailer where TRL is set. -/
  | tst (f : MemT)
  /-- LBF (R341): Writes back a block's dirty bytes and frees the block. -/
  | lbf (f : MemF)
  /-- PUTF (R359): Writes a value into an EMPTY mailbox and makes it FULL (blocking). -/
  | putf (f : MemF)
  /-- AADD (R319): Atomic add at the home, returning the old value. -/
  | aadd (f : MemF)
  /-- AMIN_S (R319): Atomic signed minimum. -/
  | aminS (f : MemF)
  /-- AMIN_U (R319): Atomic unsigned minimum. -/
  | aminU (f : MemF)
  /-- AMAX_S (R319): Atomic signed maximum. -/
  | amaxS (f : MemF)
  /-- AMAX_U (R319): Atomic unsigned maximum. -/
  | amaxU (f : MemF)
  /-- AAND (R319): Atomic AND. -/
  | aand (f : MemF)
  /-- AOR (R319): Atomic OR. -/
  | aor (f : MemF)
  /-- AXOR (R319): Atomic XOR. -/
  | axor (f : MemF)
  /-- ASWP (R319): Atomic swap. -/
  | aswp (f : MemF)
  /-- ACAS (R319): Atomic compare-and-swap. -/
  | acas (f : MemF)
  /-- AFADD (R320): Atomic add of two FP32 lanes. -/
  | afadd (f : MemF)
  /-- AFMIN (R320): Atomic minimum of two FP32 lanes. -/
  | afmin (f : MemF)
  /-- AFMAX (R320): Atomic maximum of two FP32 lanes. -/
  | afmax (f : MemF)
  /-- CPY (R331): Copy command moving sl bytes from source to destination. -/
  | cpy (f : CC)
  /-- CPY2 (R332): Two-dimensional strided copy. -/
  | cpy2 (f : CC)
  /-- CPYT (R187): Tile copy into LOC that sets landing-mask bits chunk by chunk. -/
  | cpyt (f : CC)
  /-- CPYM (R187): Copy that then passes a follow-on M-slot word to the array. -/
  | cpym (f : CC)
  /-- CPYK (R187): Copy carrying a running CRC-32C, with an optional compare. -/
  | cpyk (f : CC)
  /-- CPYC (R186): Copy that then adds 1 to a signal. -/
  | cpyc (f : CC)
  /-- CPYA (R186): Copy that accumulates into the destination at its home. -/
  | cpya (f : CC)
  /-- CPYG (R332): Gather copy driven by an index list. -/
  | cpyg (f : CC)
  /-- CPYS (R186): Copy into the context's SCM window. -/
  | cpys (f : CC)
  /-- CPYF (R186): Copy out of the context's SCM window. -/
  | cpyf (f : CC)
  /-- PREF (R361): Brings lines into the LLC, or copies them into the die scratchpad. -/
  | pref (f : CC)
  /-- COLL_RS (R329): Collective reduce-scatter step over the ring. -/
  | collRs (f : CC)
  /-- COLL_AG (R329): Collective all-gather step over the ring. -/
  | collAg (f : CC)
  /-- COLL_AR (R329): Collective all-reduce accumulate step over the ring. -/
  | collAr (f : CC)
  /-- COLL_BC (R329): Collective broadcast step over the ring. -/
  | collBc (f : CC)
  /-- SPILL (R370): Writes an allocation and its record into the save area. -/
  | spill (f : CC)
  /-- FILL (R370): Restores a saved allocation and makes it fresh. -/
  | fill (f : CC)
  /-- ZFILL (R407): Writes sl zero bytes at the destination. -/
  | zfill (f : CC)
  /-- CCAN (R326): Cancels the copy command named by its token. -/
  | ccan (f : CC)
  /-- FENCE (R336): Orders later covered accesses after earlier ones within a scope. -/
  | fence (cmask : BitVec 16) (scope : BitVec 3)
  /-- OWN_E (R358): Pins the chunks of a LOC range. -/
  | ownE (sa : BitVec 6) (sl : BitVec 6)
  /-- OWN_P (R358): Unpins the chunks of a LOC range. -/
  | ownP (sa : BitVec 6) (sl : BitVec 6)
  /-- WCHK (R402): Waits until the wanted landing-mask bits are set. -/
  | wchk (m : BitVec 3) (sm : BitVec 6)
  /-- WENG (R403): Waits until the strand's earlier commands to the named engines complete. -/
  | weng (eng : BitVec 2)
  /-- BAR (R323): Barrier arrival ordering one class (blocking). -/
  | bar (sa : BitVec 6) (sn : BitVec 6) (oc : BitVec 4)
  /-- BARC (R323): Barrier arrival ordering all classes (blocking). -/
  | barc (sa : BitVec 6) (sn : BitVec 6) (oc : BitVec 4)
  /-- SIG (R368): Adds to a signal at its home, returning the old value. -/
  | sig (sa : BitVec 6) (sv : BitVec 6) (oc : BitVec 4) (d : BitVec 6)
  /-- WSIG (R404): Waits until a signal satisfies its mode, ordering one class. -/
  | wsig (sa : BitVec 6) (sv : BitVec 6) (oc : BitVec 4) (d : BitVec 6) (mode : BitVec 4)
  /-- WSIGA (R404): Waits until a signal satisfies its mode, ordering all classes. -/
  | wsiga (sa : BitVec 6) (sv : BitVec 6) (oc : BitVec 4) (d : BitVec 6) (mode : BitVec 4)
  /-- TICKW (R376): Waits until TICK reaches the target tick. -/
  | tickw (sv : BitVec 6)
  /-- YIELD (R406): Ends the strand's quantum so that an equal or higher strand may issue. -/
  | yield
  /-- ALLOC (R155): Grants a scratchpad allocation with a lifetime, or returns a failure code. -/
  | alloc (d : BitVec 6) (sz : BitVec 6) (lf : BitVec 6) (h : Bool) (st : Bool) (k : Bool)
  /-- FREE (R160): Frees an allocation once no engine holds it. -/
  | free (sa : BitVec 6)
  /-- RENEW (R159): Renews an allocation's lifetime and rewrites its lines. -/
  | renew (sa : BitVec 6)
  /-- MARK (R268): Records a tag and value in the die's mark table. -/
  | mark (sa : BitVec 6) (tag : BitVec 16)
  /-- HINT (R340): Writes ESTIMATE. -/
  | hint (sa : BitVec 6)
  /-- HIBQ (R339): Returns the hibernation state or the context's guaranteed share. -/
  | hibq (d : BitVec 6) (which : BitVec 2)
  /-- QBIND (R363): Binds a queue latch to a channel, or unbinds it. -/
  | qbind (q : BitVec 3) (sc : BitVec 6) (fmt : BitVec 4)
  /-- EMPTY_BUNDLE (R48): A bundle with no slot enabled issues, and its P, WAIT and POP take effect. -/
  | emptyBundle (p : Bool) (wait : BitVec 5) (pop : BitVec 8)
  /-- RESULT_LANDING (R51): A fixed-latency result lands in its register at its scheduled cycle. -/
  | resultLanding (err : Option Mismatch)
  /-- SCOREBOARD_LANDING (R53): A variable-latency result lands and clears the pending mark. -/
  | scoreboardLanding (k : Nat)
  /-- QUANTUM_EXPIRY (R43): A strand that has held issue for 256 cycles while a peer is ready loses issue. -/
  | quantumExpiry
  /-- SLACK_EXHAUSTED (R62): A command not accepted within its slack stops the strand's issue. -/
  | slackExhausted
  /-- WATCHDOG_EXPIRY (R59): A soft stop not reached within PERIODMAX becomes a hard stop. -/
  | watchdogExpiry
  /-- SOFT_STOP (R243): A pending soft stop is taken at a period once the strand settles. -/
  | softStop
  /-- DEBUG_STOP (R242): Firmware requests a soft stop for a debugger. -/
  | debugStop (launch : Nat) (rank : Nat)
  /-- RESUME (R260): Places a stopped unit and restores it from its save area. -/
  | resume (launch : Nat) (rank : Nat) (place : Place)
  /-- UNIT_ENDED (R21): An ENDING unit whose commands and writes have completed is freed and accounted. -/
  | unitEnded
  /-- ALLOC_EXPIRY (R157): An allocation becomes expired once CYCLE reaches EXPIRY. -/
  | allocExpiry
  /-- RETN_CHANGE (R158): RETN is revised and every EXPIRY is pulled in to match. -/
  | retnChange (die : Nat) (retn : Nat)
  /-- LATCH_HEAD_FETCH (R363): Fetches the next pushed item into a bound latch as its head. -/
  | latchHeadFetch (q : BitVec 3)
  /-- MATRIX_ACCEPT (R61): The array accepts the oldest M command once it has room. -/
  | matrixAccept
  /-- MATRIX_STEP (R183): The sequencer performs one indivisible step of a matrix command. -/
  | matrixStep (load : Bool) (err : Option Mismatch)
  /-- MATRIX_COMPLETE (R181): A matrix command completes and releases its holds. -/
  | matrixComplete (load : Bool)
  /-- BAND_GATE (R175): A band gates 64 cycles after it last held a valid row. -/
  | bandGate (band : Nat)
  /-- BAND_WAKE (R175): A gated band finishes waking 200 cycles later and the load is accepted. -/
  | bandWake
  /-- COPY_ACCEPT (R185): The copy engine accepts a command from its buffer and checks it. -/
  | copyAccept
  /-- COPY_CHUNK (R185): A 512-byte chunk of a copy performs at its destination. -/
  | copyChunk (k : Nat) (chunk : Nat) (err : Option Mismatch)
  /-- COPY_COMPLETE (R185): A copy completes and writes its token status. -/
  | copyComplete (k : Nat)
  /-- ENGINE_STOP_TIMEOUT (R256): A copy still running 65,536 cycles after its unit stopped is cancelled. -/
  | engineStopTimeout
  /-- COLL_SEND (R192): An accepted COLL begins sending once the group's earlier commands complete. -/
  | collSend (g : Nat)
  /-- COLL_MESSAGE (R192): The collective engine receives or buffers a message tagged (g, s). -/
  | collMessage (g : Nat) (step : Nat) (data : List (BitVec 8))
  /-- COLL_COMPLETE (R192): A COLL completes once the destination is written and the successor has accepted. -/
  | collComplete (g : Nat) (err : Option Mismatch)
  /-- FABRIC_REQUEST (R304): A request flit arrives on a Thethayth port. -/
  | fabricRequest (port : Nat) (flit : Flit)
  /-- FABRIC_DATA (R304): A data flit arrives on a Thethayth port. -/
  | fabricData (port : Nat) (flit : Flit)
  /-- HOLD (R264): A HOLD flit keeps the sender's collective command running. -/
  | holdFlit (g : FlitTo) (step : Nat)
  /-- NACK (R304): A NACK flit makes the sender offer the request again later. -/
  | nackFlit (tag : FlitTo) (wait : Nat)
  /-- HIBN (R276): A HIBN flit from a neighbour keeps the receiver's COLL commands running. -/
  | hibnFlit (g : GroupPeer) (step : Nat)
  /-- REJOIN (R276): A REJOIN flit makes the engine resend kept messages above the named step. -/
  | rejoinFlit (g : FlitTo) (step : Nat)
  /-- RETRY_RESEND (R264): A held or NACKed request is offered again after its wait. -/
  | retryResend
  /-- LINK_LOST (R303): A port is declared lost after 8 failed replays or 1 ms without lock, and retrains. -/
  | linkLost (port : Nat)
  /-- LINK_RETRAIN_TIMEOUT (R303): Commands waiting 10 ms for a retraining end with code 10. -/
  | linkRetrainTimeout (port : Nat)
  /-- SHOOTDOWN_MULTICAST (R239): A shoot-down flit revokes overlapping leases and is acknowledged. -/
  | shootdownMulticast (port : Nat) (src : ShootFrom) (ctx : Nat) (base : Nat) (len : Nat)
  /-- SHOOTDOWN_ACK (R239): A shoot-down acknowledgement is counted up the tree. -/
  | shootdownAck (ack : ShootAck)
  /-- SHOOTDOWN_TIMEOUT (R239): A module that has not acknowledged within 2 ms is fenced from the sharing group. -/
  | shootdownTimeout (modid : Nat)
  /-- REQUEST_AGING (R171): A request that has waited 8192 cycles is raised one class. -/
  | requestAging
  /-- SCRUB_WRITEBACK (R286): A corrected granule is written back with a fresh code. -/
  | scrubWriteback (addr : Nat)
  /-- LLC_LINE_ERROR (R290): An uncorrectable LLC line is dropped, or poisoned with its context killed. -/
  | llcLineError (line : Nat) (slice : Nat) (way : Nat) (dirty : Bool)
  /-- DIE_FENCE (R292): Cuts a failed die off, kills its contexts and reboots its compute die. -/
  | dieFence (cause : FenceCause)
  /-- DIE_LINK_TIMEOUT (R292): A die-network link silent for 14,000 cycles fences its die. -/
  | dieLinkTimeout (link : LinkSilence)
  /-- DIE_REJOIN (R292): A rebooted die resumes its queues and sets its live-die bit again. -/
  | dieRejoin (die : Nat)
  /-- THERMAL_TRIP (R310): A die reaching 115 °C is fenced at once. -/
  | thermalTrip (die : Nat)
  /-- PAGE_RETIREMENT (R289): Firmware copies a bad page to a spare and appends it to the bad-page list. -/
  | pageRetirement (page : Nat) (spare : Nat)
  /-- CLUSTER_GATE (R294): The cluster's peer port stops accepting requests at the cut-off. -/
  | clusterGate (die : Nat) (cluster : Nat)
  /-- CLUSTER_POWER_DOWN (R294): A gating cluster powers down once the last accepted request completes. -/
  | clusterPowerDown (die : Nat) (cluster : Nat)
  /-- CLUSTER_UNGATE (R294): Ungating restores acceptance at the peer port. -/
  | clusterUngate (die : Nat) (cluster : Nat)
  /-- PLACEMENT (R234): A free strand makes the distributor select, bind and place a team. -/
  | placement (die : Nat)
  /-- DRAIN_TIMEOUT (R241): A drained victim not ended within 2 × est cycles is judged again without DRAIN. -/
  | drainTimeout (die : Nat)
  /-- TICK_BOUNDARY (R236): TICK advances, tick releases fall due and TICKPH restarts. -/
  | tickBoundary
  /-- PREDECESSOR_RELEASE (R228): A launch's units become placeable when its predecessor completes with no abandoned members. -/
  | predecessorRelease (launch : Nat)
  /-- NOP (R217): A packet with no effect beyond being consumed. -/
  | nopPacket (q : Nat)
  /-- SLOT_LOAD (R222): Pins a model slot's code and extents from an image. -/
  | slotLoad (q : Nat)
  /-- SLOT_EVICT (R225): Empties a slot once its launches complete. -/
  | slotEvict (q : Nat)
  /-- INVOKE (R227): Opens a launch and binds each die's share. -/
  | invoke (q : Nat)
  /-- INVOKE_TICK (R228): Opens a launch whose units are released at a target tick. -/
  | invokeTick (q : Nat)
  /-- MBOX_PUT (R231): The acting die performs a PUTF on a mailbox. -/
  | mboxPut (q : Nat)
  /-- MBOX_TAKE (R231): The acting die performs a TAKE and stores the value. -/
  | mboxTake (q : Nat)
  /-- SIGNAL (R231): The acting die adds to a signal, as SIG does. -/
  | signalPacket (q : Nat)
  /-- WAIT_ALL (R231): Blocks the queue until every listed signal satisfies the mode. -/
  | waitAll (q : Nat)
  /-- WAIT_ANY (R231): Blocks the queue until any listed signal satisfies the mode. -/
  | waitAny (q : Nat)
  /-- PHASE_OPEN (R230): Opens a phase and its graph counters, released now or at a tick. -/
  | phaseOpen (q : Nat)
  /-- PHASE_CLOSE (R230): Frees a phase's IDs once the phase is complete. -/
  | phaseClose (q : Nat)
  /-- CANCEL (R37): Cancels a launch, graph, phase or job instance. -/
  | cancelPacket (q : Nat)
  /-- HIB_LIST (R233): Appends or replaces the context's hibernation list entries. -/
  | hibList (q : Nat)
  /-- QUEUE_RESUME (R216): A BLOCKED queue goes on once the condition it waited for holds. -/
  | queueResume (q : Nat)
  /-- WRIDX (R297): Advances a host ring's write index, or is refused and counted in DROPS. -/
  | wridxWrite (q : Nat) (value : BitVec 32)
  /-- STATUS (R297): Setting STATE to ACTIVE restarts a HALTED_ERR queue. -/
  | statusWrite (q : Nat) (value : BitVec 64)
  /-- RDIDX (R297): Sets the read index while the queue is UNBOUND or HALTED_ERR. -/
  | rdidxWrite (q : Nat) (value : BitVec 32)
  /-- QUEUE_BIND (R298): Writing BOUND = 1 binds the queue on every die of the die set. -/
  | queueBind (q : Nat) (value : BitVec 64)
  /-- QUEUE_UNBIND (R298): Writing BOUND = 0 unbinds the queue unless instances remain open. -/
  | queueUnbind (q : Nat)
  /-- QPRIO_WRITE (R234): Changes a queue's priority, applied from the next selection. -/
  | qprioWrite (q : Nat) (prio : BitVec 3)
  /-- CONTEXT_CREATE (R300): Setting VALID creates a context, fills its tokens and zeroes its windows. -/
  | contextCreate (ctx : Nat) (entry : BitVec 512)
  /-- CONTEXT_RELEASE (R300): Clearing VALID releases a context with no open instance or bound queue. -/
  | contextRelease (ctx : Nat)
  /-- SHOOTDOWN (R238): GO starts a shoot-down that checkpoints holders of revoked leases. -/
  | shootdown (base : BitVec 64) (len : BitVec 64) (ctl : BitVec 64)
  /-- TICKPER (R302): Starts the tick source, or sets the period from the next boundary. -/
  | tickperWrite (value : BitVec 64)
  /-- HIBREQ (R262): Writing 1 during B1 enters B2 at once. -/
  | hibreq
  /-- FLUSH (R126): Writing 1 saves every DIRTY group held for other units. -/
  | flushWrite
  /-- ATTESTATION (R314): Writes a signed attestation report to the host buffer. -/
  | attestation (nonce : BitVec 256) (buffer : BitVec 64)
  /-- BLOOM_CLEAR (R287): Clears a channel's Bloom filter. -/
  | bloomClear (channel : Nat)
  /-- GROUP_CREATE (R305): Setting VALID creates a collective group with L(g) = 0. -/
  | groupCreate (entry : GroupEntry)
  /-- GROUP_DISSOLVE (R305): Clearing VALID dissolves a group and ends its COLL commands with code 11. -/
  | groupDissolve (g : Nat)
  /-- REGISTER_WRITE (R296): A write to a window register with no behaviour of its own. -/
  | registerWrite (bar : BarAccess) (value : BitVec 64)
  /-- WARN_ENTRY (R261): Input below 50 V for 50 µs enters WARN. -/
  | warnEntry
  /-- WARN_EXIT (R261): Input at or above 50 V for 10 ms leaves WARN. -/
  | warnExit
  /-- B1_ENTRY (R263): Brown-out stops units, sheds dies outside KEEP, parks K allocations and holds retention. -/
  | b1Entry
  /-- B1_EXIT (R265): After 10 ms at or above 50 V the module restores power, allocations and collectives and resumes units. -/
  | b1Exit
  /-- B2_ENTRY (R270): Power-fail begins the hibernation stages. -/
  | b2Entry (cause : BitVec 2)
  /-- PARK (R270): Stage 2 checkpoints every unit on a strand. -/
  | park
  /-- DRAIN (R271): Stage 3 copies regions to SCM in the system, share and pool passes. -/
  | drain
  /-- SEAL (R274): Stage 4 writes and signs the manifest and advances the counter. -/
  | seal
  /-- POWER_OFF (R270): Stage 5 opens the supply switch. -/
  | powerOff
  /-- WARM_RESUME (R275): Supply returning during B2 resumes units from their save areas. -/
  | warmResume
  /-- COLD_BOOT (R277): Boots the module and restores a current image if one exists. -/
  | coldBoot
  /-- BUDGET_RECOMPUTE (R267): Firmware recomputes the drain budget and shares at least every 10 ms. -/
  | budgetRecompute (budget : Nat)
  /-- HEARTBEAT (R310): Power-controller firmware writes its heartbeat. -/
  | heartbeat
  /-- HEARTBEAT_MISS (R310): A missed heartbeat drops clocks to 1.4 GHz and reverts clamps. -/
  | heartbeatMiss
  /-- CURRENT_SAMPLE (R307): A cluster's current sample starts or ends throttling. -/
  | currentSample (die : Nat) (cluster : Nat) (value : Nat)
  /-- WEAR_UPDATE (R308): The wear counter adds its weight each millisecond and the ceiling is recomputed. -/
  | wearUpdate (die : Nat) (cluster : Nat) (weight : Nat)
  /-- CLOCK_CHANGE (R306): The power controller changes a die's frequency between cycles. -/
  | clockChange (die : Nat) (mhz : Nat) (retn : Nat)
  /-- BOOT_LEVEL_RISE (R316): BLEVEL rises and the live-die map changes. -/
  | bootLevelRise (dies : BitVec 16)
  /-- FIRMWARE_UPDATE (R312): An admitted image is written to the inactive copy and its rollback counter raised. -/
  | firmwareUpdate (image : FwImage)
  /-- WRITE_PERFORMS (R283): A store applied at its home may report MEM_UE (KIND 2), STALE or PEER_GATED back to the issuing strand. -/
  | writePerforms (k : Nat)
  /-- PORT_RETRAINED (R303): A lost port finishes retraining and the commands waiting on it go on. -/
  | portRetrained (port : Nat)
  /-- BASE_DIE_FAULT (R292): A base-die fault that cannot be pinned to a line takes the stack's pages out of use and kills contexts leasing them. -/
  | baseDieFault (die : Nat)
  /-- LLC_WAY_REENABLE (R290): Firmware tests a quarantined LLC way and re-enables it to take lines. -/
  | llcWayReenable (slice : Nat) (way : Nat)
  /-- TERMINATION (R253): Firmware terminates a unit that a hard stop or a PIPE_ERR sent to it, counting it abandoned and letting its team resume. -/
  | termination (launch : Nat) (rank : Nat)
  deriving DecidableEq, Repr

/-- The kinds of slot of a bundle (02 R47). V0 and V1 share a map (03 R68). -/
inductive SlotKind where
  | S | V | M | L | W | C | Y
  deriving DecidableEq, Repr

end Sys2Proof
end

