-- ==== Sys2Proof/WellFormed.lean ====
section
/-! DEFINITION. What the decode checks require of an instruction word (03 R71 to R85, R89): its slot kind and opcode,
the fields an opcode leaves unused, and the field values that are out of range. -/

namespace Sys2Proof

/-- The slot kind whose map holds the opcode (03 R67 to R69); an event has none. -/
def Instr.slotKind : Instr → Option SlotKind
  | .add _ _ _ => some .S
  | .sub _ _ _ => some .S
  | .mul _ _ _ => some .S
  | .mulhiS _ _ _ => some .S
  | .mulhiU _ _ _ => some .S
  | .divS _ _ _ => some .S
  | .divU _ _ _ => some .S
  | .remS _ _ _ => some .S
  | .remU _ _ _ => some .S
  | .land _ _ _ => some .S
  | .lor _ _ _ => some .S
  | .lxor _ _ _ => some .S
  | .andn _ _ _ => some .S
  | .shl _ _ _ => some .S
  | .shr _ _ _ => some .S
  | .sar _ _ _ => some .S
  | .rotl _ _ _ => some .S
  | .minS _ _ _ => some .S
  | .minU _ _ _ => some .S
  | .maxS _ _ _ => some .S
  | .maxU _ _ _ => some .S
  | .cmpEq _ _ _ => some .S
  | .cmpNe _ _ _ => some .S
  | .cmpLt _ _ _ => some .S
  | .cmpLe _ _ _ => some .S
  | .cmpLtu _ _ _ => some .S
  | .cmpLeu _ _ _ => some .S
  | .cmpiEq _ _ _ => some .S
  | .cmpiNe _ _ _ => some .S
  | .cmpiLt _ _ _ => some .S
  | .cmpiLe _ _ _ => some .S
  | .cmpiLtu _ _ _ => some .S
  | .cmpiLeu _ _ _ => some .S
  | .sel _ _ _ _ => some .S
  | .addi _ _ _ => some .S
  | .li _ _ => some .S
  | .lih _ _ => some .S
  | .clz _ _ => some .S
  | .popc _ _ => some .S
  | .bitrev _ _ => some .S
  | .crc32 _ _ _ => some .S
  | .extr _ _ _ _ => some .S
  | .ins _ _ _ _ => some .S
  | .brZ _ _ => some .S
  | .brNz _ _ => some .S
  | .brLtz _ _ => some .S
  | .brGez _ _ => some .S
  | .jmp _ => some .S
  | .call _ => some .S
  | .ret => some .S
  | .loop _ _ => some .S
  | .loopi _ _ => some .S
  | .lbrk => some .S
  | .mfsr _ _ => some .S
  | .mtsr _ _ => some .S
  | .slack _ => some .S
  | .trap _ => some .S
  | .endUnit => some .S
  | .rft => some .S
  | .setx _ _ => some .S
  | .getx _ _ => some .S
  | .vadd _ => some .V
  | .vsub _ => some .V
  | .vmul _ => some .V
  | .vfma _ => some .V
  | .vfms _ => some .V
  | .vdiv _ => some .V
  | .vmin _ => some .V
  | .vmax _ => some .V
  | .vabs _ => some .V
  | .vneg _ => some .V
  | .vcpsgn _ => some .V
  | .vscal _ => some .V
  | .vrnd _ => some .V
  | .vrcp _ => some .V
  | .vrsq _ => some .V
  | .vsqrt _ => some .V
  | .vexp2 _ => some .V
  | .vlog2 _ => some .V
  | .vtanh _ => some .V
  | .vcmpEq _ => some .V
  | .vcmpNe _ => some .V
  | .vcmpLt _ => some .V
  | .vcmpLe _ => some .V
  | .vcmpGt _ => some .V
  | .vcmpGe _ => some .V
  | .viadd _ => some .V
  | .visub _ => some .V
  | .vimul _ => some .V
  | .vimad _ => some .V
  | .vimin _ => some .V
  | .vimax _ => some .V
  | .vavg _ => some .V
  | .vicmpEq _ => some .V
  | .vicmpNe _ => some .V
  | .vicmpLt _ => some .V
  | .vicmpLe _ => some .V
  | .vicmpLtu _ => some .V
  | .vicmpLeu _ => some .V
  | .vand _ => some .V
  | .vor _ => some .V
  | .vxor _ => some .V
  | .vshl _ => some .V
  | .vshr _ => some .V
  | .vsar _ => some .V
  | .vclz _ => some .V
  | .vpopc _ => some .V
  | .vsel _ => some .V
  | .vclamp _ => some .V
  | .vcvt _ => some .V
  | .vqnt _ => some .V
  | .vdqn _ => some .V
  | .vcmpr _ => some .V
  | .vmov _ => some .V
  | .vfill _ => some .V
  | .vbcs _ => some .V
  | .vperm _ => some .V
  | .vsld _ => some .V
  | .vzip _ => some .V
  | .vunz _ => some .V
  | .vrsum _ => some .V
  | .vrmax _ => some .V
  | .vrmin _ => some .V
  | .tcsum _ => some .V
  | .tcmax _ => some .V
  | .tcrd _ _ _ => some .V
  | .tcwr _ _ _ => some .V
  | .ttrn _ _ => some .V
  | .tcfg _ _ _ _ => some .V
  | .trel _ => some .V
  | .vcrc _ => some .V
  | .mcfg _ => some .M
  | .mscl _ => some .M
  | .mlds _ => some .M
  | .mldsT _ => some .M
  | .mldsh _ => some .M
  | .mldsp _ => some .M
  | .mswp _ => some .M
  | .mstr _ => some .M
  | .mstrT _ => some .M
  | .mstrh _ => some .M
  | .mgrp _ => some .M
  | .msps _ => some .M
  | .mza _ => some .M
  | .mwra _ => some .M
  | .mrda _ => some .M
  | .mrds _ => some .M
  | .mcan _ => some .M
  | .ldB _ => some .L
  | .ldBu _ => some .L
  | .ldH _ => some .L
  | .ldHu _ => some .L
  | .ldW _ => some .L
  | .ldWu _ => some .L
  | .ldD _ => some .L
  | .vld _ => some .L
  | .vlds _ => some .L
  | .vldb _ => some .L
  | .tld _ => some .L
  | .thdl _ => some .L
  | .ldb _ => some .L
  | .pld _ => some .L
  | .take _ => some .L
  | .peek _ => some .L
  | .stB _ => some .W
  | .stH _ => some .W
  | .stW _ => some .W
  | .stD _ => some .W
  | .vst _ => some .W
  | .vsts _ => some .W
  | .tst _ => some .W
  | .lbf _ => some .W
  | .putf _ => some .W
  | .aadd _ => some .W
  | .aminS _ => some .W
  | .aminU _ => some .W
  | .amaxS _ => some .W
  | .amaxU _ => some .W
  | .aand _ => some .W
  | .aor _ => some .W
  | .axor _ => some .W
  | .aswp _ => some .W
  | .acas _ => some .W
  | .afadd _ => some .W
  | .afmin _ => some .W
  | .afmax _ => some .W
  | .cpy _ => some .C
  | .cpy2 _ => some .C
  | .cpyt _ => some .C
  | .cpym _ => some .C
  | .cpyk _ => some .C
  | .cpyc _ => some .C
  | .cpya _ => some .C
  | .cpyg _ => some .C
  | .cpys _ => some .C
  | .cpyf _ => some .C
  | .pref _ => some .C
  | .collRs _ => some .C
  | .collAg _ => some .C
  | .collAr _ => some .C
  | .collBc _ => some .C
  | .spill _ => some .C
  | .fill _ => some .C
  | .zfill _ => some .C
  | .ccan _ => some .C
  | .fence _ _ => some .Y
  | .ownE _ _ => some .Y
  | .ownP _ _ => some .Y
  | .wchk _ _ => some .Y
  | .weng _ => some .Y
  | .bar _ _ _ => some .Y
  | .barc _ _ _ => some .Y
  | .sig _ _ _ _ => some .Y
  | .wsig _ _ _ _ _ => some .Y
  | .wsiga _ _ _ _ _ => some .Y
  | .tickw _ => some .Y
  | .yield => some .Y
  | .alloc _ _ _ _ _ _ => some .Y
  | .free _ => some .Y
  | .renew _ => some .Y
  | .mark _ _ => some .Y
  | .hint _ => some .Y
  | .hibq _ _ => some .Y
  | .qbind _ _ _ => some .Y
  | .emptyBundle _ _ _ => none
  | .resultLanding _ => none
  | .scoreboardLanding _ => none
  | .quantumExpiry => none
  | .slackExhausted => none
  | .watchdogExpiry => none
  | .softStop => none
  | .debugStop _ _ => none
  | .resume _ _ _ => none
  | .unitEnded => none
  | .allocExpiry => none
  | .retnChange _ _ => none
  | .latchHeadFetch _ => none
  | .matrixAccept => none
  | .matrixStep _ _ => none
  | .matrixComplete _ => none
  | .bandGate _ => none
  | .bandWake => none
  | .copyAccept => none
  | .copyChunk _ _ _ => none
  | .copyComplete _ => none
  | .engineStopTimeout => none
  | .collSend _ => none
  | .collMessage _ _ _ => none
  | .collComplete _ _ => none
  | .fabricRequest _ _ => none
  | .fabricData _ _ => none
  | .holdFlit _ _ => none
  | .nackFlit _ _ => none
  | .hibnFlit _ _ => none
  | .rejoinFlit _ _ => none
  | .retryResend => none
  | .linkLost _ => none
  | .linkRetrainTimeout _ => none
  | .shootdownMulticast _ _ _ _ _ => none
  | .shootdownAck _ => none
  | .shootdownTimeout _ => none
  | .requestAging => none
  | .scrubWriteback _ => none
  | .llcLineError _ _ _ _ => none
  | .dieFence _ => none
  | .dieLinkTimeout _ => none
  | .dieRejoin _ => none
  | .thermalTrip _ => none
  | .pageRetirement _ _ => none
  | .clusterGate _ _ => none
  | .clusterPowerDown _ _ => none
  | .clusterUngate _ _ => none
  | .placement _ => none
  | .drainTimeout _ => none
  | .tickBoundary => none
  | .predecessorRelease _ => none
  | .nopPacket _ => none
  | .slotLoad _ => none
  | .slotEvict _ => none
  | .invoke _ => none
  | .invokeTick _ => none
  | .mboxPut _ => none
  | .mboxTake _ => none
  | .signalPacket _ => none
  | .waitAll _ => none
  | .waitAny _ => none
  | .phaseOpen _ => none
  | .phaseClose _ => none
  | .cancelPacket _ => none
  | .hibList _ => none
  | .queueResume _ => none
  | .wridxWrite _ _ => none
  | .statusWrite _ _ => none
  | .rdidxWrite _ _ => none
  | .queueBind _ _ => none
  | .queueUnbind _ => none
  | .qprioWrite _ _ => none
  | .contextCreate _ _ => none
  | .contextRelease _ => none
  | .shootdown _ _ _ => none
  | .tickperWrite _ => none
  | .hibreq => none
  | .flushWrite => none
  | .attestation _ _ => none
  | .bloomClear _ => none
  | .groupCreate _ => none
  | .groupDissolve _ => none
  | .registerWrite _ _ => none
  | .warnEntry => none
  | .warnExit => none
  | .b1Entry => none
  | .b1Exit => none
  | .b2Entry _ => none
  | .park => none
  | .drain => none
  | .seal => none
  | .powerOff => none
  | .warmResume => none
  | .coldBoot => none
  | .budgetRecompute _ => none
  | .heartbeat => none
  | .heartbeatMiss => none
  | .currentSample _ _ _ => none
  | .wearUpdate _ _ _ => none
  | .clockChange _ _ _ => none
  | .bootLevelRise _ => none
  | .firmwareUpdate _ => none
  | .writePerforms _ => none
  | .portRetrained _ => none
  | .baseDieFault _ => none
  | .llcWayReenable _ _ => none
  | .termination _ _ => none

/-- The opcode value (03 R67 to R69); 0 for an event. -/
def Instr.opcode : Instr → Nat
  | .add _ _ _ => 0x01
  | .sub _ _ _ => 0x02
  | .mul _ _ _ => 0x03
  | .mulhiS _ _ _ => 0x04
  | .mulhiU _ _ _ => 0x05
  | .divS _ _ _ => 0x06
  | .divU _ _ _ => 0x07
  | .remS _ _ _ => 0x08
  | .remU _ _ _ => 0x09
  | .land _ _ _ => 0x0A
  | .lor _ _ _ => 0x0B
  | .lxor _ _ _ => 0x0C
  | .andn _ _ _ => 0x0D
  | .shl _ _ _ => 0x0E
  | .shr _ _ _ => 0x0F
  | .sar _ _ _ => 0x10
  | .rotl _ _ _ => 0x11
  | .minS _ _ _ => 0x12
  | .minU _ _ _ => 0x13
  | .maxS _ _ _ => 0x14
  | .maxU _ _ _ => 0x15
  | .cmpEq _ _ _ => 0x16
  | .cmpNe _ _ _ => 0x17
  | .cmpLt _ _ _ => 0x18
  | .cmpLe _ _ _ => 0x19
  | .cmpLtu _ _ _ => 0x1A
  | .cmpLeu _ _ _ => 0x1B
  | .cmpiEq _ _ _ => 0x1C
  | .cmpiNe _ _ _ => 0x1D
  | .cmpiLt _ _ _ => 0x1E
  | .cmpiLe _ _ _ => 0x1F
  | .cmpiLtu _ _ _ => 0x20
  | .cmpiLeu _ _ _ => 0x21
  | .sel _ _ _ _ => 0x22
  | .addi _ _ _ => 0x23
  | .li _ _ => 0x24
  | .lih _ _ => 0x25
  | .clz _ _ => 0x26
  | .popc _ _ => 0x27
  | .bitrev _ _ => 0x28
  | .crc32 _ _ _ => 0x29
  | .extr _ _ _ _ => 0x2A
  | .ins _ _ _ _ => 0x2B
  | .brZ _ _ => 0x2C
  | .brNz _ _ => 0x2D
  | .brLtz _ _ => 0x2E
  | .brGez _ _ => 0x2F
  | .jmp _ => 0x30
  | .call _ => 0x31
  | .ret => 0x32
  | .loop _ _ => 0x33
  | .loopi _ _ => 0x34
  | .lbrk => 0x35
  | .mfsr _ _ => 0x36
  | .mtsr _ _ => 0x37
  | .slack _ => 0x38
  | .trap _ => 0x39
  | .endUnit => 0x3A
  | .rft => 0x3B
  | .setx _ _ => 0x3C
  | .getx _ _ => 0x3D
  | .vadd _ => 0x01
  | .vsub _ => 0x02
  | .vmul _ => 0x03
  | .vfma _ => 0x04
  | .vfms _ => 0x05
  | .vdiv _ => 0x06
  | .vmin _ => 0x07
  | .vmax _ => 0x08
  | .vabs _ => 0x09
  | .vneg _ => 0x0A
  | .vcpsgn _ => 0x0B
  | .vscal _ => 0x0C
  | .vrnd _ => 0x0D
  | .vrcp _ => 0x0E
  | .vrsq _ => 0x0F
  | .vsqrt _ => 0x10
  | .vexp2 _ => 0x11
  | .vlog2 _ => 0x12
  | .vtanh _ => 0x13
  | .vcmpEq _ => 0x14
  | .vcmpNe _ => 0x15
  | .vcmpLt _ => 0x16
  | .vcmpLe _ => 0x17
  | .vcmpGt _ => 0x18
  | .vcmpGe _ => 0x19
  | .viadd _ => 0x1A
  | .visub _ => 0x1B
  | .vimul _ => 0x1C
  | .vimad _ => 0x1D
  | .vimin _ => 0x1E
  | .vimax _ => 0x1F
  | .vavg _ => 0x20
  | .vicmpEq _ => 0x21
  | .vicmpNe _ => 0x22
  | .vicmpLt _ => 0x23
  | .vicmpLe _ => 0x24
  | .vicmpLtu _ => 0x25
  | .vicmpLeu _ => 0x26
  | .vand _ => 0x27
  | .vor _ => 0x28
  | .vxor _ => 0x29
  | .vshl _ => 0x2A
  | .vshr _ => 0x2B
  | .vsar _ => 0x2C
  | .vclz _ => 0x2D
  | .vpopc _ => 0x2E
  | .vsel _ => 0x2F
  | .vclamp _ => 0x30
  | .vcvt _ => 0x31
  | .vqnt _ => 0x32
  | .vdqn _ => 0x33
  | .vcmpr _ => 0x34
  | .vmov _ => 0x35
  | .vfill _ => 0x36
  | .vbcs _ => 0x37
  | .vperm _ => 0x38
  | .vsld _ => 0x39
  | .vzip _ => 0x3A
  | .vunz _ => 0x3B
  | .vrsum _ => 0x3C
  | .vrmax _ => 0x3D
  | .vrmin _ => 0x3E
  | .tcsum _ => 0x3F
  | .tcmax _ => 0x40
  | .tcrd _ _ _ => 0x41
  | .tcwr _ _ _ => 0x42
  | .ttrn _ _ => 0x43
  | .tcfg _ _ _ _ => 0x44
  | .trel _ => 0x45
  | .vcrc _ => 0x46
  | .mcfg _ => 0x01
  | .mscl _ => 0x02
  | .mlds _ => 0x03
  | .mldsT _ => 0x04
  | .mldsh _ => 0x05
  | .mldsp _ => 0x06
  | .mswp _ => 0x07
  | .mstr _ => 0x08
  | .mstrT _ => 0x09
  | .mstrh _ => 0x0A
  | .mgrp _ => 0x0B
  | .msps _ => 0x0C
  | .mza _ => 0x0D
  | .mwra _ => 0x0E
  | .mrda _ => 0x0F
  | .mrds _ => 0x10
  | .mcan _ => 0x11
  | .ldB _ => 0x01
  | .ldBu _ => 0x02
  | .ldH _ => 0x03
  | .ldHu _ => 0x04
  | .ldW _ => 0x05
  | .ldWu _ => 0x06
  | .ldD _ => 0x07
  | .vld _ => 0x08
  | .vlds _ => 0x09
  | .vldb _ => 0x0A
  | .tld _ => 0x0B
  | .thdl _ => 0x0C
  | .ldb _ => 0x0D
  | .pld _ => 0x0E
  | .take _ => 0x0F
  | .peek _ => 0x10
  | .stB _ => 0x01
  | .stH _ => 0x02
  | .stW _ => 0x03
  | .stD _ => 0x04
  | .vst _ => 0x05
  | .vsts _ => 0x06
  | .tst _ => 0x07
  | .lbf _ => 0x08
  | .putf _ => 0x09
  | .aadd _ => 0x0A
  | .aminS _ => 0x0B
  | .aminU _ => 0x0C
  | .amaxS _ => 0x0D
  | .amaxU _ => 0x0E
  | .aand _ => 0x0F
  | .aor _ => 0x10
  | .axor _ => 0x11
  | .aswp _ => 0x12
  | .acas _ => 0x13
  | .afadd _ => 0x14
  | .afmin _ => 0x15
  | .afmax _ => 0x16
  | .cpy _ => 0x01
  | .cpy2 _ => 0x02
  | .cpyt _ => 0x03
  | .cpym _ => 0x04
  | .cpyk _ => 0x05
  | .cpyc _ => 0x06
  | .cpya _ => 0x07
  | .cpyg _ => 0x08
  | .cpys _ => 0x09
  | .cpyf _ => 0x0A
  | .pref _ => 0x0B
  | .collRs _ => 0x0C
  | .collAg _ => 0x0D
  | .collAr _ => 0x0E
  | .collBc _ => 0x0F
  | .spill _ => 0x10
  | .fill _ => 0x11
  | .zfill _ => 0x12
  | .ccan _ => 0x13
  | .fence _ _ => 0x01
  | .ownE _ _ => 0x02
  | .ownP _ _ => 0x03
  | .wchk _ _ => 0x04
  | .weng _ => 0x05
  | .bar _ _ _ => 0x06
  | .barc _ _ _ => 0x07
  | .sig _ _ _ _ => 0x08
  | .wsig _ _ _ _ _ => 0x09
  | .wsiga _ _ _ _ _ => 0x0A
  | .tickw _ => 0x0B
  | .yield => 0x0C
  | .alloc _ _ _ _ _ _ => 0x0D
  | .free _ => 0x0E
  | .renew _ => 0x0F
  | .mark _ _ => 0x10
  | .hint _ => 0x11
  | .hibq _ _ => 0x12
  | .qbind _ _ _ => 0x13
  | .emptyBundle _ _ _ => 0
  | .resultLanding _ => 0
  | .scoreboardLanding _ => 0
  | .quantumExpiry => 0
  | .slackExhausted => 0
  | .watchdogExpiry => 0
  | .softStop => 0
  | .debugStop _ _ => 0
  | .resume _ _ _ => 0
  | .unitEnded => 0
  | .allocExpiry => 0
  | .retnChange _ _ => 0
  | .latchHeadFetch _ => 0
  | .matrixAccept => 0
  | .matrixStep _ _ => 0
  | .matrixComplete _ => 0
  | .bandGate _ => 0
  | .bandWake => 0
  | .copyAccept => 0
  | .copyChunk _ _ _ => 0
  | .copyComplete _ => 0
  | .engineStopTimeout => 0
  | .collSend _ => 0
  | .collMessage _ _ _ => 0
  | .collComplete _ _ => 0
  | .fabricRequest _ _ => 0
  | .fabricData _ _ => 0
  | .holdFlit _ _ => 0
  | .nackFlit _ _ => 0
  | .hibnFlit _ _ => 0
  | .rejoinFlit _ _ => 0
  | .retryResend => 0
  | .linkLost _ => 0
  | .linkRetrainTimeout _ => 0
  | .shootdownMulticast _ _ _ _ _ => 0
  | .shootdownAck _ => 0
  | .shootdownTimeout _ => 0
  | .requestAging => 0
  | .scrubWriteback _ => 0
  | .llcLineError _ _ _ _ => 0
  | .dieFence _ => 0
  | .dieLinkTimeout _ => 0
  | .dieRejoin _ => 0
  | .thermalTrip _ => 0
  | .pageRetirement _ _ => 0
  | .clusterGate _ _ => 0
  | .clusterPowerDown _ _ => 0
  | .clusterUngate _ _ => 0
  | .placement _ => 0
  | .drainTimeout _ => 0
  | .tickBoundary => 0
  | .predecessorRelease _ => 0
  | .nopPacket _ => 0
  | .slotLoad _ => 0
  | .slotEvict _ => 0
  | .invoke _ => 0
  | .invokeTick _ => 0
  | .mboxPut _ => 0
  | .mboxTake _ => 0
  | .signalPacket _ => 0
  | .waitAll _ => 0
  | .waitAny _ => 0
  | .phaseOpen _ => 0
  | .phaseClose _ => 0
  | .cancelPacket _ => 0
  | .hibList _ => 0
  | .queueResume _ => 0
  | .wridxWrite _ _ => 0
  | .statusWrite _ _ => 0
  | .rdidxWrite _ _ => 0
  | .queueBind _ _ => 0
  | .queueUnbind _ => 0
  | .qprioWrite _ _ => 0
  | .contextCreate _ _ => 0
  | .contextRelease _ => 0
  | .shootdown _ _ _ => 0
  | .tickperWrite _ => 0
  | .hibreq => 0
  | .flushWrite => 0
  | .attestation _ _ => 0
  | .bloomClear _ => 0
  | .groupCreate _ => 0
  | .groupDissolve _ => 0
  | .registerWrite _ _ => 0
  | .warnEntry => 0
  | .warnExit => 0
  | .b1Entry => 0
  | .b1Exit => 0
  | .b2Entry _ => 0
  | .park => 0
  | .drain => 0
  | .seal => 0
  | .powerOff => 0
  | .warmResume => 0
  | .coldBoot => 0
  | .budgetRecompute _ => 0
  | .heartbeat => 0
  | .heartbeatMiss => 0
  | .currentSample _ _ _ => 0
  | .wearUpdate _ _ _ => 0
  | .clockChange _ _ _ => 0
  | .bootLevelRise _ => 0
  | .firmwareUpdate _ => 0
  | .writePerforms _ => 0
  | .portRetrained _ => 0
  | .baseDieFault _ => 0
  | .llcWayReenable _ _ => 0
  | .termination _ _ => 0

/-- A row of the opcode table that is no opcode: a step of another agent. -/
def Instr.isEvent (i : Instr) : Bool := i.slotKind.isNone

/-- The last assigned opcode value of each map (03 R67 to R69). -/
def SlotKind.lastOpcode : SlotKind → Nat
  | .S => 0x3D
  | .V => 0x46
  | .M => 0x11
  | .L => 0x10
  | .W => 0x16
  | .C => 0x13
  | .Y => 0x13

/-- A set of format tags as a list (05 R108). -/
abbrev Tags := List (BitVec 4)

def tagsFp : Tags := [1, 2, 3]
def tagsInt : Tags := [4, 5, 6, 7]
def tagsAny : Tags := [1, 2, 3, 4, 5, 6, 7, 8, 9, 10, 11, 12]
def tagsBse : Tags := [8, 9, 10]
def tagsArray : Tags := [1, 2, 3, 8, 9, 10]
def tagsNumber : Tags := [1, 2, 3, 4, 5, 6, 7]

/-- The columns of 03 R76 for a V.R opcode: whether b, c, rnd and sat are used, and what fmt accepts (the empty list
when fmt must be 0). -/
structure VRUse where
  b : Bool
  c : Bool
  rnd : Bool
  sat : Bool
  fmts : Tags
  deriving DecidableEq, Repr

def Instr.vrUse : Instr → Option (VR × VRUse)
  | .vadd f => some (f, ⟨true, false, true, true, tagsFp⟩)
  | .vsub f => some (f, ⟨true, false, true, true, tagsFp⟩)
  | .vmul f => some (f, ⟨true, false, true, true, tagsFp⟩)
  | .vfma f => some (f, ⟨true, true, true, true, tagsFp⟩)
  | .vfms f => some (f, ⟨true, true, true, true, tagsFp⟩)
  | .vdiv f => some (f, ⟨true, false, true, true, tagsFp⟩)
  | .vmin f => some (f, ⟨true, false, true, true, tagsFp⟩)
  | .vmax f => some (f, ⟨true, false, true, true, tagsFp⟩)
  | .vabs f => some (f, ⟨false, false, false, false, tagsFp⟩)
  | .vneg f => some (f, ⟨false, false, false, false, tagsFp⟩)
  | .vcpsgn f => some (f, ⟨true, false, false, false, tagsFp⟩)
  | .vrnd f => some (f, ⟨false, false, true, true, tagsFp⟩)
  | .vrcp f => some (f, ⟨false, false, true, true, tagsFp⟩)
  | .vrsq f => some (f, ⟨false, false, true, true, tagsFp⟩)
  | .vsqrt f => some (f, ⟨false, false, true, true, tagsFp⟩)
  | .vexp2 f => some (f, ⟨false, false, true, true, tagsFp⟩)
  | .vlog2 f => some (f, ⟨false, false, true, true, tagsFp⟩)
  | .vtanh f => some (f, ⟨false, false, true, true, tagsFp⟩)
  | .vcmpEq f => some (f, ⟨true, false, false, false, tagsFp⟩)
  | .vcmpNe f => some (f, ⟨true, false, false, false, tagsFp⟩)
  | .vcmpLt f => some (f, ⟨true, false, false, false, tagsFp⟩)
  | .vcmpLe f => some (f, ⟨true, false, false, false, tagsFp⟩)
  | .vcmpGt f => some (f, ⟨true, false, false, false, tagsFp⟩)
  | .vcmpGe f => some (f, ⟨true, false, false, false, tagsFp⟩)
  | .viadd f => some (f, ⟨true, false, false, true, tagsInt⟩)
  | .visub f => some (f, ⟨true, false, false, true, tagsInt⟩)
  | .vimul f => some (f, ⟨true, false, false, true, tagsInt⟩)
  | .vimad f => some (f, ⟨true, true, false, true, tagsInt⟩)
  | .vimin f => some (f, ⟨true, false, false, true, tagsInt⟩)
  | .vimax f => some (f, ⟨true, false, false, true, tagsInt⟩)
  | .vavg f => some (f, ⟨true, false, true, true, tagsInt⟩)
  | .vicmpEq f => some (f, ⟨true, false, false, false, tagsInt⟩)
  | .vicmpNe f => some (f, ⟨true, false, false, false, tagsInt⟩)
  | .vicmpLt f => some (f, ⟨true, false, false, false, tagsInt⟩)
  | .vicmpLe f => some (f, ⟨true, false, false, false, tagsInt⟩)
  | .vicmpLtu f => some (f, ⟨true, false, false, false, tagsInt⟩)
  | .vicmpLeu f => some (f, ⟨true, false, false, false, tagsInt⟩)
  | .vand f => some (f, ⟨true, false, false, false, tagsAny⟩)
  | .vor f => some (f, ⟨true, false, false, false, tagsAny⟩)
  | .vxor f => some (f, ⟨true, false, false, false, tagsAny⟩)
  | .vshl f => some (f, ⟨true, false, false, false, tagsInt⟩)
  | .vshr f => some (f, ⟨true, false, false, false, tagsInt⟩)
  | .vsar f => some (f, ⟨true, false, false, false, tagsInt⟩)
  | .vclz f => some (f, ⟨false, false, false, false, tagsInt⟩)
  | .vpopc f => some (f, ⟨false, false, false, false, tagsInt⟩)
  | .vsel f => some (f, ⟨true, true, false, false, tagsAny⟩)
  | .vclamp f => some (f, ⟨true, true, false, false, tagsAny⟩)
  | .vcvt f => some (f, ⟨false, false, true, true, tagsNumber⟩)
  | .vqnt f => some (f, ⟨false, false, true, true, tagsBse⟩)
  | .vdqn f => some (f, ⟨false, false, true, false, tagsFp⟩)
  | .vcmpr f => some (f, ⟨true, false, false, false, [2, 3, 6, 8, 9, 10]⟩)
  | .vmov f => some (f, ⟨false, false, false, false, []⟩)
  | .vperm f => some (f, ⟨true, false, false, false, []⟩)
  | .vzip f => some (f, ⟨true, false, false, false, []⟩)
  | .vunz f => some (f, ⟨true, false, false, false, []⟩)
  | .vrsum f => some (f, ⟨false, false, true, true, [1, 2, 3, 4]⟩)
  | .vrmax f => some (f, ⟨false, false, false, false, tagsNumber⟩)
  | .vrmin f => some (f, ⟨false, false, false, false, tagsNumber⟩)
  | .tcsum f => some (f, ⟨false, false, true, true, [1, 2, 3, 4]⟩)
  | .tcmax f => some (f, ⟨false, false, false, false, tagsNumber⟩)
  | .vcrc f => some (f, ⟨false, false, false, false, []⟩)
  | _ => none

/-- A V.R word with the fields its opcode leaves unused set to zero (03 R76). -/
def VR.clean (u : VRUse) (f : VR) : VR :=
  { f with
    b := if u.b then f.b else 0
    c := if u.c then f.c else 0
    rnd := if u.rnd then f.rnd else 0
    sat := if u.sat then f.sat else 0
    fmt := if u.fmts = [] then 0 else f.fmt }

/-- V.S with unused fields zero: s, the bits of imm16 in `mask`, rnd (03 R76, 17 R386, R398). -/
def VS.clean (useA useS : Bool) (mask : BitVec 16) (useRnd : Bool) (f : VS) : VS :=
  { f with
    a := if useA then f.a else 0
    s := if useS then f.s else 0
    imm := f.imm &&& mask
    rnd := if useRnd then f.rnd else 0 }

/-- M.A with unused fields zero (03 R78). -/
def MA.clean (acc h sa sn oc z fmt : Bool) (f : MA) : MA :=
  { acc := if acc then f.acc else 0
    h := if h then f.h else 0
    sa := if sa then f.sa else 0
    sn := if sn then f.sn else 0
    oc := if oc then f.oc else 0
    z := if z then f.z else 0
    fmt := if fmt then f.fmt else 0 }

/-- MEM with the r field cut to its register class (`mask`) and o zero where unused (03 R79, R81). -/
def MemF.clean (mask : BitVec 11) (useO : Bool) (f : MemF) : MemF :=
  { f with
    r := f.r &&& mask
    o := if useO then f.o else 0 }

/-- C.C with unused fields zero (03 R83). `mask` keeps the used bits of mod. -/
def CC.clean (sa sd sl ocs : Bool) (mask : BitVec 10) (f : CC) : CC :=
  { f with
    sa := if sa then f.sa else 0
    sd := if sd then f.sd else 0
    sl := if sl then f.sl else 0
    oc := if ocs then f.oc else 0
    svc := if ocs then f.svc else 0
    dl := if ocs then f.dl else 0
    md := f.md &&& mask }

/-- The register classes of the MEM r field (03 R79). -/
def rVector : BitVec 11 := 0x7FF
def rScalar : BitVec 11 := 0x03F
def rHandle : BitVec 11 := 0x01F
def rNone : BitVec 11 := 0

/-- The instruction with every field its opcode leaves unused set to zero (03 R73, R76, R78, R81, R83). -/
def Instr.clean (i : Instr) : Instr :=
  match i with
  | .vadd f => .vadd (f.clean ⟨true, false, true, true, tagsFp⟩)
  | .vsub f => .vsub (f.clean ⟨true, false, true, true, tagsFp⟩)
  | .vmul f => .vmul (f.clean ⟨true, false, true, true, tagsFp⟩)
  | .vfma f => .vfma (f.clean ⟨true, true, true, true, tagsFp⟩)
  | .vfms f => .vfms (f.clean ⟨true, true, true, true, tagsFp⟩)
  | .vdiv f => .vdiv (f.clean ⟨true, false, true, true, tagsFp⟩)
  | .vmin f => .vmin (f.clean ⟨true, false, true, true, tagsFp⟩)
  | .vmax f => .vmax (f.clean ⟨true, false, true, true, tagsFp⟩)
  | .vabs f => .vabs (f.clean ⟨false, false, false, false, tagsFp⟩)
  | .vneg f => .vneg (f.clean ⟨false, false, false, false, tagsFp⟩)
  | .vcpsgn f => .vcpsgn (f.clean ⟨true, false, false, false, tagsFp⟩)
  | .vrnd f => .vrnd (f.clean ⟨false, false, true, true, tagsFp⟩)
  | .vrcp f => .vrcp (f.clean ⟨false, false, true, true, tagsFp⟩)
  | .vrsq f => .vrsq (f.clean ⟨false, false, true, true, tagsFp⟩)
  | .vsqrt f => .vsqrt (f.clean ⟨false, false, true, true, tagsFp⟩)
  | .vexp2 f => .vexp2 (f.clean ⟨false, false, true, true, tagsFp⟩)
  | .vlog2 f => .vlog2 (f.clean ⟨false, false, true, true, tagsFp⟩)
  | .vtanh f => .vtanh (f.clean ⟨false, false, true, true, tagsFp⟩)
  | .vcmpEq f => .vcmpEq (f.clean ⟨true, false, false, false, tagsFp⟩)
  | .vcmpNe f => .vcmpNe (f.clean ⟨true, false, false, false, tagsFp⟩)
  | .vcmpLt f => .vcmpLt (f.clean ⟨true, false, false, false, tagsFp⟩)
  | .vcmpLe f => .vcmpLe (f.clean ⟨true, false, false, false, tagsFp⟩)
  | .vcmpGt f => .vcmpGt (f.clean ⟨true, false, false, false, tagsFp⟩)
  | .vcmpGe f => .vcmpGe (f.clean ⟨true, false, false, false, tagsFp⟩)
  | .viadd f => .viadd (f.clean ⟨true, false, false, true, tagsInt⟩)
  | .visub f => .visub (f.clean ⟨true, false, false, true, tagsInt⟩)
  | .vimul f => .vimul (f.clean ⟨true, false, false, true, tagsInt⟩)
  | .vimad f => .vimad (f.clean ⟨true, true, false, true, tagsInt⟩)
  | .vimin f => .vimin (f.clean ⟨true, false, false, true, tagsInt⟩)
  | .vimax f => .vimax (f.clean ⟨true, false, false, true, tagsInt⟩)
  | .vavg f => .vavg (f.clean ⟨true, false, true, true, tagsInt⟩)
  | .vicmpEq f => .vicmpEq (f.clean ⟨true, false, false, false, tagsInt⟩)
  | .vicmpNe f => .vicmpNe (f.clean ⟨true, false, false, false, tagsInt⟩)
  | .vicmpLt f => .vicmpLt (f.clean ⟨true, false, false, false, tagsInt⟩)
  | .vicmpLe f => .vicmpLe (f.clean ⟨true, false, false, false, tagsInt⟩)
  | .vicmpLtu f => .vicmpLtu (f.clean ⟨true, false, false, false, tagsInt⟩)
  | .vicmpLeu f => .vicmpLeu (f.clean ⟨true, false, false, false, tagsInt⟩)
  | .vand f => .vand (f.clean ⟨true, false, false, false, tagsAny⟩)
  | .vor f => .vor (f.clean ⟨true, false, false, false, tagsAny⟩)
  | .vxor f => .vxor (f.clean ⟨true, false, false, false, tagsAny⟩)
  | .vshl f => .vshl (f.clean ⟨true, false, false, false, tagsInt⟩)
  | .vshr f => .vshr (f.clean ⟨true, false, false, false, tagsInt⟩)
  | .vsar f => .vsar (f.clean ⟨true, false, false, false, tagsInt⟩)
  | .vclz f => .vclz (f.clean ⟨false, false, false, false, tagsInt⟩)
  | .vpopc f => .vpopc (f.clean ⟨false, false, false, false, tagsInt⟩)
  | .vsel f => .vsel (f.clean ⟨true, true, false, false, tagsAny⟩)
  | .vclamp f => .vclamp (f.clean ⟨true, true, false, false, tagsAny⟩)
  | .vcvt f => .vcvt (f.clean ⟨false, false, true, true, tagsNumber⟩)
  | .vqnt f => .vqnt (f.clean ⟨false, false, true, true, tagsBse⟩)
  | .vdqn f => .vdqn (f.clean ⟨false, false, true, false, tagsFp⟩)
  | .vcmpr f => .vcmpr (f.clean ⟨true, false, false, false, [2, 3, 6, 8, 9, 10]⟩)
  | .vmov f => .vmov (f.clean ⟨false, false, false, false, []⟩)
  | .vperm f => .vperm (f.clean ⟨true, false, false, false, []⟩)
  | .vzip f => .vzip (f.clean ⟨true, false, false, false, []⟩)
  | .vunz f => .vunz (f.clean ⟨true, false, false, false, []⟩)
  | .vrsum f => .vrsum (f.clean ⟨false, false, true, true, [1, 2, 3, 4]⟩)
  | .vrmax f => .vrmax (f.clean ⟨false, false, false, false, tagsNumber⟩)
  | .vrmin f => .vrmin (f.clean ⟨false, false, false, false, tagsNumber⟩)
  | .tcsum f => .tcsum (f.clean ⟨false, false, true, true, [1, 2, 3, 4]⟩)
  | .tcmax f => .tcmax (f.clean ⟨false, false, false, false, tagsNumber⟩)
  | .vcrc f => .vcrc (f.clean ⟨false, false, false, false, []⟩)
  | .vscal f => .vscal (f.clean true true 0 true)
  | .vfill f => .vfill (f.clean false true 0xF false)
  | .vbcs f => .vbcs (f.clean true false 0xFF false)
  | .vsld f => .vsld (f.clean true false 0xFF false)
  | .mcfg f => .mcfg (f.clean false false false true false false false)
  | .mscl f => .mscl (f.clean true false false true false false false)
  | .mlds f => .mlds (f.clean false false true true true false true)
  | .mldsT f => .mldsT (f.clean false false true true true false true)
  | .mldsh f => .mldsh (f.clean false true true false true false false)
  | .mldsp f => .mldsp (f.clean false false true true true false true)
  | .mswp f => .mswp (f.clean false false false false false false false)
  | .mstr f => .mstr (f.clean true false true true true true true)
  | .mstrT f => .mstrT (f.clean true false true true true true true)
  | .mstrh f => .mstrh (f.clean true true true false true true false)
  | .mgrp f => .mgrp (f.clean true false true true true true true)
  | .msps f => .msps (f.clean true false true true true true true)
  | .mza f => .mza (f.clean true false false false false false false)
  | .mwra f => .mwra (f.clean true false true true true false false)
  | .mrda f => .mrda (f.clean true false true true false false true)
  | .mrds f => .mrds (f.clean true false true true false false true)
  | .mcan f => .mcan (f.clean false false false false false false false)
  | .ldB f => .ldB (f.clean rScalar false)
  | .ldBu f => .ldBu (f.clean rScalar false)
  | .ldH f => .ldH (f.clean rScalar false)
  | .ldHu f => .ldHu (f.clean rScalar false)
  | .ldW f => .ldW (f.clean rScalar false)
  | .ldWu f => .ldWu (f.clean rScalar false)
  | .ldD f => .ldD (f.clean rScalar false)
  | .vld f => .vld (f.clean rVector false)
  | .vlds f => .vlds (f.clean rVector true)
  | .vldb f => .vldb (f.clean rVector false)
  | .thdl f => .thdl (f.clean rHandle false)
  | .ldb f => .ldb (f.clean rScalar true)
  | .pld f => .pld (f.clean rNone false)
  | .take f => .take (f.clean rScalar false)
  | .peek f => .peek (f.clean rScalar false)
  | .stB f => .stB (f.clean rScalar false)
  | .stH f => .stH (f.clean rScalar false)
  | .stW f => .stW (f.clean rScalar false)
  | .stD f => .stD (f.clean rScalar false)
  | .vst f => .vst (f.clean rVector false)
  | .vsts f => .vsts (f.clean rVector true)
  | .lbf f => .lbf (f.clean rNone false)
  | .putf f => .putf (f.clean rNone true)
  | .aadd f => .aadd (f.clean rScalar true)
  | .aminS f => .aminS (f.clean rScalar true)
  | .aminU f => .aminU (f.clean rScalar true)
  | .amaxS f => .amaxS (f.clean rScalar true)
  | .amaxU f => .amaxU (f.clean rScalar true)
  | .aand f => .aand (f.clean rScalar true)
  | .aor f => .aor (f.clean rScalar true)
  | .axor f => .axor (f.clean rScalar true)
  | .aswp f => .aswp (f.clean rScalar true)
  | .acas f => .acas (f.clean rScalar true)
  | .afadd f => .afadd (f.clean rScalar true)
  | .afmin f => .afmin (f.clean rScalar true)
  | .afmax f => .afmax (f.clean rScalar true)
  | .cpy f => .cpy (f.clean true true true true 0)
  | .cpy2 f => .cpy2 (f.clean true true true true 0x3F)
  | .cpyt f => .cpyt (f.clean true true true true 0x7)
  | .cpym f => .cpym (f.clean true true true true 0x3F)
  | .cpyk f => .cpyk (f.clean true true true true 0x3F)
  | .cpyc f => .cpyc (f.clean true true true true 0x3F)
  | .cpya f => .cpya (f.clean true true true true 0xF)
  | .cpyg f => .cpyg (f.clean true true true true 0x3F)
  | .cpys f => .cpys (f.clean true true true true 0)
  | .cpyf f => .cpyf (f.clean true true true true 0)
  | .pref f => .pref (f.clean true true true true 0x3)
  | .collRs f => .collRs (f.clean true true true true 0x3FF)
  | .collAg f => .collAg (f.clean true true true true 0x3F)
  | .collAr f => .collAr (f.clean true true true true 0x3FF)
  | .collBc f => .collBc (f.clean true true true true 0x3F)
  | .spill f => .spill (f.clean true false false false 0)
  | .fill f => .fill (f.clean true false false false 0)
  | .zfill f => .zfill (f.clean false true true true 0)
  | .ccan f => .ccan (f.clean false false false false 0)
  | i => i

/-- A range of cnt + 1 registers from `r` stays within v2047 (03 R75). -/
def rangeOk (r : BitVec 11) (cnt : BitVec 4) : Bool := r.toNat + cnt.toNat ≤ 2047

/-- Two ranges of the same length overlap. -/
def rangesMeet (r q : BitVec 11) (cnt : BitVec 4) : Bool :=
  r.toNat ≤ q.toNat + cnt.toNat && q.toNat ≤ r.toNat + cnt.toNat

/-- The range checks common to every V.R opcode (03 R75, R76). -/
def VR.inRange (u : VRUse) (f : VR) : Bool :=
  rangeOk f.d f.cnt && rangeOk f.a f.cnt
    && (!u.b || rangeOk f.b f.cnt) && (!u.c || rangeOk f.c f.cnt)
    && f.sat.toNat ≤ 1 && (u.fmts = [] || u.fmts.contains f.fmt)

/-- The spaces a MEM opcode may name (03 R80, R81): LOC and DIE only with xi = 0. -/
def MemF.spaceOk (spaces : List (BitVec 2)) (f : MemF) : Bool :=
  spaces.contains f.sp && (f.xi = 0 || f.sp = 1 || f.sp = 3)

def spacesAny : List (BitVec 2) := [0, 1, 2, 3]
def spacesDieExt : List (BitVec 2) := [2, 3]
def spacesExt : List (BitVec 2) := [3]

/-- Every value that 03 calls out of range is absent (FieldsInRange of 03 R89). QBIND with s0 and a fmt that is not 0 counts as out of
range, not as a must-be-zero bit: 03 R85 does not say which. DESIGN CHOICE (log 76). -/
def Instr.inRange (i : Instr) : Bool :=
  match i with
  | .loop _ len => len ≠ 0
  | .loopi _ len => len ≠ 0
  | .extr _ _ pos len => pos.toNat + len.toNat ≤ 63
  | .ins _ _ pos len => pos.toNat + len.toNat ≤ 63
  | .setx _ sno => sno.toNat < 64
  | .getx _ sno => sno.toNat < 64
  | .vadd f => f.inRange ⟨true, false, true, true, tagsFp⟩
  | .vsub f => f.inRange ⟨true, false, true, true, tagsFp⟩
  | .vmul f => f.inRange ⟨true, false, true, true, tagsFp⟩
  | .vfma f => f.inRange ⟨true, true, true, true, tagsFp⟩
  | .vfms f => f.inRange ⟨true, true, true, true, tagsFp⟩
  | .vdiv f => f.inRange ⟨true, false, true, true, tagsFp⟩
  | .vmin f => f.inRange ⟨true, false, true, true, tagsFp⟩
  | .vmax f => f.inRange ⟨true, false, true, true, tagsFp⟩
  | .vabs f => f.inRange ⟨false, false, false, false, tagsFp⟩
  | .vneg f => f.inRange ⟨false, false, false, false, tagsFp⟩
  | .vcpsgn f => f.inRange ⟨true, false, false, false, tagsFp⟩
  | .vrnd f => f.inRange ⟨false, false, true, true, tagsFp⟩
  | .vrcp f => f.inRange ⟨false, false, true, true, tagsFp⟩
  | .vrsq f => f.inRange ⟨false, false, true, true, tagsFp⟩
  | .vsqrt f => f.inRange ⟨false, false, true, true, tagsFp⟩
  | .vexp2 f => f.inRange ⟨false, false, true, true, tagsFp⟩
  | .vlog2 f => f.inRange ⟨false, false, true, true, tagsFp⟩
  | .vtanh f => f.inRange ⟨false, false, true, true, tagsFp⟩
  | .vcmpEq f => f.inRange ⟨true, false, false, false, tagsFp⟩
  | .vcmpNe f => f.inRange ⟨true, false, false, false, tagsFp⟩
  | .vcmpLt f => f.inRange ⟨true, false, false, false, tagsFp⟩
  | .vcmpLe f => f.inRange ⟨true, false, false, false, tagsFp⟩
  | .vcmpGt f => f.inRange ⟨true, false, false, false, tagsFp⟩
  | .vcmpGe f => f.inRange ⟨true, false, false, false, tagsFp⟩
  | .viadd f => f.inRange ⟨true, false, false, true, tagsInt⟩
  | .visub f => f.inRange ⟨true, false, false, true, tagsInt⟩
  | .vimul f => f.inRange ⟨true, false, false, true, tagsInt⟩
  | .vimad f => f.inRange ⟨true, true, false, true, tagsInt⟩
  | .vimin f => f.inRange ⟨true, false, false, true, tagsInt⟩
  | .vimax f => f.inRange ⟨true, false, false, true, tagsInt⟩
  | .vavg f => f.inRange ⟨true, false, true, true, tagsInt⟩
  | .vicmpEq f => f.inRange ⟨true, false, false, false, tagsInt⟩
  | .vicmpNe f => f.inRange ⟨true, false, false, false, tagsInt⟩
  | .vicmpLt f => f.inRange ⟨true, false, false, false, tagsInt⟩
  | .vicmpLe f => f.inRange ⟨true, false, false, false, tagsInt⟩
  | .vicmpLtu f => f.inRange ⟨true, false, false, false, tagsInt⟩
  | .vicmpLeu f => f.inRange ⟨true, false, false, false, tagsInt⟩
  | .vand f => f.inRange ⟨true, false, false, false, tagsAny⟩
  | .vor f => f.inRange ⟨true, false, false, false, tagsAny⟩
  | .vxor f => f.inRange ⟨true, false, false, false, tagsAny⟩
  | .vshl f => f.inRange ⟨true, false, false, false, tagsInt⟩
  | .vshr f => f.inRange ⟨true, false, false, false, tagsInt⟩
  | .vsar f => f.inRange ⟨true, false, false, false, tagsInt⟩
  | .vclz f => f.inRange ⟨false, false, false, false, tagsInt⟩
  | .vpopc f => f.inRange ⟨false, false, false, false, tagsInt⟩
  | .vsel f => f.inRange ⟨true, true, false, false, tagsAny⟩
  | .vclamp f => f.inRange ⟨true, true, false, false, tagsAny⟩
  | .vcvt f => f.inRange ⟨false, false, true, true, tagsNumber⟩
  | .vqnt f => f.inRange ⟨false, false, true, true, tagsBse⟩ && f.d.toNat + f.cnt.toNat + 1 ≤ 2047
  | .vdqn f => f.inRange ⟨false, false, true, false, tagsFp⟩
  | .vcmpr f => f.inRange ⟨true, false, false, false, [2, 3, 6, 8, 9, 10]⟩ && !rangesMeet f.d f.b f.cnt
  | .vmov f => f.inRange ⟨false, false, false, false, []⟩
  | .vperm f => f.inRange ⟨true, false, false, false, []⟩
  | .vzip f => f.inRange ⟨true, false, false, false, []⟩
  | .vunz f => f.inRange ⟨true, false, false, false, []⟩
  | .vrsum f => f.inRange ⟨false, false, true, true, [1, 2, 3, 4]⟩
  | .vrmax f => f.inRange ⟨false, false, false, false, tagsNumber⟩
  | .vrmin f => f.inRange ⟨false, false, false, false, tagsNumber⟩
  | .tcsum f => f.inRange ⟨false, false, true, true, [1, 2, 3, 4]⟩
  | .tcmax f => f.inRange ⟨false, false, false, false, tagsNumber⟩
  | .vcrc f => f.inRange ⟨false, false, false, false, []⟩
  | .vscal f => rangeOk f.d f.cnt && rangeOk f.a f.cnt
  | .vfill f => rangeOk f.d f.cnt && tagsAny.contains (f.imm.extractLsb' 0 4)
  | .vbcs f => rangeOk f.d f.cnt && rangeOk f.a f.cnt
      && ((f.imm.extractLsb' 2 6).toNat <<< (f.imm.extractLsb' 0 2).toNat) < 64
  | .vsld f => rangeOk f.d f.cnt && rangeOk f.a f.cnt && (f.imm.extractLsb' 0 7).toNat ≤ 64
  | .tcfg _ _ rowb fmt => rowb.toNat ≤ 15 && tagsAny.contains fmt
  | .mscl f => f.acc.toNat ≤ 23
  | .mlds f => (tagsArray : Tags).contains f.fmt
  | .mldsT f => (tagsFp : Tags).contains f.fmt
  | .mldsp f => (tagsArray : Tags).contains f.fmt
  | .mstr f => f.acc.toNat ≤ 23 && (tagsArray : Tags).contains f.fmt
  | .mstrT f => f.acc.toNat ≤ 23 && (tagsFp : Tags).contains f.fmt
  | .mstrh f => f.acc.toNat ≤ 23
  | .mgrp f => f.acc.toNat ≤ 23 && (tagsArray : Tags).contains f.fmt
  | .msps f => f.acc.toNat ≤ 23 && (tagsArray : Tags).contains f.fmt
  | .mza f => f.acc.toNat ≤ 23
  | .mwra f => f.acc.toNat ≤ 23
  | .mrda f => f.acc.toNat ≤ 23 && ([1, 2, 3, 4] : Tags).contains f.fmt
  | .mrds f => f.acc.toNat ≤ 23 && (tagsBse : Tags).contains f.fmt
  | .ldB f => f.spaceOk spacesAny
  | .ldBu f => f.spaceOk spacesAny
  | .ldH f => f.spaceOk spacesAny
  | .ldHu f => f.spaceOk spacesAny
  | .ldW f => f.spaceOk spacesAny
  | .ldWu f => f.spaceOk spacesAny
  | .ldD f => f.spaceOk spacesAny
  | .vld f => f.spaceOk spacesAny
  | .vlds f => f.spaceOk spacesAny
  | .vldb f => f.spaceOk spacesAny
  | .thdl f => f.spaceOk spacesAny
  | .ldb f => f.spaceOk spacesExt
  | .pld f => f.spaceOk spacesExt
  | .take f => f.spaceOk spacesDieExt
  | .peek f => f.spaceOk spacesDieExt
  | .stB f => f.spaceOk spacesAny
  | .stH f => f.spaceOk spacesAny
  | .stW f => f.spaceOk spacesAny
  | .stD f => f.spaceOk spacesAny
  | .vst f => f.spaceOk spacesAny
  | .vsts f => f.spaceOk spacesAny
  | .lbf f => f.spaceOk spacesExt
  | .putf f => f.spaceOk spacesDieExt
  | .aadd f => f.spaceOk spacesAny
  | .aminS f => f.spaceOk spacesAny
  | .aminU f => f.spaceOk spacesAny
  | .amaxS f => f.spaceOk spacesAny
  | .amaxU f => f.spaceOk spacesAny
  | .aand f => f.spaceOk spacesAny
  | .aor f => f.spaceOk spacesAny
  | .axor f => f.spaceOk spacesAny
  | .aswp f => f.spaceOk spacesAny
  | .acas f => f.spaceOk spacesAny
  | .afadd f => f.spaceOk spacesAny
  | .afmin f => f.spaceOk spacesAny
  | .afmax f => f.spaceOk spacesAny
  | .cpy f => f.tok ≠ 0
  | .cpy2 f => f.tok ≠ 0
  | .cpyt f => f.tok ≠ 0
  | .cpym f => f.tok ≠ 0
  | .cpyk f => f.tok ≠ 0 && f.tok ≠ f.md.extractLsb' 0 6
  | .cpyc f => f.tok ≠ 0
  | .cpya f => f.tok ≠ 0 && ([1, 2, 3, 4] : Tags).contains (f.md.extractLsb' 0 4)
  | .cpyg f => f.tok ≠ 0
  | .cpys f => f.tok ≠ 0
  | .cpyf f => f.tok ≠ 0
  | .pref f => f.tok ≠ 0 && f.md.toNat ≤ 1
  | .collRs f => f.tok ≠ 0 && ([1, 2, 3, 4] : Tags).contains (f.md.extractLsb' 6 4)
  | .collAg f => f.tok ≠ 0
  | .collAr f => f.tok ≠ 0 && ([1, 2, 3, 4] : Tags).contains (f.md.extractLsb' 6 4)
  | .collBc f => f.tok ≠ 0
  | .spill f => f.tok ≠ 0
  | .fill f => f.tok ≠ 0
  | .zfill f => f.tok ≠ 0
  | .ccan f => f.tok ≠ 0
  | .fence cmask scope => cmask ≠ 0 && scope.toNat ≤ 4
  | .weng eng => eng.toNat ≤ 2
  | .hibq _ which => which.toNat ≤ 1
  | .wsig _ _ _ _ mode => mode.toNat ≤ 4
  | .wsiga _ _ _ _ mode => mode.toNat ≤ 4
  | .alloc d _ _ _ _ _ => d ≠ 0
  | .qbind _ sc fmt => if sc = 0 then fmt = 0 else tagsAny.contains fmt
  | _ => true

/-- A well-formed instruction: every unused field zero and every value in range. -/
def Instr.wellFormed (i : Instr) : Bool := (i.clean = i) && i.inRange

end Sys2Proof
end

