-- ==== Sys2Proof/Decode.lean ====
section
/-! DEFINITION. The encoder and the decoder of instruction words and bundles (02 R47, R48; 03 R66 to R89). The decoder is
total: what is no instruction is rejected by name. -/

namespace Sys2Proof

/-- Bits [lo + n - 1 : lo] of a word. -/
def fld (w : BitVec 64) (lo n : Nat) : BitVec n := w.extractLsb' lo n

/-- The layouts of 03 R71. -/
def lR (op : BitVec 8) (d a b c : BitVec 6) : BitVec 64 := op ++ d ++ a ++ b ++ c ++ 0#32
def lI (op : BitVec 8) (d a : BitVec 6) (imm : BitVec 32) : BitVec 64 := op ++ d ++ a ++ imm ++ 0#12
def lB (op : BitVec 8) (a : BitVec 6) (off : BitVec 26) : BitVec 64 := op ++ a ++ off ++ 0#24
def lS (op : BitVec 8) (a : BitVec 6) (imm : BitVec 20) (len : BitVec 16) : BitVec 64 := op ++ a ++ imm ++ len ++ 0#14
def lX (op : BitVec 8) (d a : BitVec 6) (sno : BitVec 12) : BitVec 64 := op ++ d ++ a ++ sno ++ 0#32

/-- The layouts of 03 R74. -/
def lVR (op : BitVec 8) (f : VR) : BitVec 64 :=
  op ++ f.d ++ f.a ++ f.b ++ f.c ++ f.rnd ++ f.cnt ++ f.sat ++ f.fmt
def lVS (op : BitVec 8) (f : VS) : BitVec 64 := op ++ f.d ++ f.a ++ f.s ++ f.imm ++ f.rnd ++ f.cnt ++ 0#6
def lVT (op : BitVec 8) (t ta : BitVec 7) (v : BitVec 11) (idx : BitVec 4) (rest : BitVec 27) : BitVec 64 :=
  op ++ t ++ ta ++ v ++ idx ++ rest

/-- The layout of 03 R77; flags[5] is zero. -/
def lMA (op : BitVec 8) (f : MA) : BitVec 64 :=
  op ++ f.acc ++ f.h ++ f.sa ++ f.sn ++ f.oc ++ 0#1 ++ f.z ++ f.fmt ++ 0#24

/-- The layouts of 03 R79. -/
def lMem (op : BitVec 8) (f : MemF) : BitVec 64 :=
  op ++ f.r ++ f.sp ++ f.xi ++ f.b ++ f.off ++ f.oc ++ f.svc ++ f.o ++ 0#1
def lMemT (op : BitVec 8) (f : MemT) : BitVec 64 := op ++ 0#4 ++ f.t ++ f.h ++ 0#27 ++ f.oc ++ f.svc ++ 0#7

/-- The layout of 03 R82. -/
def lCC (op : BitVec 8) (f : CC) : BitVec 64 :=
  op ++ f.tok ++ f.sa ++ f.sd ++ f.sl ++ f.oc ++ f.svc ++ f.dl ++ f.md

/-- A Y word (03 R84), in the low 32 bits. -/
def lY (op : BitVec 6) (rest : BitVec 26) : BitVec 64 := 0#32 ++ op ++ rest

/-- The instruction word of an opcode, laid out by its format (03 R71 to R84). A Y word stands in the low 32 bits. An
event has no encoding; EMPTY_BUNDLE is a header alone (02 R48). -/
def encode (i : Instr) : BitVec 64 :=
  match i with
  | .add d a b => lR 0x01#8 d a b 0#6
  | .sub d a b => lR 0x02#8 d a b 0#6
  | .mul d a b => lR 0x03#8 d a b 0#6
  | .mulhiS d a b => lR 0x04#8 d a b 0#6
  | .mulhiU d a b => lR 0x05#8 d a b 0#6
  | .divS d a b => lR 0x06#8 d a b 0#6
  | .divU d a b => lR 0x07#8 d a b 0#6
  | .remS d a b => lR 0x08#8 d a b 0#6
  | .remU d a b => lR 0x09#8 d a b 0#6
  | .land d a b => lR 0x0A#8 d a b 0#6
  | .lor d a b => lR 0x0B#8 d a b 0#6
  | .lxor d a b => lR 0x0C#8 d a b 0#6
  | .andn d a b => lR 0x0D#8 d a b 0#6
  | .shl d a b => lR 0x0E#8 d a b 0#6
  | .shr d a b => lR 0x0F#8 d a b 0#6
  | .sar d a b => lR 0x10#8 d a b 0#6
  | .rotl d a b => lR 0x11#8 d a b 0#6
  | .minS d a b => lR 0x12#8 d a b 0#6
  | .minU d a b => lR 0x13#8 d a b 0#6
  | .maxS d a b => lR 0x14#8 d a b 0#6
  | .maxU d a b => lR 0x15#8 d a b 0#6
  | .cmpEq d a b => lR 0x16#8 d a b 0#6
  | .cmpNe d a b => lR 0x17#8 d a b 0#6
  | .cmpLt d a b => lR 0x18#8 d a b 0#6
  | .cmpLe d a b => lR 0x19#8 d a b 0#6
  | .cmpLtu d a b => lR 0x1A#8 d a b 0#6
  | .cmpLeu d a b => lR 0x1B#8 d a b 0#6
  | .cmpiEq d a imm => lI 0x1C#8 d a imm
  | .cmpiNe d a imm => lI 0x1D#8 d a imm
  | .cmpiLt d a imm => lI 0x1E#8 d a imm
  | .cmpiLe d a imm => lI 0x1F#8 d a imm
  | .cmpiLtu d a imm => lI 0x20#8 d a imm
  | .cmpiLeu d a imm => lI 0x21#8 d a imm
  | .sel d a b c => lR 0x22#8 d a b c
  | .addi d a imm => lI 0x23#8 d a imm
  | .li d imm => lI 0x24#8 d 0#6 imm
  | .lih d imm => lI 0x25#8 d 0#6 imm
  | .clz d a => lR 0x26#8 d a 0#6 0#6
  | .popc d a => lR 0x27#8 d a 0#6 0#6
  | .bitrev d a => lR 0x28#8 d a 0#6 0#6
  | .crc32 d a b => lR 0x29#8 d a b 0#6
  | .extr d a pos len => lR 0x2A#8 d a pos len
  | .ins d a pos len => lR 0x2B#8 d a pos len
  | .brZ a off => lB 0x2C#8 a off
  | .brNz a off => lB 0x2D#8 a off
  | .brLtz a off => lB 0x2E#8 a off
  | .brGez a off => lB 0x2F#8 a off
  | .jmp off => lB 0x30#8 0#6 off
  | .call off => lB 0x31#8 0#6 off
  | .ret => lR 0x32#8 0#6 0#6 0#6 0#6
  | .loop a len => lS 0x33#8 a 0#20 len
  | .loopi imm len => lS 0x34#8 0#6 imm len
  | .lbrk => lS 0x35#8 0#6 0#20 0#16
  | .mfsr d sno => lX 0x36#8 d 0#6 sno
  | .mtsr a sno => lX 0x37#8 0#6 a sno
  | .slack imm => lI 0x38#8 0#6 0#6 imm
  | .trap imm => lI 0x39#8 0#6 0#6 imm
  | .endUnit => lR 0x3A#8 0#6 0#6 0#6 0#6
  | .rft => lR 0x3B#8 0#6 0#6 0#6 0#6
  | .setx a sno => lX 0x3C#8 0#6 a sno
  | .getx d sno => lX 0x3D#8 d 0#6 sno
  | .vadd f => lVR 0x01#8 f
  | .vsub f => lVR 0x02#8 f
  | .vmul f => lVR 0x03#8 f
  | .vfma f => lVR 0x04#8 f
  | .vfms f => lVR 0x05#8 f
  | .vdiv f => lVR 0x06#8 f
  | .vmin f => lVR 0x07#8 f
  | .vmax f => lVR 0x08#8 f
  | .vabs f => lVR 0x09#8 f
  | .vneg f => lVR 0x0A#8 f
  | .vcpsgn f => lVR 0x0B#8 f
  | .vscal f => lVS 0x0C#8 f
  | .vrnd f => lVR 0x0D#8 f
  | .vrcp f => lVR 0x0E#8 f
  | .vrsq f => lVR 0x0F#8 f
  | .vsqrt f => lVR 0x10#8 f
  | .vexp2 f => lVR 0x11#8 f
  | .vlog2 f => lVR 0x12#8 f
  | .vtanh f => lVR 0x13#8 f
  | .vcmpEq f => lVR 0x14#8 f
  | .vcmpNe f => lVR 0x15#8 f
  | .vcmpLt f => lVR 0x16#8 f
  | .vcmpLe f => lVR 0x17#8 f
  | .vcmpGt f => lVR 0x18#8 f
  | .vcmpGe f => lVR 0x19#8 f
  | .viadd f => lVR 0x1A#8 f
  | .visub f => lVR 0x1B#8 f
  | .vimul f => lVR 0x1C#8 f
  | .vimad f => lVR 0x1D#8 f
  | .vimin f => lVR 0x1E#8 f
  | .vimax f => lVR 0x1F#8 f
  | .vavg f => lVR 0x20#8 f
  | .vicmpEq f => lVR 0x21#8 f
  | .vicmpNe f => lVR 0x22#8 f
  | .vicmpLt f => lVR 0x23#8 f
  | .vicmpLe f => lVR 0x24#8 f
  | .vicmpLtu f => lVR 0x25#8 f
  | .vicmpLeu f => lVR 0x26#8 f
  | .vand f => lVR 0x27#8 f
  | .vor f => lVR 0x28#8 f
  | .vxor f => lVR 0x29#8 f
  | .vshl f => lVR 0x2A#8 f
  | .vshr f => lVR 0x2B#8 f
  | .vsar f => lVR 0x2C#8 f
  | .vclz f => lVR 0x2D#8 f
  | .vpopc f => lVR 0x2E#8 f
  | .vsel f => lVR 0x2F#8 f
  | .vclamp f => lVR 0x30#8 f
  | .vcvt f => lVR 0x31#8 f
  | .vqnt f => lVR 0x32#8 f
  | .vdqn f => lVR 0x33#8 f
  | .vcmpr f => lVR 0x34#8 f
  | .vmov f => lVR 0x35#8 f
  | .vfill f => lVS 0x36#8 f
  | .vbcs f => lVS 0x37#8 f
  | .vperm f => lVR 0x38#8 f
  | .vsld f => lVS 0x39#8 f
  | .vzip f => lVR 0x3A#8 f
  | .vunz f => lVR 0x3B#8 f
  | .vrsum f => lVR 0x3C#8 f
  | .vrmax f => lVR 0x3D#8 f
  | .vrmin f => lVR 0x3E#8 f
  | .tcsum f => lVR 0x3F#8 f
  | .tcmax f => lVR 0x40#8 f
  | .tcrd t v idx => lVT 0x41#8 t 0#7 v idx 0#27
  | .tcwr t v idx => lVT 0x42#8 t 0#7 v idx 0#27
  | .ttrn t ta => lVT 0x43#8 t ta 0#11 0#4 0#27
  | .tcfg t rows rowb fmt => lVT 0x44#8 t 0#7 0#11 0#4 (rows ++ rowb ++ fmt ++ 0#14)
  | .trel t => lVT 0x45#8 t 0#7 0#11 0#4 0#27
  | .vcrc f => lVR 0x46#8 f
  | .mcfg f => lMA 0x01#8 f
  | .mscl f => lMA 0x02#8 f
  | .mlds f => lMA 0x03#8 f
  | .mldsT f => lMA 0x04#8 f
  | .mldsh f => lMA 0x05#8 f
  | .mldsp f => lMA 0x06#8 f
  | .mswp f => lMA 0x07#8 f
  | .mstr f => lMA 0x08#8 f
  | .mstrT f => lMA 0x09#8 f
  | .mstrh f => lMA 0x0A#8 f
  | .mgrp f => lMA 0x0B#8 f
  | .msps f => lMA 0x0C#8 f
  | .mza f => lMA 0x0D#8 f
  | .mwra f => lMA 0x0E#8 f
  | .mrda f => lMA 0x0F#8 f
  | .mrds f => lMA 0x10#8 f
  | .mcan f => lMA 0x11#8 f
  | .ldB f => lMem 0x01#8 f
  | .ldBu f => lMem 0x02#8 f
  | .ldH f => lMem 0x03#8 f
  | .ldHu f => lMem 0x04#8 f
  | .ldW f => lMem 0x05#8 f
  | .ldWu f => lMem 0x06#8 f
  | .ldD f => lMem 0x07#8 f
  | .vld f => lMem 0x08#8 f
  | .vlds f => lMem 0x09#8 f
  | .vldb f => lMem 0x0A#8 f
  | .tld f => lMemT 0x0B#8 f
  | .thdl f => lMem 0x0C#8 f
  | .ldb f => lMem 0x0D#8 f
  | .pld f => lMem 0x0E#8 f
  | .take f => lMem 0x0F#8 f
  | .peek f => lMem 0x10#8 f
  | .stB f => lMem 0x01#8 f
  | .stH f => lMem 0x02#8 f
  | .stW f => lMem 0x03#8 f
  | .stD f => lMem 0x04#8 f
  | .vst f => lMem 0x05#8 f
  | .vsts f => lMem 0x06#8 f
  | .tst f => lMemT 0x07#8 f
  | .lbf f => lMem 0x08#8 f
  | .putf f => lMem 0x09#8 f
  | .aadd f => lMem 0x0A#8 f
  | .aminS f => lMem 0x0B#8 f
  | .aminU f => lMem 0x0C#8 f
  | .amaxS f => lMem 0x0D#8 f
  | .amaxU f => lMem 0x0E#8 f
  | .aand f => lMem 0x0F#8 f
  | .aor f => lMem 0x10#8 f
  | .axor f => lMem 0x11#8 f
  | .aswp f => lMem 0x12#8 f
  | .acas f => lMem 0x13#8 f
  | .afadd f => lMem 0x14#8 f
  | .afmin f => lMem 0x15#8 f
  | .afmax f => lMem 0x16#8 f
  | .cpy f => lCC 0x01#8 f
  | .cpy2 f => lCC 0x02#8 f
  | .cpyt f => lCC 0x03#8 f
  | .cpym f => lCC 0x04#8 f
  | .cpyk f => lCC 0x05#8 f
  | .cpyc f => lCC 0x06#8 f
  | .cpya f => lCC 0x07#8 f
  | .cpyg f => lCC 0x08#8 f
  | .cpys f => lCC 0x09#8 f
  | .cpyf f => lCC 0x0A#8 f
  | .pref f => lCC 0x0B#8 f
  | .collRs f => lCC 0x0C#8 f
  | .collAg f => lCC 0x0D#8 f
  | .collAr f => lCC 0x0E#8 f
  | .collBc f => lCC 0x0F#8 f
  | .spill f => lCC 0x10#8 f
  | .fill f => lCC 0x11#8 f
  | .zfill f => lCC 0x12#8 f
  | .ccan f => lCC 0x13#8 f
  | .fence cmask scope => lY 0x01#6 (cmask ++ scope ++ 0#7)
  | .ownE sa sl => lY 0x02#6 (sa ++ sl ++ 0#14)
  | .ownP sa sl => lY 0x03#6 (sa ++ sl ++ 0#14)
  | .wchk m sm => lY 0x04#6 (m ++ sm ++ 0#17)
  | .weng eng => lY 0x05#6 (eng ++ 0#24)
  | .bar sa sn oc => lY 0x06#6 (sa ++ sn ++ oc ++ 0#10)
  | .barc sa sn oc => lY 0x07#6 (sa ++ sn ++ oc ++ 0#10)
  | .sig sa sv oc d => lY 0x08#6 (sa ++ sv ++ oc ++ d ++ 0#4)
  | .wsig sa sv oc d mode => lY 0x09#6 (sa ++ sv ++ oc ++ d ++ mode)
  | .wsiga sa sv oc d mode => lY 0x0A#6 (sa ++ sv ++ oc ++ d ++ mode)
  | .tickw sv => lY 0x0B#6 (0#6 ++ sv ++ 0#14)
  | .yield => lY 0x0C#6 (0#26)
  | .alloc d sz lf h st k => lY 0x0D#6 (d ++ sz ++ lf ++ BitVec.ofBool h ++ BitVec.ofBool st ++ BitVec.ofBool k ++ 0#5)
  | .free sa => lY 0x0E#6 (sa ++ 0#20)
  | .renew sa => lY 0x0F#6 (sa ++ 0#20)
  | .mark sa tag => lY 0x10#6 (sa ++ tag ++ 0#4)
  | .hint sa => lY 0x11#6 (sa ++ 0#20)
  | .hibq d which => lY 0x12#6 (d ++ which ++ 0#18)
  | .qbind q sc fmt => lY 0x13#6 (q ++ sc ++ fmt ++ 0#13)
  | .emptyBundle _ _ _ => 0
  | .resultLanding _ => 0
  | .scoreboardLanding _ => 0
  | .quantumExpiry => 0
  | .slackExhausted => 0
  | .watchdogExpiry => 0
  | .softStop => 0
  | .debugStop _ _ => 0
  | .resume _ _ _ => 0
  | .unitEnded => 0
  | .allocExpiry => 0
  | .retnChange _ _ => 0
  | .latchHeadFetch _ => 0
  | .matrixAccept => 0
  | .matrixStep _ _ => 0
  | .matrixComplete _ => 0
  | .bandGate _ => 0
  | .bandWake => 0
  | .copyAccept => 0
  | .copyChunk _ _ _ => 0
  | .copyComplete _ => 0
  | .engineStopTimeout => 0
  | .collSend _ => 0
  | .collMessage _ _ _ => 0
  | .collComplete _ _ => 0
  | .fabricRequest _ _ => 0
  | .fabricData _ _ => 0
  | .holdFlit _ _ => 0
  | .nackFlit _ _ => 0
  | .hibnFlit _ _ => 0
  | .rejoinFlit _ _ => 0
  | .retryResend => 0
  | .linkLost _ => 0
  | .linkRetrainTimeout _ => 0
  | .shootdownMulticast _ _ _ _ _ => 0
  | .shootdownAck _ => 0
  | .shootdownTimeout _ => 0
  | .requestAging => 0
  | .scrubWriteback _ => 0
  | .llcLineError _ _ _ _ => 0
  | .dieFence _ => 0
  | .dieLinkTimeout _ => 0
  | .dieRejoin _ => 0
  | .thermalTrip _ => 0
  | .pageRetirement _ _ => 0
  | .clusterGate _ _ => 0
  | .clusterPowerDown _ _ => 0
  | .clusterUngate _ _ => 0
  | .placement _ => 0
  | .drainTimeout _ => 0
  | .tickBoundary => 0
  | .predecessorRelease _ => 0
  | .nopPacket _ => 0
  | .slotLoad _ => 0
  | .slotEvict _ => 0
  | .invoke _ => 0
  | .invokeTick _ => 0
  | .mboxPut _ => 0
  | .mboxTake _ => 0
  | .signalPacket _ => 0
  | .waitAll _ => 0
  | .waitAny _ => 0
  | .phaseOpen _ => 0
  | .phaseClose _ => 0
  | .cancelPacket _ => 0
  | .hibList _ => 0
  | .queueResume _ => 0
  | .wridxWrite _ _ => 0
  | .statusWrite _ _ => 0
  | .rdidxWrite _ _ => 0
  | .queueBind _ _ => 0
  | .queueUnbind _ => 0
  | .qprioWrite _ _ => 0
  | .contextCreate _ _ => 0
  | .contextRelease _ => 0
  | .shootdown _ _ _ => 0
  | .tickperWrite _ => 0
  | .hibreq => 0
  | .flushWrite => 0
  | .attestation _ _ => 0
  | .bloomClear _ => 0
  | .groupCreate _ => 0
  | .groupDissolve _ => 0
  | .registerWrite _ _ => 0
  | .warnEntry => 0
  | .warnExit => 0
  | .b1Entry => 0
  | .b1Exit => 0
  | .b2Entry _ => 0
  | .park => 0
  | .drain => 0
  | .seal => 0
  | .powerOff => 0
  | .warmResume => 0
  | .coldBoot => 0
  | .budgetRecompute _ => 0
  | .heartbeat => 0
  | .heartbeatMiss => 0
  | .currentSample _ _ _ => 0
  | .wearUpdate _ _ _ => 0
  | .clockChange _ _ _ => 0
  | .bootLevelRise _ => 0
  | .firmwareUpdate _ => 0
  | .writePerforms _ => 0
  | .portRetrained _ => 0
  | .baseDieFault _ => 0
  | .llcWayReenable _ _ => 0
  | .termination _ _ => 0

/-- The fields of each format read from a word. -/
def getVR (w : BitVec 64) : VR :=
  ⟨fld w 45 11, fld w 34 11, fld w 23 11, fld w 12 11, fld w 10 2, fld w 6 4, fld w 4 2, fld w 0 4⟩
def getVS (w : BitVec 64) : VS := ⟨fld w 45 11, fld w 34 11, fld w 28 6, fld w 12 16, fld w 10 2, fld w 6 4⟩
def getMA (w : BitVec 64) : MA := ⟨fld w 51 5, fld w 46 5, fld w 40 6, fld w 34 6, fld w 30 4, fld w 28 1, fld w 24 4⟩
def getMem (w : BitVec 64) : MemF :=
  ⟨fld w 45 11, fld w 43 2, fld w 39 4, fld w 33 6, fld w 13 20, fld w 9 4, fld w 7 2, fld w 1 6⟩
def getMemT (w : BitVec 64) : MemT := ⟨fld w 45 7, fld w 40 5, fld w 9 4, fld w 7 2⟩
def getCC (w : BitVec 64) : CC :=
  ⟨fld w 50 6, fld w 44 6, fld w 38 6, fld w 32 6, fld w 28 4, fld w 26 2, fld w 10 16, fld w 0 10⟩

/-- The S-slot opcode map read backwards: all fields of the opcode's format, unchecked. -/
def rawS (w : BitVec 64) : Option Instr :=
  match (fld w 56 8).toNat with
  | 0x01 => some (.add (fld w 50 6) (fld w 44 6) (fld w 38 6))
  | 0x02 => some (.sub (fld w 50 6) (fld w 44 6) (fld w 38 6))
  | 0x03 => some (.mul (fld w 50 6) (fld w 44 6) (fld w 38 6))
  | 0x04 => some (.mulhiS (fld w 50 6) (fld w 44 6) (fld w 38 6))
  | 0x05 => some (.mulhiU (fld w 50 6) (fld w 44 6) (fld w 38 6))
  | 0x06 => some (.divS (fld w 50 6) (fld w 44 6) (fld w 38 6))
  | 0x07 => some (.divU (fld w 50 6) (fld w 44 6) (fld w 38 6))
  | 0x08 => some (.remS (fld w 50 6) (fld w 44 6) (fld w 38 6))
  | 0x09 => some (.remU (fld w 50 6) (fld w 44 6) (fld w 38 6))
  | 0x0A => some (.land (fld w 50 6) (fld w 44 6) (fld w 38 6))
  | 0x0B => some (.lor (fld w 50 6) (fld w 44 6) (fld w 38 6))
  | 0x0C => some (.lxor (fld w 50 6) (fld w 44 6) (fld w 38 6))
  | 0x0D => some (.andn (fld w 50 6) (fld w 44 6) (fld w 38 6))
  | 0x0E => some (.shl (fld w 50 6) (fld w 44 6) (fld w 38 6))
  | 0x0F => some (.shr (fld w 50 6) (fld w 44 6) (fld w 38 6))
  | 0x10 => some (.sar (fld w 50 6) (fld w 44 6) (fld w 38 6))
  | 0x11 => some (.rotl (fld w 50 6) (fld w 44 6) (fld w 38 6))
  | 0x12 => some (.minS (fld w 50 6) (fld w 44 6) (fld w 38 6))
  | 0x13 => some (.minU (fld w 50 6) (fld w 44 6) (fld w 38 6))
  | 0x14 => some (.maxS (fld w 50 6) (fld w 44 6) (fld w 38 6))
  | 0x15 => some (.maxU (fld w 50 6) (fld w 44 6) (fld w 38 6))
  | 0x16 => some (.cmpEq (fld w 50 6) (fld w 44 6) (fld w 38 6))
  | 0x17 => some (.cmpNe (fld w 50 6) (fld w 44 6) (fld w 38 6))
  | 0x18 => some (.cmpLt (fld w 50 6) (fld w 44 6) (fld w 38 6))
  | 0x19 => some (.cmpLe (fld w 50 6) (fld w 44 6) (fld w 38 6))
  | 0x1A => some (.cmpLtu (fld w 50 6) (fld w 44 6) (fld w 38 6))
  | 0x1B => some (.cmpLeu (fld w 50 6) (fld w 44 6) (fld w 38 6))
  | 0x1C => some (.cmpiEq (fld w 50 6) (fld w 44 6) (fld w 12 32))
  | 0x1D => some (.cmpiNe (fld w 50 6) (fld w 44 6) (fld w 12 32))
  | 0x1E => some (.cmpiLt (fld w 50 6) (fld w 44 6) (fld w 12 32))
  | 0x1F => some (.cmpiLe (fld w 50 6) (fld w 44 6) (fld w 12 32))
  | 0x20 => some (.cmpiLtu (fld w 50 6) (fld w 44 6) (fld w 12 32))
  | 0x21 => some (.cmpiLeu (fld w 50 6) (fld w 44 6) (fld w 12 32))
  | 0x22 => some (.sel (fld w 50 6) (fld w 44 6) (fld w 38 6) (fld w 32 6))
  | 0x23 => some (.addi (fld w 50 6) (fld w 44 6) (fld w 12 32))
  | 0x24 => some (.li (fld w 50 6) (fld w 12 32))
  | 0x25 => some (.lih (fld w 50 6) (fld w 12 32))
  | 0x26 => some (.clz (fld w 50 6) (fld w 44 6))
  | 0x27 => some (.popc (fld w 50 6) (fld w 44 6))
  | 0x28 => some (.bitrev (fld w 50 6) (fld w 44 6))
  | 0x29 => some (.crc32 (fld w 50 6) (fld w 44 6) (fld w 38 6))
  | 0x2A => some (.extr (fld w 50 6) (fld w 44 6) (fld w 38 6) (fld w 32 6))
  | 0x2B => some (.ins (fld w 50 6) (fld w 44 6) (fld w 38 6) (fld w 32 6))
  | 0x2C => some (.brZ (fld w 50 6) (fld w 24 26))
  | 0x2D => some (.brNz (fld w 50 6) (fld w 24 26))
  | 0x2E => some (.brLtz (fld w 50 6) (fld w 24 26))
  | 0x2F => some (.brGez (fld w 50 6) (fld w 24 26))
  | 0x30 => some (.jmp (fld w 24 26))
  | 0x31 => some (.call (fld w 24 26))
  | 0x32 => some (.ret)
  | 0x33 => some (.loop (fld w 50 6) (fld w 14 16))
  | 0x34 => some (.loopi (fld w 30 20) (fld w 14 16))
  | 0x35 => some (.lbrk)
  | 0x36 => some (.mfsr (fld w 50 6) (fld w 32 12))
  | 0x37 => some (.mtsr (fld w 44 6) (fld w 32 12))
  | 0x38 => some (.slack (fld w 12 32))
  | 0x39 => some (.trap (fld w 12 32))
  | 0x3A => some (.endUnit)
  | 0x3B => some (.rft)
  | 0x3C => some (.setx (fld w 44 6) (fld w 32 12))
  | 0x3D => some (.getx (fld w 50 6) (fld w 32 12))
  | _ => none

/-- The V-slot opcode map read backwards: all fields of the opcode's format, unchecked. -/
def rawV (w : BitVec 64) : Option Instr :=
  match (fld w 56 8).toNat with
  | 0x01 => some (.vadd (getVR w))
  | 0x02 => some (.vsub (getVR w))
  | 0x03 => some (.vmul (getVR w))
  | 0x04 => some (.vfma (getVR w))
  | 0x05 => some (.vfms (getVR w))
  | 0x06 => some (.vdiv (getVR w))
  | 0x07 => some (.vmin (getVR w))
  | 0x08 => some (.vmax (getVR w))
  | 0x09 => some (.vabs (getVR w))
  | 0x0A => some (.vneg (getVR w))
  | 0x0B => some (.vcpsgn (getVR w))
  | 0x0C => some (.vscal (getVS w))
  | 0x0D => some (.vrnd (getVR w))
  | 0x0E => some (.vrcp (getVR w))
  | 0x0F => some (.vrsq (getVR w))
  | 0x10 => some (.vsqrt (getVR w))
  | 0x11 => some (.vexp2 (getVR w))
  | 0x12 => some (.vlog2 (getVR w))
  | 0x13 => some (.vtanh (getVR w))
  | 0x14 => some (.vcmpEq (getVR w))
  | 0x15 => some (.vcmpNe (getVR w))
  | 0x16 => some (.vcmpLt (getVR w))
  | 0x17 => some (.vcmpLe (getVR w))
  | 0x18 => some (.vcmpGt (getVR w))
  | 0x19 => some (.vcmpGe (getVR w))
  | 0x1A => some (.viadd (getVR w))
  | 0x1B => some (.visub (getVR w))
  | 0x1C => some (.vimul (getVR w))
  | 0x1D => some (.vimad (getVR w))
  | 0x1E => some (.vimin (getVR w))
  | 0x1F => some (.vimax (getVR w))
  | 0x20 => some (.vavg (getVR w))
  | 0x21 => some (.vicmpEq (getVR w))
  | 0x22 => some (.vicmpNe (getVR w))
  | 0x23 => some (.vicmpLt (getVR w))
  | 0x24 => some (.vicmpLe (getVR w))
  | 0x25 => some (.vicmpLtu (getVR w))
  | 0x26 => some (.vicmpLeu (getVR w))
  | 0x27 => some (.vand (getVR w))
  | 0x28 => some (.vor (getVR w))
  | 0x29 => some (.vxor (getVR w))
  | 0x2A => some (.vshl (getVR w))
  | 0x2B => some (.vshr (getVR w))
  | 0x2C => some (.vsar (getVR w))
  | 0x2D => some (.vclz (getVR w))
  | 0x2E => some (.vpopc (getVR w))
  | 0x2F => some (.vsel (getVR w))
  | 0x30 => some (.vclamp (getVR w))
  | 0x31 => some (.vcvt (getVR w))
  | 0x32 => some (.vqnt (getVR w))
  | 0x33 => some (.vdqn (getVR w))
  | 0x34 => some (.vcmpr (getVR w))
  | 0x35 => some (.vmov (getVR w))
  | 0x36 => some (.vfill (getVS w))
  | 0x37 => some (.vbcs (getVS w))
  | 0x38 => some (.vperm (getVR w))
  | 0x39 => some (.vsld (getVS w))
  | 0x3A => some (.vzip (getVR w))
  | 0x3B => some (.vunz (getVR w))
  | 0x3C => some (.vrsum (getVR w))
  | 0x3D => some (.vrmax (getVR w))
  | 0x3E => some (.vrmin (getVR w))
  | 0x3F => some (.tcsum (getVR w))
  | 0x40 => some (.tcmax (getVR w))
  | 0x41 => some (.tcrd (fld w 49 7) (fld w 31 11) (fld w 27 4))
  | 0x42 => some (.tcwr (fld w 49 7) (fld w 31 11) (fld w 27 4))
  | 0x43 => some (.ttrn (fld w 49 7) (fld w 42 7))
  | 0x44 => some (.tcfg (fld w 49 7) (fld w 23 4) (fld w 18 5) (fld w 14 4))
  | 0x45 => some (.trel (fld w 49 7))
  | 0x46 => some (.vcrc (getVR w))
  | _ => none

/-- The M-slot opcode map read backwards: all fields of the opcode's format, unchecked. -/
def rawM (w : BitVec 64) : Option Instr :=
  match (fld w 56 8).toNat with
  | 0x01 => some (.mcfg (getMA w))
  | 0x02 => some (.mscl (getMA w))
  | 0x03 => some (.mlds (getMA w))
  | 0x04 => some (.mldsT (getMA w))
  | 0x05 => some (.mldsh (getMA w))
  | 0x06 => some (.mldsp (getMA w))
  | 0x07 => some (.mswp (getMA w))
  | 0x08 => some (.mstr (getMA w))
  | 0x09 => some (.mstrT (getMA w))
  | 0x0A => some (.mstrh (getMA w))
  | 0x0B => some (.mgrp (getMA w))
  | 0x0C => some (.msps (getMA w))
  | 0x0D => some (.mza (getMA w))
  | 0x0E => some (.mwra (getMA w))
  | 0x0F => some (.mrda (getMA w))
  | 0x10 => some (.mrds (getMA w))
  | 0x11 => some (.mcan (getMA w))
  | _ => none

/-- The L-slot opcode map read backwards: all fields of the opcode's format, unchecked. -/
def rawL (w : BitVec 64) : Option Instr :=
  match (fld w 56 8).toNat with
  | 0x01 => some (.ldB (getMem w))
  | 0x02 => some (.ldBu (getMem w))
  | 0x03 => some (.ldH (getMem w))
  | 0x04 => some (.ldHu (getMem w))
  | 0x05 => some (.ldW (getMem w))
  | 0x06 => some (.ldWu (getMem w))
  | 0x07 => some (.ldD (getMem w))
  | 0x08 => some (.vld (getMem w))
  | 0x09 => some (.vlds (getMem w))
  | 0x0A => some (.vldb (getMem w))
  | 0x0B => some (.tld (getMemT w))
  | 0x0C => some (.thdl (getMem w))
  | 0x0D => some (.ldb (getMem w))
  | 0x0E => some (.pld (getMem w))
  | 0x0F => some (.take (getMem w))
  | 0x10 => some (.peek (getMem w))
  | _ => none

/-- The W-slot opcode map read backwards: all fields of the opcode's format, unchecked. -/
def rawW (w : BitVec 64) : Option Instr :=
  match (fld w 56 8).toNat with
  | 0x01 => some (.stB (getMem w))
  | 0x02 => some (.stH (getMem w))
  | 0x03 => some (.stW (getMem w))
  | 0x04 => some (.stD (getMem w))
  | 0x05 => some (.vst (getMem w))
  | 0x06 => some (.vsts (getMem w))
  | 0x07 => some (.tst (getMemT w))
  | 0x08 => some (.lbf (getMem w))
  | 0x09 => some (.putf (getMem w))
  | 0x0A => some (.aadd (getMem w))
  | 0x0B => some (.aminS (getMem w))
  | 0x0C => some (.aminU (getMem w))
  | 0x0D => some (.amaxS (getMem w))
  | 0x0E => some (.amaxU (getMem w))
  | 0x0F => some (.aand (getMem w))
  | 0x10 => some (.aor (getMem w))
  | 0x11 => some (.axor (getMem w))
  | 0x12 => some (.aswp (getMem w))
  | 0x13 => some (.acas (getMem w))
  | 0x14 => some (.afadd (getMem w))
  | 0x15 => some (.afmin (getMem w))
  | 0x16 => some (.afmax (getMem w))
  | _ => none

/-- The C-slot opcode map read backwards: all fields of the opcode's format, unchecked. -/
def rawC (w : BitVec 64) : Option Instr :=
  match (fld w 56 8).toNat with
  | 0x01 => some (.cpy (getCC w))
  | 0x02 => some (.cpy2 (getCC w))
  | 0x03 => some (.cpyt (getCC w))
  | 0x04 => some (.cpym (getCC w))
  | 0x05 => some (.cpyk (getCC w))
  | 0x06 => some (.cpyc (getCC w))
  | 0x07 => some (.cpya (getCC w))
  | 0x08 => some (.cpyg (getCC w))
  | 0x09 => some (.cpys (getCC w))
  | 0x0A => some (.cpyf (getCC w))
  | 0x0B => some (.pref (getCC w))
  | 0x0C => some (.collRs (getCC w))
  | 0x0D => some (.collAg (getCC w))
  | 0x0E => some (.collAr (getCC w))
  | 0x0F => some (.collBc (getCC w))
  | 0x10 => some (.spill (getCC w))
  | 0x11 => some (.fill (getCC w))
  | 0x12 => some (.zfill (getCC w))
  | 0x13 => some (.ccan (getCC w))
  | _ => none

/-- The Y-slot opcode map read backwards: all fields of the opcode's format, unchecked. -/
def rawY (w : BitVec 64) : Option Instr :=
  match (fld w 26 6).toNat with
  | 0x01 => some (.fence (fld w 10 16) (fld w 7 3))
  | 0x02 => some (.ownE (fld w 20 6) (fld w 14 6))
  | 0x03 => some (.ownP (fld w 20 6) (fld w 14 6))
  | 0x04 => some (.wchk (fld w 23 3) (fld w 17 6))
  | 0x05 => some (.weng (fld w 24 2))
  | 0x06 => some (.bar (fld w 20 6) (fld w 14 6) (fld w 10 4))
  | 0x07 => some (.barc (fld w 20 6) (fld w 14 6) (fld w 10 4))
  | 0x08 => some (.sig (fld w 20 6) (fld w 14 6) (fld w 10 4) (fld w 4 6))
  | 0x09 => some (.wsig (fld w 20 6) (fld w 14 6) (fld w 10 4) (fld w 4 6) (fld w 0 4))
  | 0x0A => some (.wsiga (fld w 20 6) (fld w 14 6) (fld w 10 4) (fld w 4 6) (fld w 0 4))
  | 0x0B => some (.tickw (fld w 14 6))
  | 0x0C => some (.yield)
  | 0x0D => some (.alloc (fld w 20 6) (fld w 14 6) (fld w 8 6) (w.getLsbD 7) (w.getLsbD 6) (w.getLsbD 5))
  | 0x0E => some (.free (fld w 20 6))
  | 0x0F => some (.renew (fld w 20 6))
  | 0x10 => some (.mark (fld w 20 6) (fld w 4 16))
  | 0x11 => some (.hint (fld w 20 6))
  | 0x12 => some (.hibq (fld w 20 6) (fld w 18 2))
  | 0x13 => some (.qbind (fld w 23 3) (fld w 17 6) (fld w 13 4))
  | _ => none

/-- The opcode map of a slot kind read backwards. -/
def rawDecode (k : SlotKind) (w : BitVec 64) : Option Instr :=
  match k with
  | .S => rawS w
  | .V => rawV w
  | .M => rawM w
  | .L => rawL w
  | .W => rawW w
  | .C => rawC w
  | .Y => rawY w

/-- Why a slot's word is no instruction, in the order of 03 R89. -/
inductive DecodeError where
  | opcodeZero
  | unassigned
  | mustBeZero
  | outOfRange
  deriving DecidableEq, Repr

/-- The opcode field of a slot's word (03 R66). -/
def opcodeField (k : SlotKind) (w : BitVec 64) : Nat :=
  match k with
  | .Y => (fld w 26 6).toNat
  | _ => (fld w 56 8).toNat

/-- The first checks of 03 R89: opcode 0, unassigned opcode, a must-be-zero bit (a bit that no used field holds). -/
def decodeFields (k : SlotKind) (w : BitVec 64) : Except DecodeError Instr :=
  match rawDecode k w with
  | none => .error (if opcodeField k w = 0 then .opcodeZero else .unassigned)
  | some i => if encode i.clean = w then .ok i else .error .mustBeZero

/-- A slot's word as a well-formed instruction. -/
def decode (k : SlotKind) (w : BitVec 64) : Except DecodeError Instr :=
  match decodeFields k w with
  | .error e => .error e
  | .ok i => if i.inRange then .ok i else .error .outOfRange

/-- The eight slots in order, with number, kind, lowest bit and width (02 R47, 03 R89). -/
structure SlotPos where
  num : Nat
  kind : SlotKind
  lo : Nat
  width : Nat
  deriving DecidableEq, Repr

def slotPositions : List SlotPos :=
  [⟨0, .S, 32, 64⟩, ⟨1, .V, 96, 64⟩, ⟨2, .V, 160, 64⟩, ⟨3, .M, 224, 64⟩,
   ⟨4, .L, 288, 64⟩, ⟨5, .W, 352, 64⟩, ⟨6, .C, 416, 64⟩, ⟨7, .Y, 480, 32⟩]

/-- A bundle's bits (02 R47). -/
abbrev Bundle := BitVec 512

namespace Bundle

/-- The header fields of 02 R48. -/
def period (b : Bundle) : Bool := b.getLsbD 0
def wait (b : Bundle) : BitVec 5 := b.extractLsb' 1 5
def pop (b : Bundle) : BitVec 8 := b.extractLsb' 6 8
def enabled (b : Bundle) (s : Nat) : Bool := b.getLsbD (14 + s)
def reserved (b : Bundle) : BitVec 10 := b.extractLsb' 22 10

/-- The word of a slot, a Y word zero-extended. -/
def word (b : Bundle) (p : SlotPos) : BitVec 64 := (b.extractLsb' p.lo p.width).setWidth 64

/-- The enabled slots with their words, in slot order. -/
def slots (b : Bundle) : List (SlotPos × BitVec 64) :=
  (slotPositions.filter (fun p => b.enabled p.num)).map (fun p => (p, b.word p))

end Bundle

/-- A bundle holding one instruction word in one slot (a V word in V0), with a header of P set. -/
def bundleOf (i : Instr) : Bundle :=
  match i.slotKind with
  | none => 1
  | some k =>
    match slotPositions.find? (fun p => p.kind = k) with
    | none => 1
    | some p => 1 ||| (1 <<< (14 + p.num)) ||| ((encode i).setWidth 512 <<< p.lo)

/-- The host's question (its numbering: bit 0 is the first byte's least significant bit, 00 R10): the instruction is a
bundle, so `w` is the bundle's bits, and bits above `nbits` are zero. A bundle with one enabled slot is that slot's
instruction; one with none is EMPTY_BUNDLE (02 R48). -/
def decodeTableWord (nbits w : Nat) : Option Instr :=
  let b : Bundle := BitVec.ofNat 512 (w % 2 ^ nbits)
  if b.reserved ≠ 0 then none
  else match b.slots with
    | [] => if b >>> 22 = 0 then some (.emptyBundle b.period b.wait b.pop) else none
    | [(p, x)] => (decode p.kind x).toOption
    | _ => none

end Sys2Proof
end

