-- ==== Sys2Proof/Machine/State.lean ====
section
/-! DEFINITION. The state of one MX-B16 module, as plain data: what each strand, core, die and the module hold, and the
state after reset. INVENTORY.md names the rule behind each field. -/

namespace Sys2Proof.Machine

/-- A sparse table: keys strictly rising; a key that is not listed reads as the table's default. -/
abbrev Tab (α : Type) := List (Nat × α)

/-- The entry of a key, or the default `d`. -/
def lookup {α : Type} (d : α) (t : Tab α) (k : Nat) : α :=
  match t with
  | [] => d
  | (j, v) :: r => if k < j then d else if j = k then v else lookup d r k

/-- Writes an entry, in order; writing the default removes the entry. -/
def put {α : Type} [DecidableEq α] (d : α) (t : Tab α) (k : Nat) (v : α) : Tab α :=
  match t with
  | [] => if v = d then [] else [(k, v)]
  | (j, w) :: r =>
    if k < j then (if v = d then (j, w) :: r else (k, v) :: (j, w) :: r)
    else if j = k then (if v = d then r else (k, v) :: r)
    else (j, w) :: put d r k v

/-- Keys strictly rising, and no entry equal to the default. -/
def wfTab {α : Type} [DecidableEq α] (d : α) : Tab α → Bool
  | [] => true
  | [(_, v)] => v ≠ d
  | (j, v) :: (k, w) :: r => v ≠ d && j < k && wfTab d ((k, w) :: r)

/-- Why a run cannot go on. The specification gives every instruction and event of the table an effect, so nothing in
this model raises one: an exception is taken, not a fault. -/
inductive Fault where
  /-- No step raises it: every access of the specification ends in a status or an exception. Safe. -/
  | none
  deriving DecidableEq, Repr

/-- Why a meaning is missing. -/
inductive Refusal where
  /-- An arm of Dispatch without a meaning, by its mnemonic. No arm is left so. Safe: the machine stops. -/
  | notModelled (mnemonic : String)
  deriving DecidableEq, Repr

/-- The states of a unit (01 R20); `absent` is a strand that holds no unit. -/
inductive UState where
  | absent
  | pending
  | ready
  | running
  | blocked
  | stopped
  | ending
  | ended
  deriving DecidableEq, Repr

/-- A unit: the unique number of its launch and its rank in it (01 R30, R34). -/
structure UnitId where
  launch : Nat
  rank : Nat
  deriving DecidableEq, Repr

/-- A cause and its EINFO (11 R247). -/
structure Trap where
  cause : Nat
  einfo : Nat
  deriving DecidableEq, Repr

/-- A fault with its bundle index (11 R245, R246). -/
structure Held where
  trap : Trap
  epc : Word
  deriving DecidableEq, Repr

/-- A vector register: 64 bytes and the format tag (05 R107, R108). -/
structure VReg where
  data : Row
  tag : Nat
  deriving DecidableEq, Repr

def VReg.zero : VReg := ⟨0, 0⟩

/-- The state of a tile group (05 R111). -/
structure TGroup where
  conf : Bool
  rows : Nat
  rowb : Nat
  gfmt : Nat
  dirty : Bool
  holder : UnitId
  deriving DecidableEq, Repr

def TGroup.none : TGroup := ⟨false, 0, 0, 0, false, ⟨0, 0⟩⟩

/-- One level of the loop stack (05 R119). -/
structure Loop where
  start : BitVec 52
  len : BitVec 16
  count : Word
  index : Word
  deriving DecidableEq, Repr

/-- A queue latch (02 R64, 16 R362, R363): the channel, the tag, the position, the head, a recorded cause, and whether
the header has been read. -/
structure Latch where
  bound : Bool
  chan : Word
  fmt : Nat
  pos : Word
  head : Option Row
  cause : Option Trap
  logn : Option Nat
  deriving DecidableEq, Repr

def Latch.none : Latch := ⟨false, 0, 0, 0, Option.none, Option.none, Option.none⟩

/-- What a fixed-latency write changes: a scalar, a range of vector registers, a special register, a word of an extent
register, or the shape of a tile group. -/
inductive Dest where
  | scalar (r : Nat)
  | vector (r : Nat)
  | special (n : Nat)
  | extent (x w : Nat)
  | shape (t : Nat) (g : TGroup)
  deriving DecidableEq, Repr

/-- The writes of one instruction to one range that are still to land (02 R51, 05 R123, R124). `rows` are the values and
tags of rows `next` to `cnt`; `land` is the cycle row `next` lands; `flags` are set when the last row lands; with a `fault` no
row is written and it is raised in the landing cycle (15 R334, R343); `errs` is added to ERRCNT then; `overtaken` are the row offsets
whose register the strand has since written again (02 R55); `issued` is the cycle in which its bundle issued (11 R246); `rowFlags` are the
flags of each row, and `erred` says that a checker error of its instruction has been counted (13 R279). -/
structure Flight where
  dest : Dest
  cnt : Nat
  next : Nat
  land : Nat
  same : Bool
  pair : Bool
  div : Bool
  fault : Option Trap
  rows : List VReg
  flags : Nat
  reg : Nat
  slot : Nat
  epc : Word
  seq : Nat
  errs : Nat
  overtaken : List Nat
  issued : Nat
  rowFlags : List Nat
  erred : Bool
  deriving DecidableEq, Repr

/-- What a read finds in an ECC granule or word (13 R282 to R285). -/
inductive Ecc where
  | clean | correctable | uncorrectable | poisoned
  deriving DecidableEq, Repr

/-- The code word of an ECC granule or word (13 R282, R285): its poison mark, and which of its bits are in error. The bytes of Memory are
those that a read delivers: covered bits right, others as they stand. -/
structure Code where
  bad : Bool
  flips : List Nat
  deriving DecidableEq, Repr

def Code.clean : Code := ⟨false, []⟩
def Code.poisoned : Code := ⟨true, []⟩

/-- The policy that a write stores with a granule (13 R282): TOLERANT, FMAP, and the base of the extent, from which blocks are packed. A
granule that nothing has written is STRICT (log 10). -/
structure Cover where
  tol : Bool
  fmap : Nat
  base : Nat
  deriving DecidableEq, Repr

def Cover.strict : Cover := ⟨false, 0, 0⟩

/-- Bytes an access reaches: their home addresses in ascending order, and how its EINFO and policy read (09 R194, 07
R152, 05 R116). A PEER span names the core and unit its offset is read in when it performs; `base` is the base of its extent. -/
structure Span where
  space : Nat
  xi : Nat
  off : Nat
  size : Nat
  homes : List Nat
  peer : Option (Nat × UnitId)
  tol : Bool
  fmap : Nat
  base : Nat
  deriving DecidableEq, Repr

/-- The operation of an atomic (15 R318); SIG adds as AADD does. -/
inductive AtomOp where
  | add | minS | minU | maxS | maxU | and | or | xor | swp | cas | fadd | fmin | fmax
  deriving DecidableEq, Repr

/-- What an outstanding access does when it performs. -/
inductive Act where
  /-- A scalar load of n bytes, sign-extended or not, into scalar r. -/
  | load (r n : Nat) (signed : Bool)
  /-- A vector load into v with its tag: element byte counts placed from byte 0 (17 R397); `rep` repeats one element. -/
  | vload (v width fmt : Nat) (rep : Bool)
  /-- The stored bytes, one list for each span. -/
  | store (data : List (List Byte))
  /-- An atomic with operand, compare value and destination. -/
  | atomic (op : AtomOp) (opnd cmp : Word) (r : Nat)
  /-- A load that never reads a block. -/
  | peek (r : Nat)
  /-- A handle load. -/
  | thdl (h : Nat)
  /-- A tile load: group, tag, rows, bytes per row, handle register, trailer present. -/
  | tld (t fmt rows rowb hreg : Nat) (trl : Bool)
  /-- A block fill of n lines, with its token and the block's number. -/
  | ldb (r n base id : Nat)
  /-- The write-back of a block that LBF frees. -/
  | lbf (id : Nat)
  /-- The start of an engine command, which counts as an access (09 R196, R200): of the M or the C buffer, entered when
  the access was issued. -/
  | start (matrix : Bool)
  /-- A value already decided, to land in scalar r. -/
  | value (r : Nat) (v : Word)
  /-- ALLOC's answer, to land in scalar r within 8 cycles (15 R322). -/
  | granted (r : Nat) (v : Word)
  /-- HIBQ: the value is read when it lands. -/
  | hibq (r sel : Nat)
  /-- A line read that leaves no result. -/
  | pld
  /-- A fence: classes and scope. -/
  | fence (mask : Nat) (scope : Nat)
  /-- A mark-table write. -/
  | mark (tag : Nat) (v : Word)
  /-- The header read of QBIND. -/
  | qhead (q : Nat)
  /-- POPPED of latch q's channel written. -/
  | popped (q : Nat) (v : Word)
  /-- The flip of OWN.E. -/
  | pin
  deriving DecidableEq, Repr

/-- An access issued and not yet performed, in program order (09 R195, R196). `cls` is 16 for no class; `svc`, `deadline` and
`aged` are its service class, its deadline in units of 64 cycles and whether its class was raised (07 R170, R171). `blks` are the
unit's blocks that held a byte of it at issue (07 R166); `part` are the bytes of a row or a tile that have performed, word by word, each
with whether its granule was bad (09 R197). -/
structure Access where
  act : Act
  cls : Nat
  spans : List Span
  slot : Nat
  epc : Word
  svc : Nat
  issued : Nat
  deadline : Nat
  aged : Bool
  blks : List Nat
  part : List (Byte × Bool)
  deriving DecidableEq, Repr

/-- The stored special registers (05 R121, R122). -/
structure Specials where
  rank : Word
  units : Word
  team : Word
  teamsz : Word
  launch : Word
  periodmax : Word
  chk : Word
  fpctl : Word
  fpstat : Word
  ashape : Word
  prom : Word
  accovf : Word
  trailcnt : Word
  errcnt : Word
  misscnt : Word
  estimate : Word
  handler : Word
  epc : Word
  ecause : Word
  einfo : Word
  deriving DecidableEq, Repr

/-- The stored privileged special registers (05 R122). -/
structure PrivRegs where
  ctxid : Word
  vfunc : Word
  savebase : Word
  ifqsel : Word
  deriving DecidableEq, Repr

/-- The registers of a strand (05 R105). -/
structure Regs where
  s : Tab Word
  v : Tab VReg
  t : Tab TGroup
  x : Tab (BitVec 256)
  h : Tab (BitVec 256)
  m : Tab Word
  q : Tab Latch
  sr : Specials
  pr : PrivRegs
  deriving DecidableEq, Repr

/-- What a stop or a handler keeps beside the registers (11 R245 to R251). `ridx` and `lastiss` are the handler's return;
`resume` and `rlast` those of the last stop; `softRec` the soft causes that stop found; `settle` when a stop that waits for
its copies was taken, `unrec` that it is not recorded yet (11 R243); `late` is a hard stop that waits for the bundle of a request
already served (11 R245 step 3); `odd` are parked writes to special registers, extents and shapes, which no entry of 05 R124 can
hold (log 11); `ifqRest` are the words of the queue's slots that no valid entry holds (05 R122); `retained` is a unit stopped in place
by B1 or B2 (12 R263, R270); `tickAt` the tick boundary that asked for the soft stop TICK (10 R234). -/
structure Trapping where
  inHandler : Bool
  first : Bool
  parkedLoops : List Loop
  ifq : List Flight
  ridx : Word
  lastiss : Nat
  pend : Option Held
  soft : BitVec 5
  wdStart : Nat
  wdBound : Nat
  kill : Bool
  settle : Option Nat
  resume : Word
  rlast : Nat
  softRec : BitVec 5
  retained : Bool
  unrec : Bool
  late : Option Held
  odd : List Flight
  ifqRest : Tab Word
  tickAt : Nat
  deriving DecidableEq, Repr

/-- Where the issue of a strand stands (02 R52, R62; 01 R43). `restore` is what a period's WAIT counts from (02 R58) and
`notBefore` the first cycle in which the strand may issue (11 R255). `fresh`: no bundle of the unit has issued yet (02 R57).
`lastIssue` is when a bundle of the strand last issued, by which the selector ranks (01 R43); before one has since a placement or a
resume it is that cycle. DESIGN CHOICE (log 92). `lastPc` is the index of that bundle (13 R279). -/
structure Timing where
  prevIssue : Nat
  restore : Nat
  notBefore : Nat
  mslack : Nat
  cslack : Nat
  fresh : Bool
  lastIssue : Nat
  lastPc : Word
  deriving DecidableEq, Repr

/-- A matrix command in the M buffer (02 R61, 08 R183, 16 R350): what its issue captured and how far it has come. `began` is the
cycle of its last step, from which its least time counts (08 R424); `chunks` are those it still holds (08 R188), `locks` those of its
LOC operands, locked until it completes (08 R191); `aged`: it has waited 8192 cycles (07 R171);
`slack` is the M slack of its clause (02 R62, 16 R369). -/
structure MCmd where
  who : UnitId
  word : Word
  sav : Word
  snv : Word
  hnd : BitVec 256
  hreg : Nat
  mask : Nat
  prom : Nat
  ovf : Bool
  epc : Word
  entered : Nat
  seq : Nat
  running : Bool
  began : Nat
  next : Nat
  fetched : Bool
  stage : List Byte
  sat : Nat
  flags : Nat
  chunks : List Nat
  locks : List Nat
  depth : Nat
  aged : Bool
  slack : Nat
  deriving DecidableEq, Repr

/-- What a checkpoint keeps beside the save area, which has no bits for it (log 11): the trapping state, the writes still to land with
what they will set, a handler's own loop stack, of the matrix commands, in the order of the progress region, what they captured, have
saturated and raised, and whether no bundle of the unit has issued yet (02 R57). -/
structure Kept where
  trap : Trapping
  queue : List Flight
  loops : List Loop
  cmds : List MCmd
  fresh : Bool
  deriving DecidableEq, Repr

/-- What the launch gives a unit on its strand (10 R223, R227, R236; 12 R266). `inB1`: it was on a strand when B1 was entered
(12 R265). `copy` is what the retry copy keeps beside the second half of its save area (13 R281). -/
structure Owned where
  ctx : Nat
  prio : Nat
  deadline : Nat
  placedAt : Nat
  tickRel : Bool
  tolerant : Bool
  killok : Bool
  array : Bool
  nacc : Nat
  spadg : Nat
  peers : List (Option (Nat × UnitId))
  last : Nat
  inB1 : Bool
  hibseq : Nat
  abandoned : Bool
  retried : Bool
  copy : Option Kept
  teamFirst : Nat
  nbh : Nat
  deriving DecidableEq, Repr

/-- A strand and the unit it holds (00 R3, 01 R18). -/
structure Strand where
  place : Place
  who : UnitId
  st : UState
  privileged : Bool
  pc : Word
  target : Option Word
  regs : Regs
  loops : List Loop
  flights : List Flight
  accs : List Access
  trap : Trapping
  time : Timing
  own : Owned
  cfg : Word
  deriving DecidableEq, Repr

/-- An allocation record with the chunks granted (07 R154, R155), in order. -/
structure Alloc where
  who : UnitId
  base : Nat
  size : Nat
  h : Bool
  stg : Bool
  k : Bool
  expired : Bool
  life : Nat
  expiry : Nat
  lastren : Nat
  chunks : List Nat
  deriving DecidableEq, Repr

/-- A plane of the array (08 R173, R176): state, format, band mask, sparsity, its bytes column by column and its masks
(08 R178). `kact` is its depth. -/
inductive PState where
  | invalid | loading | valid
  deriving DecidableEq, Repr

structure Plane where
  st : PState
  fmt : Nat
  mask : Nat
  sparse : Bool
  kact : Nat
  data : Tab Byte
  masks : Tab Byte
  deriving DecidableEq, Repr

def Plane.none : Plane := ⟨.invalid, 0, 0, false, 0, [], []⟩

/-- A copy command of the C buffer (02 R61, 08 R185, 15 R331). `todo` are the destination chunks still to perform; `locks`
the chunks of a CPYT's destination (08 R191), `sigw` the word of CPYC's signal (08 R186), `seen` the bad granules counted (08 R185);
`listed`: the elements of a gather have been checked (15 R332); `again`: the reference time before which a request that was refused is
not offered again (12 R264); `slack` is the C slack of its clause (02 R62, 16 R369). -/
structure CCmd where
  who : UnitId
  op : Nat
  tok : Nat
  sa : Word
  sd : Word
  sl : Word
  md : Word
  mreg : Nat
  oc : Nat
  svc : Nat
  dl : Nat
  epc : Word
  entered : Nat
  seq : Nat
  running : Bool
  coll : Bool
  todo : List Nat
  moved : Nat
  crc : BitVec 32
  flags : Nat
  code : Option Nat
  xi : Nat
  wr : Bool
  chunks : List Nat
  locks : List Nat
  sigw : List Nat
  seen : List Nat
  listed : Bool
  aged : Bool
  again : Nat
  mword : Word
  msa : Word
  msn : Word
  mhnd : BitVec 256
  sent : Bool
  slack : Nat
  deriving DecidableEq, Repr

/-- A block of the block cache (07 R165, R166): its bytes and which are dirty. `filled` counts the lines present; `leaving`: LBF has
freed its tag and lines, and its dirty bytes are still to be written back (07 R167; log 42). `id` is the model's own. -/
structure Block where
  who : UnitId
  base : Nat
  lines : Nat
  filled : Nat
  data : List Byte
  dirty : List Nat
  cover : Cover
  id : Nat
  leaving : Bool
  deriving DecidableEq, Repr

/-- The matrix side of a core (01 R22; 05 R115; 08 R173 to R176). `acc` holds FP32 words at 16384·tile + 128·row +
column. -/
structure Matrix where
  owner : Option UnitId
  active : Plane
  shadow : Plane
  acc : Tab (BitVec 32)
  live : List Nat
  gated : List Nat
  heldAt : Tab Nat
  waking : Option Nat
  buf : List MCmd
  deriving DecidableEq, Repr

/-- A core (00 R3). Its strands stand in State; `holder` is the strand that holds issue, `heldFor` the cycles it has held it
while another strand of its priority was ready (01 R43; log 73); `yielded` counts its quantum as run (17 R406). -/
structure Core where
  die : Nat
  cluster : Nat
  core : Nat
  allocs : List Alloc
  pinned : List Nat
  reserved : Tab Nat
  matrix : Matrix
  cbuf : List CCmd
  blocks : List Block
  nextBlock : Nat
  divUntil : Nat
  holder : Nat
  heldFor : Nat
  switchUntil : Nat
  yielded : Bool
  deriving DecidableEq, Repr

/-- An entry of a mark table (12 R268). -/
structure Mark where
  ctx : Nat
  tag : Nat
  value : Word
  tick : Nat
  launch : Nat
  rank : Nat
  deriving DecidableEq, Repr

/-- A parked K allocation (12 R263). -/
structure Parked where
  who : UnitId
  base : Nat
  bytes : List Byte
  deriving DecidableEq, Repr

/-- A pre-emption decision that stands (10 R241): the victim units, the launch it serves and the cycle it is judged
again. -/
structure Drain where
  victims : List UnitId
  target : Nat
  recheck : Nat
  cores : List Nat
  deriving DecidableEq, Repr

/-- A compute die with its base die's power block (14 R306). Lists are by cluster. `fwFault` is a double fault of its
firmware core, for which the die is still to be fenced (11 R252); `fwcore` is the core reserved for it (00 R4), `retired` those out of use:
disabled by the record HARVEST, or left when it moved (13 R292; 14 R313; log 89), `lastRev` the cycle in which RETN was last revised for temperature (07 R158). -/
structure Die where
  num : Nat
  cycle : Nat
  retn : Nat
  tickPh : Nat
  marks : List Mark
  lastHwq : Nat
  drains : List Drain
  drainmax : Nat
  freq : Nat
  ceil : Nat
  wear : List Nat
  isense : List Nat
  clamp : List Nat
  hot : List Bool
  throttled : List Bool
  fwcore : Nat
  fenced : Bool
  shed : Bool
  gated : List Bool
  down : List Bool
  parking : List Parked
  fwFault : Bool
  retired : List Nat
  lastRev : Option Nat
  deriving DecidableEq, Repr

/-- What a request waiting at a home wants (09 R207 to R211): the mode is that of WSIG. -/
inductive Wait where
  | take
  | putf (v : Word)
  | bar (gen : Nat) (count : Nat)
  | sig (mode : Nat) (v : Word)
  | tick (v : Word)
  deriving DecidableEq, Repr

/-- A request that waits at a home. -/
structure Waiter where
  who : UnitId
  addr : Nat
  wait : Wait
  served : Option Word
  deriving DecidableEq, Repr

/-- An entry of a context's hibernation list (10 R233). -/
structure HibEntry where
  va : Nat
  len : Nat
  prio : Nat
  deriving DecidableEq, Repr

/-- A context table entry and what the module keeps for it (14 R300, 12 R271). `cancelled`: its job has been cancelled (01 R37); `lostAny`: a
region of it was LOST (12 R266). -/
structure Ctx where
  id : Nat
  dieset : BitVec 16
  retry : Bool
  vf : Nat
  weight : Nat
  tokmax : Nat
  tokref : Nat
  scmBase : Nat
  scmLen : Nat
  dwBase : Nat
  dwLen : Nat
  tokens : Nat
  list : List HibEntry
  share : Nat
  killed : Bool
  cancelled : Bool
  lostAny : Bool
  deriving DecidableEq, Repr

/-- A WAIT packet that its queue's acting die has passed (10 R231): the ring index of its first unit, its bytes, and the dies that have not
passed it yet (10 R220). -/
structure QueueWait where
  idx : BitVec 32
  bytes : List Byte
  left : List Nat
  deriving DecidableEq, Repr

/-- A queue page (14 R297, R298) with the queue's place in its ring (10 R214 to R217) as its acting die has it; `reads` is the
read index of each die of the set, as the position record holds it (10 R220), and `waits` the WAIT packets that some of them have still to
evaluate by their own reads (10 R231). -/
structure Queue where
  page : Nat
  bound : Bool
  logn : Nat
  hostmem : Bool
  qprio : Nat
  ctx : Nat
  hwq : Nat
  base : Word
  wiaddr : Word
  wridx : BitVec 32
  rdidx : BitVec 32
  drops : Nat
  seq : BitVec 32
  state : Nat
  code : Nat
  why : Nat
  reads : List (Nat × BitVec 32)
  waits : List QueueWait
  deriving DecidableEq, Repr

/-- The launch descriptor (10 R223). -/
structure Desc where
  codeoff : Nat
  bundles : Nat
  entry : Nat
  array : Bool
  team : Nat
  width : Nat
  nacc : Nat
  tolerant : Bool
  killok : Bool
  spadg : Nat
  handler : Nat
  chk : Nat
  fpctl : Nat
  periodmax : Nat
  estimate : Nat
  deriving DecidableEq, Repr

/-- A resident model slot (10 R221): function, number, the context that loaded it, descriptor, extents x0 to x7, the declarations of x8 to
x15 as extents with BASE zero, and the least buffer lengths that these declare. -/
structure Slot where
  vf : Nat
  num : Nat
  ctx : Nat
  desc : Desc
  exts : List (BitVec 256)
  decls : List (BitVec 256)
  least : List Nat
  deriving DecidableEq, Repr

/-- The share of a launch on a die (01 R29): ranks first to last − 1, the next rank to place, and the priority bound
there (10 R234). -/
structure Share where
  die : Nat
  first : Nat
  stop : Nat
  next : Nat
  prio : Option Nat
  deriving DecidableEq, Repr

/-- A launch (01 R34; 10 R226 to R228). `relTick` is the tick boundary that released it (10 R234); `unread` are the dies that
have still to take it up from the position record (10 R220), and `ringAt` the ring index of its packet. -/
structure Launch where
  uid : Nat
  id : Nat
  ctx : Nat
  queue : Nat
  graph : Nat
  phase : Nat
  slot : Nat
  vf : Nat
  g : Nat
  prio : Nat
  pred : Option Nat
  tick : Option Nat
  released : Bool
  predOk : Bool
  argoff : Nat
  ctr : Nat
  ctrVa : Nat
  bitmap : Option (Nat × Nat)
  exts : List (BitVec 256)
  leased : List (Nat × Nat × Bool)
  shares : List Share
  notify : Bool
  cancelled : Bool
  done : Bool
  relTick : Option Nat
  unread : List Nat
  ringAt : BitVec 32
  deriving DecidableEq, Repr

/-- A graph of a phase (10 R229). -/
structure Graph where
  id : Nat
  launches : Nat
  opened : Nat
  ctr : Nat
  ctrVa : Nat
  cancelled : Bool
  done : Bool
  deriving DecidableEq, Repr

/-- A phase (10 R229, R230). -/
structure Phase where
  id : Nat
  ctx : Nat
  queue : Nat
  ctr : Nat
  ctrVa : Nat
  tick : Option Nat
  deadline : Nat
  released : Bool
  relCycle : List Nat
  live : BitVec 16
  graphs : List Graph
  cancelled : Bool
  done : Bool
  notify : Bool
  deriving DecidableEq, Repr

/-- A unit saved in its save area (01 R20, 11 R257): its die, where the area lies, what its launch gave it, and what the area
has no bits for (log 11). -/
structure Saved where
  who : UnitId
  die : Nat
  area : Nat
  savebase : Word
  own : Owned
  extents : Tab (BitVec 256)
  firmware : Bool
  tickStop : Bool
  kept : Kept
  shed : Bool
  cause : Nat
  deriving DecidableEq, Repr

/-- A message of a group (08 R192, 12 R276). -/
structure Msg where
  step : Nat
  data : List Byte
  deriving DecidableEq, Repr

/-- A collective group (14 R305, 08 R192). `heldSucc`, `heldPred`: that neighbour answered HOLD or HIBN and has not rejoined (12 R276;
log 83); `again`: when its message is offered again (12 R264). -/
structure Group where
  entry : GroupEntry
  last : Nat
  inbox : List Msg
  kept : List Msg
  heldSucc : Bool
  heldPred : Bool
  again : Option Nat
  deriving DecidableEq, Repr

/-- A fabric port (14 R303). `fails` counts the receptions of the present flit that found a bad CRC. -/
structure Port where
  up : Bool
  lostAt : Nat
  errors : Nat
  fails : Nat
  out : List Flit
  deriving DecidableEq, Repr

/-- An entry of the fault-address queue (13 R288). -/
structure FaultEntry where
  addr : Nat
  kind : Nat
  tag : Nat
  place : Nat
  cycle : Nat
  deriving DecidableEq, Repr

/-- A shoot-down in progress (10 R238, R239; 14 R302): the dies and modules still to acknowledge, its first cycle, and for
one from another module the port and module that is answered. -/
structure Shoot where
  ctx : Nat
  base : Nat
  len : Nat
  dies : List Nat
  modules : List Nat
  since : Nat
  reply : Option (Nat × Nat)
  deriving DecidableEq, Repr

/-- A region of the manifest (12 R273): kind, context, priority, virtual address, length, home address of the bytes (none
when it is not mapped), offset in the image area, digest, whether it is lost, and whether the drain has copied it. -/
structure Region where
  kind : Nat
  ctx : Nat
  prio : Nat
  va : Nat
  len : Nat
  home : Option Nat
  scm : Nat
  digest : List Byte
  lost : Bool
  saved : Bool
  deriving DecidableEq, Repr

/-- What an image carries: its area and length, its regions, the tables of the instances and units that it restores, and the rings'
position records: page, read index and packets consumed (12 R269, R273; log 21). -/
structure Image where
  area : Nat
  seq : Nat
  regions : List Region
  launches : List Launch
  phases : List Phase
  saved : List Saved
  groups : List (Nat × Nat)
  marks : List (Nat × Mark)
  queues : List (Nat × BitVec 32 × BitVec 32)
  deriving DecidableEq, Repr

/-- Supply, hibernation and image state (12 R261, R262, R270 to R277). `settled` is B1's retention reached; `returning` a
supply return during stages 1 and 2; `consume` an image that the first resume uses up; `booting` a boot whose image has not
been looked for yet; `exitDue` a return from B1 before its entry was complete; `images` the contents of areas A and B. -/
structure Supply where
  warn : Bool
  keep : BitVec 16
  b1 : Bool
  settled : Bool
  b2 : Bool
  stage : Nat
  fromB1 : Bool
  cause : Nat
  budget : Nat
  entryBudget : Nat
  drained : Nat
  regions : List Region
  returning : Bool
  consume : Bool
  booting : Bool
  powered : Bool
  exitDue : Bool
  images : List Image
  deriving DecidableEq, Repr

/-- One of the two copies of a configuration record (14 R313): its version, whether its signature holds, and what it says. -/
structure RecordCopy (α : Type) where
  version : Nat
  valid : Bool
  value : α
  deriving DecidableEq, Repr

/-- What HARVEST disables: dies, and cores by die (14 R313). -/
structure Harvest where
  dies : List Nat
  cores : List (Nat × Nat)
  deriving DecidableEq, Repr

/-- The configuration records, each in two copies (14 R313): HARVEST; CALIB, whose figures Config holds; FWCORE, each die's firmware core
where it is not core 0 (log 3); WEAR, each die's counters; BADPAGE, each page with its spare. -/
structure Records where
  harvest : List (RecordCopy Harvest)
  calib : List (RecordCopy Unit)
  fwcore : List (RecordCopy (Tab Nat))
  wear : List (RecordCopy (Tab (List Nat)))
  badpage : List (RecordCopy (List (Nat × Nat)))
  deriving DecidableEq, Repr

/-- An image in the firmware store: copy A (0) or B (1) of its component's (14 R312). -/
structure FwCopy where
  copy : Nat
  image : FwImage
  deriving DecidableEq, Repr

/-- The secure element and the firmware store (14 R311 to R314). `images` are the copies in SCM in the order in which they were written,
`active` the copy that each component took last, `running` the images that components have taken since this model began: component, die
and image (14 R312; log 66). `retiredNow` are the pages retired for this boot only (13 R289), `wearAt` the reference time at which the wear
counters were last recorded (14 R308). -/
structure Secure where
  c : Nat
  bootcnt : Nat
  rollback : Tab Nat
  images : List FwCopy
  active : Tab Nat
  listfull : Bool
  retiredNow : List Nat
  records : Records
  wearAt : Nat
  running : List (Nat × Nat × FwImage)
  deriving DecidableEq, Repr

/-- Registers of the window and messages to the host (14 R296 to R302, R310, R314, R315). `beat` is the reference time of the last
heartbeat (14 R310). -/
structure Window where
  level : Nat
  dies : BitVec 16
  tickper : Nat
  nextper : Option Nat
  started : Bool
  startClock : Nat
  startTick : Nat
  tick : Nat
  heartbeat : Bool
  beat : Nat
  updating : Bool
  sdaddr : Word
  sdlen : Word
  busy : Bool
  faultRd : Nat
  faultOver : Nat
  msix : List (Nat × Nat)
  plain : Tab Word
  deriving DecidableEq, Repr

/-- Memory by home address (09 R194): the bytes listed, the FULL mailbox words, the error states of granules and the
policy of their last write, and the owner tags of LLC lines (13 R290). -/
structure Memory where
  bytes : Tab Byte
  full : List Nat
  ecc : Tab Code
  mode : Tab Cover
  tags : Tab Nat
  deriving DecidableEq, Repr

/-- What an unlisted byte of memory reads as. DESIGN CHOICE (log 1). -/
def Memory.default : Byte := 0

/-- The canonical form: addresses strictly rising, no entry equal to the default. -/
def Memory.wf (m : Memory) : Bool := wfTab Memory.default m.bytes

/-- Errors found and pages and ways out of use (13 R287 to R290). `scrubs` are the repairs asked for, each with its granule and the
reference time since which it waits (13 R286, 07 R171). -/
structure ErrLog where
  queue : List FaultEntry
  bloom : Tab (List Nat)
  hits : Tab Nat
  ways : List (Nat × Nat)
  badStacks : List Nat
  scrubs : List (Nat × Nat)
  deriving DecidableEq, Repr

/-- The header of the bundle being issued (02 R48). The model's own (log 6). -/
structure Header where
  p : Bool
  wait : Nat
  pop : Nat
  deriving DecidableEq, Repr

/-- A range that the driver maps (10 R219, R237): context, virtual address, length, home address, permissions. -/
structure MapRange where
  ctx : Nat
  va : Nat
  len : Nat
  home : Nat
  rd : Bool
  wr : Bool
  deriving DecidableEq, Repr

/-- The work of the queues (10). `maps` are the driver's ranges that the model holds and `mapGen` counts its remappings (log 16). -/
structure Work where
  ctxs : List Ctx
  queues : List Queue
  slots : List Slot
  launches : List Launch
  phases : List Phase
  saved : List Saved
  shoots : List Shoot
  uid : Nat
  live : BitVec 16
  epoch : Nat
  pendLive : BitVec 16
  maps : List MapRange
  mapGen : Nat
  deriving DecidableEq, Repr

/-- Fabric state (14 R303 to R305). `fenced` are the modules fenced from their sharing groups; `cut` the ranges (context, virtual
address, length) shared with other modules from which this module is fenced itself (10 R239). -/
structure Fabric where
  groups : List Group
  ports : List Port
  fenced : List Nat
  cut : List (Nat × Nat × Nat)
  deriving DecidableEq, Repr

/-- The module. One die, one of its cores and one of that core's strands stand at the front (`die`, `core`, `u`); the
others follow in lists. Which is at the front is the model's own: moving it changes nothing else (log 2). `agenda` holds the
events that the world outside brings, each with the time at which it comes (log 6); `clock` is the reference time (log 20);
`lull` is how many rounds the next event without a stated time still waits (log 23). -/
structure State where
  u : Strand
  strands : List Strand
  core : Core
  cores : List Core
  die : Die
  dies : List Die
  mem : Memory
  waiters : List Waiter
  work : Work
  fabric : Fabric
  supply : Supply
  secure : Secure
  window : Window
  errs : ErrLog
  agenda : List (Nat × Instr)
  clock : Nat
  lull : Option Nat
  freeCount : Nat
  slot : Nat
  checked : Bool
  hdr : Header
  deriving DecidableEq, Repr

/-- The special registers at unit entry where no descriptor gives them (05 R121); the others DESIGN CHOICE 0 (log 2). -/
def Specials.reset : Specials :=
  { rank := 0, units := 0, team := 0, teamsz := 0, launch := 0, periodmax := 4096, chk := 0, fpctl := 0, fpstat := 0,
    ashape := 0xF, prom := 0, accovf := 0, trailcnt := 0, errcnt := 0, misscnt := 0, estimate := 0, handler := 0,
    epc := 0, ecause := 0, einfo := 0 }

def PrivRegs.reset : PrivRegs := ⟨0, 0, 0, 0⟩

def Regs.reset : Regs :=
  { s := [], v := [], t := [], x := [], h := [], m := [], q := [], sr := Specials.reset, pr := PrivRegs.reset }

def Trapping.reset : Trapping :=
  { inHandler := false, first := false, parkedLoops := [], ifq := [], ridx := 0, lastiss := 0, pend := none, soft := 0,
    wdStart := 0, wdBound := 0, kill := false, settle := none, resume := 0, rlast := 0, softRec := 0, retained := false,
    unrec := false, late := none, odd := [], ifqRest := [], tickAt := 0 }

def Kept.reset : Kept := { trap := Trapping.reset, queue := [], loops := [], cmds := [], fresh := false }

def Timing.reset : Timing :=
  { prevIssue := 0, restore := 0, notBefore := 0, mslack := 0, cslack := 0, fresh := false, lastIssue := 0, lastPc := 0 }

def Owned.reset : Owned :=
  { ctx := 0, prio := 0, deadline := 0, placedAt := 0, tickRel := false, tolerant := false, killok := false,
    array := false, nacc := 0, spadg := 0, peers := [], last := 0, inB1 := false, hibseq := 0, abandoned := false,
    retried := false, copy := none, teamFirst := 0, nbh := 0 }

/-- A strand with no unit. -/
def Strand.idle (p : Place) : Strand :=
  { place := p, who := ⟨0, 0⟩, st := .absent, privileged := false, pc := 0, target := none, regs := Regs.reset,
    loops := [], flights := [], accs := [], trap := Trapping.reset, time := Timing.reset, own := Owned.reset, cfg := 0 }

def Matrix.reset : Matrix :=
  { owner := none, active := Plane.none, shadow := Plane.none, acc := [], live := [], gated := [0, 1, 2, 3],
    heldAt := [], waking := none, buf := [] }

def Core.reset (d c k : Nat) : Core :=
  { die := d, cluster := c, core := k, allocs := [], pinned := [], reserved := [], matrix := Matrix.reset, cbuf := [],
    blocks := [], nextBlock := 0, divUntil := 0, holder := 0, heldFor := 0, switchUntil := 0, yielded := false }

def Die.reset (d : Nat) : Die :=
  { num := d, cycle := 0, retn := Config.retnReset, tickPh := 0, marks := [], lastHwq := 63, drains := [],
    drainmax := 50000, freq := Config.baseMhz, ceil := Config.boostMhz, wear := [0, 0, 0], isense := [0, 0, 0],
    clamp := [0, 1, 2].map (Config.clampLimit d), hot := [false, false, false], throttled := [false, false, false], fwcore := 0,
    fenced := false, shed := false, gated := [false, false, false], down := [false, false, false], parking := [], fwFault := false,
    retired := [], lastRev := none }

/-- A strand at reset: those of the firmware core are privileged (00 R4; log 3). -/
def Strand.boot (fwcore : Nat) (p : Place) : Strand :=
  { Strand.idle p with privileged := p.cluster * 4 + p.core = fwcore }

/-- Strands 0 to 3 of a core. -/
def strandsOf (d c k : Nat) : List Strand := [0, 1, 2, 3].map (fun n => Strand.boot 0 ⟨d, c, k, n⟩)

/-- The cores of a die. -/
def coresOf (d : Nat) : List Core :=
  [0, 1, 2].flatMap (fun c => [0, 1, 2, 3].map (fun k => Core.reset d c k))

/-- The sixteen die numbers. -/
def dieNums : List Nat := [0, 1, 2, 3, 4, 5, 6, 7, 8, 9, 10, 11, 12, 13, 14, 15]

def Supply.reset : Supply :=
  { warn := false, keep := 1, b1 := false, settled := false, b2 := false, stage := 0, fromB1 := false, cause := 0,
    budget := 0, entryBudget := 0, drained := 0, regions := [], returning := false, consume := false, booting := true,
    powered := true, exitDue := false, images := [] }

/-- The records as this model finds them: both copies valid, nothing disabled, nothing worn, no bad page. DESIGN CHOICE (log 89). -/
def Records.reset : Records :=
  let two {α : Type} (x : α) : List (RecordCopy α) := [⟨0, true, x⟩, ⟨1, true, x⟩]
  { harvest := two ⟨[], []⟩, calib := two (), fwcore := two [], wear := two [], badpage := two [] }

def Secure.reset : Secure :=
  { c := 0, bootcnt := 0, rollback := [], images := [], active := [], listfull := false, retiredNow := [],
    records := Records.reset, wearAt := 0, running := [] }

def Window.reset : Window :=
  { level := 0, dies := 0, tickper := 0, nextper := none, started := false, startClock := 0, startTick := 0, tick := 0, heartbeat := true, beat := 0,
    updating := false, sdaddr := 0, sdlen := 0, busy := false, faultRd := 0, faultOver := 0,
    msix := [], plain := [] }

def Memory.reset : Memory := { bytes := [], full := [], ecc := [], mode := [], tags := [] }

def Work.reset : Work :=
  { ctxs := [], queues := [], slots := [], launches := [], phases := [], saved := [], shoots := [],
    uid := 1, live := 0, epoch := 0, pendLive := 0, maps := [], mapGen := 0 }

/-- The module right after reset: no unit, nothing listed in memory, BLEVEL 0 (14 R315), every register at the value
INVENTORY.md names. Core 0 of every die is its firmware core, its strands privileged (00 R4; DESIGN CHOICE, log 3). -/
def State.reset : State :=
  { u := Strand.boot 0 ⟨0, 0, 0, 0⟩,
    strands := (dieNums.flatMap (fun d => [0, 1, 2].flatMap (fun c =>
      [0, 1, 2, 3].flatMap (fun k => strandsOf d c k)))).drop 1,
    core := Core.reset 0 0 0,
    cores := (dieNums.flatMap coresOf).drop 1,
    die := Die.reset 0,
    dies := (dieNums.drop 1).map Die.reset,
    mem := Memory.reset, waiters := [], work := Work.reset,
    fabric := { groups := [], ports := (List.range 32).map (fun _ => ⟨true, 0, 0, 0, []⟩), fenced := [], cut := [] },
    supply := Supply.reset, secure := Secure.reset, window := Window.reset,
    errs := { queue := [], bloom := [], hits := [], ways := [], badStacks := [], scrubs := [] },
    agenda := [], clock := 0, lull := none, freeCount := 0, slot := 0, checked := false, hdr := ⟨false, 0, 0⟩ }

end Sys2Proof.Machine
end

