-- ==== Sys2Proof/Machine/Bits.lean ====
section
/-! DEFINITION. Bit fields, byte order (00 R10), sign extension (00 R15), rows as bytes and elements (05 R107), CRC-32C
(06 R143), and small list functions. -/

namespace Sys2Proof.Machine

/-- Bits [lo + n − 1 : lo] of a number. -/
def bitsAt (x lo n : Nat) : Nat := (x >>> lo) % 2 ^ n

/-- Bit k of a number. -/
def bitOf (x k : Nat) : Bool := x.testBit k

/-- The n-bit pattern x read as a signed integer. -/
def signedAt (n x : Nat) : Int := if x % 2 ^ n < 2 ^ (n - 1) then (x % 2 ^ n : Nat) else (x % 2 ^ n : Nat) - (2 ^ n : Nat)

/-- An integer's low n bits. -/
def truncInt (n : Nat) (x : Int) : Nat := (x % (2 ^ n : Nat)).toNat

/-- The n low bytes of a number, little-endian. -/
def natBytes : Nat → Nat → List Byte
  | 0, _ => []
  | n + 1, x => BitVec.ofNat 8 x :: natBytes n (x / 256)

/-- Bytes read little-endian. -/
def bytesNat : List Byte → Nat
  | [] => 0
  | b :: r => b.toNat + 256 * bytesNat r

def wordBytes (w : Word) : List Byte := natBytes 8 w.toNat
def bytesWord (bs : List Byte) : Word := BitVec.ofNat 64 (bytesNat bs)
def rowBytes (r : Row) : List Byte := natBytes 64 r.toNat
def bytesRow (bs : List Byte) : Row := BitVec.ofNat 512 (bytesNat bs)

/-- The first n items of a list, extended with `d`. -/
def takePad {α : Type} (d : α) : Nat → List α → List α
  | 0, _ => []
  | n + 1, [] => d :: takePad d n []
  | n + 1, a :: r => a :: takePad d n r

def zeros (n : Nat) : List Byte := List.replicate n 0

/-- Element i of a row in lanes of e bytes. -/
def elem (e : Nat) (r : Row) (i : Nat) : Nat := bitsAt r.toNat (8 * e * i) (8 * e)

/-- The elements of a row in lanes of e bytes. -/
def elems (e : Nat) (r : Row) : List Nat := (List.range (64 / e)).map (elem e r)

/-- The row whose lanes of e bytes hold the listed elements, zero above. -/
def ofElems (e : Nat) (xs : List Nat) : Row :=
  BitVec.ofNat 512 (xs.foldr (fun x acc => x % 2 ^ (8 * e) + 2 ^ (8 * e) * acc) 0)

/-- A row cut to its first n bytes, zero above. -/
def lowBytes (n : Nat) (r : Row) : Row := BitVec.ofNat 512 (r.toNat % 2 ^ (8 * n))

/-- The first n bytes of `new` over the bytes of `old` above them (05 R113: writes at or beyond ROWB are suppressed). -/
def overLow (n : Nat) (new old : Row) : Row := lowBytes n new ||| (old - lowBytes n old)

/-- Format tags (05 R108) and their element sizes (05 R107, 17 R380). -/
def tagBytes (f : Nat) : Nat :=
  match f with
  | 1 => 4 | 4 => 4 | 2 => 2 | 3 => 2 | 5 => 2 | _ => 1

def isFp (f : Nat) : Bool := f = 1 || f = 2 || f = 3
def isBse (f : Nat) : Bool := f = 8 || f = 9 || f = 10
def isInt (f : Nat) : Bool := f = 4 || f = 5 || f = 6 || f = 7
def isSignedInt (f : Nat) : Bool := f = 4 || f = 5 || f = 6
def isTag (f : Nat) : Bool := 1 ≤ f && f ≤ 12
def tagRaw : Nat := 11
def tagIdx : Nat := 12

/-- Mantissa width and block size of a BSE format (06 R139). -/
def bseM (f : Nat) : Nat := match f with | 8 => 7 | 9 => 4 | _ => 2
def bseBlock (f : Nat) : Nat := match f with | 8 => 18 | 9 => 12 | _ => 8

/-- Whole blocks in n bytes, and the bytes they fill (05 R113). -/
def wholeBlocks (f n : Nat) : Nat := n / bseBlock f
def wholeBytes (f n : Nat) : Nat := wholeBlocks f n * bseBlock f

/-- One bit of the CRC-32C recurrence (15 R333). -/
def crcBit (c : BitVec 32) : BitVec 32 := if c.getLsbD 0 then (c >>> 1) ^^^ 0x82F63B78#32 else c >>> 1

/-- One byte of the CRC-32C state. -/
def crcByte (c : BitVec 32) (b : Byte) : BitVec 32 :=
  crcBit (crcBit (crcBit (crcBit (crcBit (crcBit (crcBit (crcBit (c ^^^ b.setWidth 32))))))))

/-- The CRC-32C state after bytes, in ascending order. -/
def crcBytes (c : BitVec 32) (bs : List Byte) : BitVec 32 := bs.foldl crcByte c

/-- CRC-32C of a byte string (06 R143). -/
def crc32c (bs : List Byte) : BitVec 32 := crcBytes 0xFFFFFFFF#32 bs ^^^ 0xFFFFFFFF#32

/-- Set bits, and leading zero bits of an n-bit value. -/
def popCount (n x : Nat) : Nat := ((List.range n).filter (fun i => bitOf x i)).length
def leadZeros (n x : Nat) : Nat := if x = 0 then n else n - (Nat.log2 x + 1)

/-- The bit-reversed 64-bit word. -/
def bitrev64 (w : Word) : Word := w.reverse

/-- Saturating count of a 64-bit counter (05 R121). -/
def satAdd (w : Word) (n : Nat) : Word := BitVec.ofNat 64 (min (w.toNat + n) (2 ^ 64 - 1))

/-- Replaces the item at place n. -/
def listSet {α : Type} (l : List α) (n : Nat) (v : α) : List α := l.set n v

/-- Updates the first item that satisfies a test. -/
def updFirst {α : Type} (p : α → Bool) (f : α → α) : List α → List α
  | [] => []
  | a :: r => if p a then f a :: r else a :: updFirst p f r

/-- Removes the first item that satisfies a test. -/
def dropFirst {α : Type} (p : α → Bool) : List α → List α
  | [] => []
  | a :: r => if p a then r else a :: dropFirst p r

/-- Removes the item at place n. -/
def dropAt {α : Type} : List α → Nat → List α
  | [], _ => []
  | _ :: r, 0 => r
  | a :: r, n + 1 => a :: dropAt r n

/-- Inserts after every item whose key is at most the new one's. -/
def insertBy {α : Type} (key : α → Nat) (a : α) : List α → List α
  | [] => [a]
  | b :: r => if key a < key b then a :: b :: r else b :: insertBy key a r

/-- A list sorted by a key; equal keys keep their order. -/
def sortBy {α : Type} (key : α → Nat) (l : List α) : List α := l.foldl (fun acc a => insertBy key a acc) []

end Sys2Proof.Machine
end

