-- ==== Sys2Proof/Machine/Flags.lean ====
section
/-! DEFINITION. Floating-point values and rounding with their flags (06 R128 to R138): every result is a pair of the
encoded value and the flags it raises, laid out as FPSTAT (05 R121). -/

namespace Sys2Proof.Machine

def flInvalid : Nat := 1
def flDivZero : Nat := 2
def flOverflow : Nat := 4
def flUnderflow : Nat := 8
def flInexact : Nat := 16

/-- A value with the flags it raised. -/
structure Flagged where
  val : Nat
  flags : Nat
  deriving DecidableEq, Repr

/-- Exponent and fraction widths of a floating-point tag (06 R128). -/
def expBits (f : Nat) : Nat := match f with | 2 => 5 | _ => 8
def fracBits (f : Nat) : Nat := match f with | 1 => 23 | 2 => 10 | _ => 7
def biasOf (f : Nat) : Nat := 2 ^ (expBits f - 1) - 1
def fpWidth (f : Nat) : Nat := 1 + expBits f + fracBits f

/-- The canonical NaN (06 R129), an infinity, the largest finite value and a zero of a format. -/
def nanOf (f : Nat) : Nat := (2 ^ expBits f - 1) * 2 ^ fracBits f + 2 ^ (fracBits f - 1)
def signBit (f : Nat) (neg : Bool) : Nat := if neg then 2 ^ (fpWidth f - 1) else 0
def infOf (f : Nat) (neg : Bool) : Nat := signBit f neg + (2 ^ expBits f - 1) * 2 ^ fracBits f
def maxOf (f : Nat) (neg : Bool) : Nat := infOf f neg - 1
def zeroOf (f : Nat) (neg : Bool) : Nat := signBit f neg

/-- A value read from a floating-point pattern. A number is ± m × 2^e. -/
inductive Fp where
  | nan (signalling : Bool)
  | inf (neg : Bool)
  | num (neg : Bool) (m : Nat) (e : Int)
  deriving DecidableEq, Repr

/-- A pattern of format f as its value (06 R128); subnormals keep their values. -/
def readFp (f x : Nat) : Fp :=
  let fr := bitsAt x 0 (fracBits f)
  let ex := bitsAt x (fracBits f) (expBits f)
  let neg := bitOf x (fpWidth f - 1)
  if ex = 2 ^ expBits f - 1 then
    (if fr = 0 then .inf neg else .nan (fr < 2 ^ (fracBits f - 1)))
  else if ex = 0 then .num neg fr (1 - (biasOf f : Int) - fracBits f)
  else .num neg (fr + 2 ^ fracBits f) ((ex : Int) - biasOf f - fracBits f)

def Fp.isNan : Fp → Bool
  | .nan _ => true
  | _ => false

def Fp.isSnan : Fp → Bool
  | .nan b => b
  | _ => false

def Fp.neg : Fp → Bool
  | .nan _ => false
  | .inf b => b
  | .num b _ _ => b

def Fp.negate : Fp → Fp
  | .nan b => .nan b
  | .inf b => .inf (!b)
  | .num b m e => .num (!b) m e

def snanFlag (xs : List Fp) : Nat := if xs.any Fp.isSnan then flInvalid else 0

/-- A magnitude m cut by `sh` bits and rounded in a mode (06 R130): the integer and whether it differs. `sticky` says
the exact magnitude lies strictly between m and m + 1. -/
def roundMag (mode : Nat) (neg : Bool) (m sh : Nat) (sticky : Bool) : Nat × Bool :=
  let n := m >>> sh
  let r := m % 2 ^ sh
  let inexact := r ≠ 0 || sticky
  let half := 2 ^ (sh - 1)
  let up : Bool := match mode with
    | 0 => sh ≠ 0 && (r > half || (r = half && (sticky || n % 2 = 1)))
    | 1 => false
    | 2 => inexact && neg
    | _ => inexact && !neg
  (if up then n + 1 else n, inexact)

/-- ± m × 2^e rounded to a multiple of 2^q. -/
def roundAt (mode : Nat) (neg : Bool) (m : Nat) (e q : Int) (sticky : Bool) : Nat × Bool :=
  if q ≤ e then (m <<< (e - q).toNat, sticky) else roundMag mode neg m (q - e).toNat sticky

/-- The overflowed result of a mode (06 R131). -/
def overflowOf (f rnd sat : Nat) (neg : Bool) : Nat :=
  if sat = 1 then maxOf f neg
  else match rnd with
    | 0 => infOf f neg
    | 1 => maxOf f neg
    | 2 => if neg then infOf f neg else maxOf f neg
    | _ => if neg then maxOf f neg else infOf f neg

/-- A non-zero exact magnitude m × 2^e (with `sticky` as in roundMag) rounded to f (06 R131). -/
def roundNum (f rnd sat : Nat) (neg : Bool) (m : Nat) (e : Int) (sticky : Bool) : Flagged :=
  let p := fracBits f + 1
  let bias : Int := biasOf f
  let top : Int := e + Nat.log2 m
  let (n1, x1) := roundAt rnd neg m e (top - (p - 1 : Nat)) sticky
  let top1 : Int := if n1 = 2 ^ p then top + 1 else top
  if top1 > bias then ⟨overflowOf f rnd sat neg, flOverflow + flInexact⟩
  else if top1 < 1 - bias then
    let (n, x) := roundAt rnd neg m e (1 - bias - (p - 1 : Nat)) sticky
    ⟨signBit f neg + n, if x then flUnderflow + flInexact else 0⟩
  else
    ⟨signBit f neg + (top1 + bias).toNat * 2 ^ fracBits f + n1 % 2 ^ fracBits f, if x1 then flInexact else 0⟩

/-- RoundFmt of an exact dyadic value (06 R131). -/
def roundFmt (f rnd sat : Nat) (v : Fp) : Flagged :=
  match v with
  | .nan s => ⟨nanOf f, if s then flInvalid else 0⟩
  | .inf neg => ⟨if sat = 1 then maxOf f neg else infOf f neg, 0⟩
  | .num neg m e => if m = 0 then ⟨zeroOf f neg, 0⟩ else roundNum f rnd sat neg m e false

def invalidResult (f : Nat) : Flagged := ⟨nanOf f, flInvalid⟩

/-- The exact sum of two numbers; an exact zero of opposite signs is −0 in mode down (06 R131). -/
def addNum (rnd : Nat) (n1 : Bool) (m1 : Nat) (e1 : Int) (n2 : Bool) (m2 : Nat) (e2 : Int) : Fp :=
  let e := min e1 e2
  let a : Int := (if n1 then -1 else 1) * ((m1 <<< (e1 - e).toNat : Nat) : Int)
  let b : Int := (if n2 then -1 else 1) * ((m2 <<< (e2 - e).toNat : Nat) : Int)
  let s := a + b
  if s = 0 then .num (if n1 = n2 then n1 else rnd = 2) 0 0 else .num (s < 0) s.natAbs e

/-- x + y, with the flags of IEEE 754-2019 (06 R131, R134). -/
def fpAdd (f rnd sat : Nat) (x y : Fp) : Flagged :=
  match x, y with
  | .nan _, _ => ⟨nanOf f, snanFlag [x, y]⟩
  | _, .nan _ => ⟨nanOf f, snanFlag [x, y]⟩
  | .inf a, .inf b => if a = b then roundFmt f rnd sat x else invalidResult f
  | .inf _, .num _ _ _ => roundFmt f rnd sat x
  | .num _ _ _, .inf _ => roundFmt f rnd sat y
  | .num n1 m1 e1, .num n2 m2 e2 => roundFmt f rnd sat (addNum rnd n1 m1 e1 n2 m2 e2)

/-- The exact product of two values; none for ∞ × 0. -/
def mulExact (x y : Fp) : Option Fp :=
  match x, y with
  | .nan a, .nan b => some (.nan (a || b))
  | .nan a, _ => some (.nan a)
  | _, .nan b => some (.nan b)
  | .inf a, .inf b => some (.inf (a != b))
  | .inf a, .num b m _ => if m = 0 then none else some (.inf (a != b))
  | .num a m _, .inf b => if m = 0 then none else some (.inf (a != b))
  | .num a m1 e1, .num b m2 e2 => some (.num (a != b) (m1 * m2) (e1 + e2))

def fpMul (f rnd sat : Nat) (x y : Fp) : Flagged :=
  match mulExact x y with
  | none => invalidResult f
  | some v => roundFmt f rnd sat v

/-- x × y + z with one rounding; ∞ × 0 sets invalid even with a NaN z (06 R134). -/
def fpFma (f rnd sat : Nat) (x y z : Fp) : Flagged :=
  match mulExact x y with
  | none => invalidResult f
  | some v =>
    let r := fpAdd f rnd sat v z
    ⟨r.val, r.flags ||| snanFlag [x, y, z]⟩

/-- x ÷ y, correctly rounded (17 R382). -/
def fpDiv (f rnd sat : Nat) (x y : Fp) : Flagged :=
  match x, y with
  | .nan _, _ => ⟨nanOf f, snanFlag [x, y]⟩
  | _, .nan _ => ⟨nanOf f, snanFlag [x, y]⟩
  | .inf _, .inf _ => invalidResult f
  | .inf a, .num b _ _ => roundFmt f rnd sat (.inf (a != b))
  | .num a _ _, .inf b => ⟨zeroOf f (a != b), 0⟩
  | .num a m1 e1, .num b m2 e2 =>
    let neg := a != b
    if m2 = 0 then
      (if m1 = 0 then invalidResult f else ⟨if sat = 1 then maxOf f neg else infOf f neg, flDivZero⟩)
    else if m1 = 0 then ⟨zeroOf f neg, 0⟩
    else
      let k := fracBits f + 4 + Nat.log2 m2 + 1
      roundNum f rnd sat neg ((m1 <<< k) / m2) (e1 - e2 - k) ((m1 <<< k) % m2 ≠ 0)

/-- √x, correctly rounded (17 R395). -/
def fpSqrt (f rnd sat : Nat) (x : Fp) : Flagged :=
  match x with
  | .nan s => ⟨nanOf f, if s then flInvalid else 0⟩
  | .inf neg => if neg then invalidResult f else roundFmt f rnd sat x
  | .num neg m e =>
    if m = 0 then ⟨zeroOf f neg, 0⟩
    else if neg then invalidResult f
    else
      let k : Nat := 64 + (if e % 2 = 0 then 0 else 1)
      let n := m <<< k
      let r := Nat.sqrt n
      roundNum f rnd sat false r ((e - k) / 2) (r * r ≠ n)

/-- The order of two numbers: x < y. −0 counts equal to +0. -/
def numLt (n1 : Bool) (m1 : Nat) (e1 : Int) (n2 : Bool) (m2 : Nat) (e2 : Int) : Bool :=
  let e := min e1 e2
  let a : Int := (if n1 then -1 else 1) * ((m1 <<< (e1 - e).toNat : Nat) : Int)
  let b : Int := (if n2 then -1 else 1) * ((m2 <<< (e2 - e).toNat : Nat) : Int)
  a < b

/-- x < y for values that are no NaN. -/
def fpLt (x y : Fp) : Bool :=
  match x, y with
  | .inf a, .inf b => a && !b
  | .inf a, _ => a
  | _, .inf b => !b
  | .num n1 m1 e1, .num n2 m2 e2 => numLt n1 m1 e1 n2 m2 e2
  | _, _ => false

def fpEq (x y : Fp) : Bool := !x.isNan && !y.isNan && !fpLt x y && !fpLt y x

/-- −0 orders below +0 (06 R134). -/
def fpTotalLt (x y : Fp) : Bool := fpLt x y || (fpEq x y && x.neg && !y.neg)

/-- VMIN and VMAX (06 R134): a NaN operand gives the other; two give the canonical NaN. -/
def fpMinMax (f sat : Nat) (wantMax : Bool) (x y : Fp) : Flagged :=
  let fl := snanFlag [x, y]
  let pick : Fp :=
    if x.isNan then y else if y.isNan then x
    else if wantMax then (if fpTotalLt x y then y else x) else (if fpTotalLt y x then y else x)
  let r := roundFmt f 0 sat pick
  ⟨r.val, (if pick.isNan then 0 else r.flags) ||| fl⟩

/-- A value rounded to an integral value (17 R395). -/
def fpRoundInt (f rnd sat : Nat) (x : Fp) : Flagged :=
  match x with
  | .num neg m e =>
    if 0 ≤ e || m = 0 then roundFmt f rnd sat x
    else
      let (n, ix) := roundMag rnd neg m (-e).toNat false
      ⟨(roundFmt f rnd sat (.num neg n 0)).val, if ix then flInexact else 0⟩
  | _ => roundFmt f rnd sat x

/-- The least and greatest value of an integer format (06 R136). -/
def intLo (f : Nat) : Int := match f with | 4 => -(2 ^ 31 : Nat) | 5 => -(2 ^ 15 : Nat) | 6 => -(2 ^ 7 : Nat) | _ => 0
def intHi (f : Nat) : Int := match f with | 4 => 2 ^ 31 - 1 | 5 => 2 ^ 15 - 1 | 6 => 2 ^ 7 - 1 | _ => 255

/-- An element read in an integer format. -/
def readInt (f x : Nat) : Int := if isSignedInt f then signedAt (8 * tagBytes f) x else (x % 256 : Nat)

def clampInt (f : Nat) (x : Int) : Int := max (intLo f) (min (intHi f) x)

/-- An exact integer result wrapped or clamped to f (06 R136). -/
def fitInt (f sat : Nat) (x : Int) : Nat := truncInt (8 * tagBytes f) (if sat = 1 then clampInt f x else x)

/-- A rounded integer, as a signed value, from ± m × 2^e. -/
def roundToInt (rnd : Nat) (neg : Bool) (m : Nat) (e : Int) : Int × Bool :=
  let (n, ix) := roundAt rnd neg m e 0 false
  (if neg then -(n : Int) else n, ix)

/-- Floating point to integer (06 R138). -/
def fpToInt (f rnd sat : Nat) (x : Fp) : Flagged :=
  let bad (v : Int) : Flagged := ⟨truncInt (8 * tagBytes f) v, flInvalid⟩
  match x with
  | .nan _ => bad (if sat = 1 then 0 else intLo f)
  | .inf neg => bad (if sat = 1 then (if neg then intLo f else intHi f) else intLo f)
  | .num neg m e =>
    let (n, ix) := roundToInt rnd neg m e
    if n < intLo f || intHi f < n then bad (if sat = 1 then clampInt f n else intLo f)
    else ⟨truncInt (8 * tagBytes f) n, if ix then flInexact else 0⟩

/-- An integer as an exact value. -/
def ofInt (x : Int) : Fp := .num (x < 0) x.natAbs 0

/-- VCVT of one element (06 R138). -/
def convert (fs fd rnd sat x : Nat) : Flagged :=
  if isFp fs then
    (if isFp fd then roundFmt fd rnd sat (readFp fs x) else fpToInt fd rnd sat (readFp fs x))
  else if isFp fd then roundFmt fd rnd sat (ofInt (readInt fs x))
  else ⟨fitInt fd sat (readInt fs x), 0⟩

/-- VSCAL of one element (17 R401). -/
def fpScale (f rnd : Nat) (k : Int) (x : Fp) : Flagged :=
  match x with
  | .num neg m e => roundFmt f rnd 0 (.num neg m (e + k))
  | _ => roundFmt f rnd 0 x

/-- Fixed point with `fx` fraction bits, for the approximations (06 R135; log 8). -/
def fx : Nat := 200

/-- log2(e) × 2^200, cut. -/
def log2e200 : Nat := 2318321547468254865173387471183990171487108758923299108729110

/-- The fraction bits of log2 y for 1 ≤ y < 2 in fixed point, by repeated squaring. -/
def logBits : Nat → Nat → Nat → Nat
  | 0, _, acc => acc
  | n + 1, y, acc =>
    let z := (y * y) >>> fx
    if z < 2 ^ (fx + 1) then logBits n z (2 * acc) else logBits n (z / 2) (2 * acc + 1)

/-- 2^f for a fraction f of n bits still to use, highest first; c is 2^(2^−j). -/
def expBitsProd : Nat → Nat → Nat → Nat → Nat
  | 0, _, _, acc => acc
  | n + 1, c, f, acc =>
    let acc' := if bitOf f n then (acc * c) >>> fx else acc
    expBitsProd n (Nat.sqrt (c <<< fx)) f acc'

/-- 2^f in fixed point for f of 160 bits below the point. -/
def exp2Frac (f : Nat) : Nat := expBitsProd 160 (Nat.sqrt (2 <<< (2 * fx))) f (2 ^ fx)

/-- A magnitude within the bound of 06 R135: the value cut to the format, raised or lowered by a number of units in the
last place that Config.approxPick draws from the allowed ones, `ulps` of them up. The unit is that of the exact value, so a
magnitude that crosses into the next binade, where the units are twice as large, is brought back to a whole one (log 8). -/
def approxNum (op f rnd sat ulps operand : Nat) (neg : Bool) (m : Nat) (e : Int) : Flagged :=
  let p := fracBits f + 1
  let top : Int := e + Nat.log2 m
  let q : Int := max (top - (p - 1 : Nat)) (1 - (biasOf f : Int) - (p - 1 : Nat))
  let n := (roundAt 1 neg m e q true).1
  let k := Config.approxPick op f rnd operand % (2 * ulps)
  let w := n + k + 1 - ulps
  let v := if 2 ^ p ≤ w then w - w % 2 else w
  let r := if v = 0 then ⟨zeroOf f neg, flUnderflow⟩ else roundNum f rnd sat neg v q false
  let tiny : Nat := if v ≠ 0 && q + (Nat.log2 v : Nat) < 1 - (biasOf f : Int) then flUnderflow else 0
  ⟨r.val, r.flags ||| flInexact ||| tiny⟩

/-- VRCP (06 R135): correctly rounded in the 2-byte formats; a power of two is exact. -/
def fpRcp (f rnd sat operand : Nat) (x : Fp) : Flagged :=
  match x with
  | .num neg m e =>
    if f = 1 && m ≠ 0 && m ≠ 2 ^ Nat.log2 m then
      approxNum 14 f rnd sat 1 operand neg (2 ^ (fx + Nat.log2 m) / m) (-e - (fx + Nat.log2 m : Nat))
    else fpDiv f rnd sat (.num false 1 0) x
  | _ => fpDiv f rnd sat (.num false 1 0) x

/-- VRSQ (06 R135): exact where the root and its reciprocal are. -/
def fpRsq (f rnd sat operand : Nat) (x : Fp) : Flagged :=
  match x with
  | .nan s => ⟨nanOf f, if s then flInvalid else 0⟩
  | .inf neg => if neg then invalidResult f else ⟨zeroOf f false, 0⟩
  | .num neg m e =>
    if m = 0 then ⟨if sat = 1 then maxOf f neg else infOf f neg, flDivZero⟩
    else if neg then invalidResult f
    else
      let odd : Nat := if e % 2 = 0 then 0 else 1
      let n := m <<< odd
      let h : Int := (e - odd) / 2
      if n = 2 ^ Nat.log2 n && Nat.log2 n % 2 = 0 then roundNum f rnd sat false 1 (-h - (Nat.log2 n / 2 : Nat)) false
      else
        -- 1/√n = √(2^(2·fx·2) / n) / 2^(2·fx)
        let r := Nat.sqrt (2 ^ (4 * fx) / n)
        if f = 1 then approxNum 15 f rnd sat 1 operand false r (-h - (2 * fx : Nat))
        else roundNum f rnd sat false r (-h - (2 * fx : Nat)) true

/-- VEXP2 (06 R135): an integer operand is exact. -/
def fpExp2 (f rnd sat operand : Nat) (x : Fp) : Flagged :=
  match x with
  | .nan s => ⟨nanOf f, if s then flInvalid else 0⟩
  | .inf neg => if neg then ⟨zeroOf f false, 0⟩ else roundFmt f rnd sat x
  | .num neg m e =>
    if m = 0 then roundNum f rnd sat false 1 0 false
    else if (Nat.log2 m : Int) + e ≥ 10 then
      (if neg then roundNum f rnd sat false 1 (-2000) true else ⟨overflowOf f rnd sat false, flOverflow + flInexact⟩)
    else if 0 ≤ e || m % 2 ^ (-e).toNat = 0 then
      let n : Nat := (roundAt 1 false m e 0 false).1
      roundNum f rnd sat false 1 (if neg then -(n : Int) else n) false
    else
      let scaled : Int := (roundAt 1 false m e (-160) false).1
      let y : Int := if neg then -scaled - 1 else scaled
      let i : Int := y / (2 ^ 160 : Nat)
      let r := exp2Frac (y % (2 ^ 160 : Nat)).toNat
      approxNum 17 f rnd sat (if f = 1 then 2 else 1) operand false r (i - fx)

/-- VLOG2 (06 R135): a power of two is exact. -/
def fpLog2 (f rnd sat operand : Nat) (x : Fp) : Flagged :=
  match x with
  | .nan s => ⟨nanOf f, if s then flInvalid else 0⟩
  | .inf neg => if neg then invalidResult f else roundFmt f rnd sat x
  | .num neg m e =>
    if m = 0 then ⟨if sat = 1 then maxOf f true else infOf f true, flDivZero⟩
    else if neg then invalidResult f
    else
      let i : Int := e + Nat.log2 m
      if m = 2 ^ Nat.log2 m then roundFmt f rnd sat (ofInt i)
      else
        let fr := logBits 160 ((m <<< fx) >>> Nat.log2 m) 0
        let v : Int := i * (2 ^ 160 : Nat) + fr
        approxNum 18 f rnd sat (if f = 1 then 2 else 1) operand (v < 0) v.natAbs (-160)

/-- VTANH (06 R135): the magnitude is never above 1. -/
def fpTanh (f rnd sat operand : Nat) (x : Fp) : Flagged :=
  match x with
  | .nan s => ⟨nanOf f, if s then flInvalid else 0⟩
  | .inf neg => roundFmt f rnd sat (.num neg 1 0)
  | .num neg m e =>
    if m = 0 then ⟨zeroOf f neg, 0⟩
    else
      let top : Int := e + Nat.log2 m
      let one := signBit f neg + biasOf f * 2 ^ fracBits f
      let r :=
        if top < -40 then
          -- tanh x lies just below x: x less one part in 2^60
          approxNum 19 f rnd sat (if f = 1 then 4 else 1) operand neg (m * 2 ^ 60 - 1) (e - 60)
        else if top ≥ 6 then
          approxNum 19 f rnd sat (if f = 1 then 4 else 1) operand neg (2 ^ 60 - 1) (-60)
        else
          -- z = 2^(−2·|x|·log2 e); tanh = (1 − z)/(1 + z)
          let t : Nat := (roundAt 1 false (2 * m * log2e200) (e - 200) (-160) false).1
          let y : Int := -(t : Int)
          let i : Int := y / (2 ^ 160 : Nat)
          let z := exp2Frac (y % (2 ^ 160 : Nat)).toNat >>> (-i).toNat
          approxNum 19 f rnd sat (if f = 1 then 4 else 1) operand neg
            (((2 ^ fx - z) <<< 160) / (2 ^ fx + z)) (-160)
      if r.val % 2 ^ (fpWidth f - 1) > biasOf f * 2 ^ fracBits f then ⟨one, r.flags⟩ else r

end Sys2Proof.Machine
end

