-- ==== Sys2Proof/Machine/Bse.lean ====
section
/-! DEFINITION. Block-shared-exponent blocks, quantisation and the trailer (06 R139 to R144). -/

namespace Sys2Proof.Machine

/-- A block read as fields (06 R139): shared exponent, micro-exponents of the quads, and sign and magnitude of each of
the 16 elements. -/
structure BseBlock where
  e : Nat
  mu : List Nat
  elts : List (Bool × Nat)
  deriving DecidableEq, Repr

/-- Reads a block from its bits. -/
def readBlock (f x : Nat) : BseBlock :=
  let m := bseM f
  { e := bitsAt x 0 8,
    mu := [0, 1, 2, 3].map (fun j => bitsAt x (8 + 2 * j) 2),
    elts := (List.range 16).map (fun i => (bitOf x (16 + (1 + m) * i + m), bitsAt x (16 + (1 + m) * i) m)) }

/-- The bits of a block. -/
def blockBits (f : Nat) (b : BseBlock) : Nat :=
  let m := bseM f
  let mus := b.mu.foldr (fun u acc => u + 4 * acc) 0
  let fields := b.elts.foldr (fun (s, q) acc => q + (if s then 2 ^ m else 0) + 2 ^ (m + 1) * acc) 0
  b.e + 256 * mus + 65536 * fields

def isNanBlock (b : BseBlock) : Bool := b.e = 0xFF

/-- The value of element i (06 R140): +0 when the magnitude is zero, a quiet NaN in a NaN block. -/
def bseValue (f : Nat) (b : BseBlock) (i : Nat) : Fp :=
  if isNanBlock b then .nan false
  else
    let (s, q) := b.elts.getD i (false, 0)
    if q = 0 then .num false 0 0
    else .num s q ((b.e : Int) - 127 - (bseM f - 1 : Nat) - (b.mu.getD (i / 4) 0))

def bseValues (f : Nat) (b : BseBlock) : List Fp := (List.range 16).map (bseValue f b)

/-- The whole blocks of a row within its first n bytes. -/
def rowBlocks (f n : Nat) (r : Row) : List BseBlock :=
  (List.range (wholeBlocks f n)).map (fun k => readBlock f (bitsAt r.toNat (8 * bseBlock f * k) (8 * bseBlock f)))

/-- The row that holds the listed blocks from byte 0, zero above. -/
def ofBlocks (f : Nat) (bs : List BseBlock) : Row :=
  BitVec.ofNat 512 (bs.foldr (fun b acc => blockBits f b + 2 ^ (8 * bseBlock f) * acc) 0)

/-- ⌊log2⌋ of a non-zero number m × 2^e. -/
def floorLog (m : Nat) (e : Int) : Int := e + Nat.log2 m

/-- The larger of two magnitudes, as m × 2^e. -/
def maxMag (a b : Nat × Int) : Nat × Int :=
  let e := min a.2 b.2
  if (a.1 <<< (a.2 - e).toNat) < (b.1 <<< (b.2 - e).toNat) then b else a

def magOf (x : Fp) : Nat × Int := match x with | .num _ m e => (m, e) | _ => (0, 0)

/-- A block with its saturation count and flags. -/
structure Quantised where
  block : BseBlock
  satcount : Nat
  flags : Nat
  deriving DecidableEq, Repr

def zeroBlock (e : Nat) : BseBlock := ⟨e, [0, 0, 0, 0], List.replicate 16 (false, 0)⟩

/-- One element of QuantiseBlock: sign, magnitude, saturated, inexact, underflowed. -/
def quantElt (m rnd : Nat) (step : Int) (x : Fp) : (Bool × Nat) × Nat × Nat :=
  match x with
  | .num neg mm e =>
    let (n, ix) := roundAt rnd neg mm e step false
    let big := 2 ^ m - 1 < n
    let q := if big then 2 ^ m - 1 else n
    ((neg && q ≠ 0, q), if big then 1 else 0,
      (if ix || big then flInexact else 0) ||| (if mm ≠ 0 && q = 0 then flUnderflow else 0))
  | _ => ((false, 0), 0, 0)

/-- QuantiseBlock (06 R141) of 16 values. -/
def quantise (f rnd sat : Nat) (xs : List Fp) : Quantised :=
  let m := bseM f
  let isInf (x : Fp) : Bool := match x with | .inf _ => true | _ => false
  if xs.any Fp.isNan || (xs.any isInf && sat = 0) then
    ⟨zeroBlock 0xFF, 0, if xs.any Fp.isSnan || (xs.any isInf && sat = 0) then flInvalid else 0⟩
  else
    let fixed := xs.map (fun x => match x with
      | .inf neg => Fp.num neg (2 ^ m - 1) (254 - 127 - (m - 1 : Nat))
      | y => y)
    let infs := (xs.filter isInf).length
    let amax := (fixed.map magOf).foldl maxMag (0, 0)
    if amax.1 = 0 then ⟨zeroBlock 0, infs, 0⟩
    else
      let e : Int := max (floorLog amax.1 amax.2 + 127) 0
      let mus := [0, 1, 2, 3].map (fun j =>
        let q := (((fixed.drop (4 * j)).take 4).map magOf).foldl maxMag (0, 0)
        if q.1 = 0 then 3 else (min 3 (max 0 (e - 127 - floorLog q.1 q.2))).toNat)
      let rs := fixed.mapIdx (fun i x =>
        quantElt m rnd (e - 127 - (m - 1 : Nat) - (mus.getD (i / 4) 0)) x)
      ⟨⟨e.toNat, mus, rs.map (fun r => r.1)⟩, infs + (rs.map (fun r => r.2.1)).sum,
        (rs.map (fun r => r.2.2)).foldl (· ||| ·) 0 ||| (if infs ≠ 0 then flOverflow else 0)⟩

/-- AMAX of a trailer (06 R142): the largest magnitude as FP32 rounded up, +∞, or the canonical NaN. Of a NaN
and an infinity together the NaN is reported (DESIGN CHOICE, log 84: the spec orders the two nowhere). -/
def amaxBits (xs : List Fp) : Nat :=
  if xs.any Fp.isNan then nanOf 1
  else if xs.any (fun x => match x with | .inf _ => true | _ => false) then infOf 1 false
  else
    let a := (xs.map magOf).foldl maxMag (0, 0)
    if a.1 = 0 then 0 else (roundNum 1 3 0 false a.1 a.2 false).val

/-- The 16 bytes of a trailer (06 R142) over a payload. -/
def trailerBytes (amax satcnt : Nat) (payload : List Byte) (f rows rowb : Nat) : List Byte :=
  natBytes 16 (amax + 2 ^ 32 * min satcnt (2 ^ 32 - 1) + 2 ^ 64 * (crc32c payload).toNat +
    2 ^ 96 * (f + 16 * (rows - 1) + 2 ^ 16 * rowb + 2 ^ 28 * 1))

/-- How a trailer fails its check (06 R144): 0 not at all, 1 CRC, 2 format or shape, 3 both. -/
def trailerFault (tr payload : List Byte) (f rows rowb : Nat) : Nat :=
  let x := bytesNat tr
  let crcBad := bitsAt x 64 32 ≠ (crc32c payload).toNat
  let shapeBad := bitsAt x 96 4 ≠ f || bitsAt x 100 12 ≠ rows - 1 || bitsAt x 112 12 ≠ rowb || bitsAt x 124 4 ≠ 1
  (if crcBad then 1 else 0) + (if shapeBad then 2 else 0)

/-- A tile handle (07 R168). -/
structure Handle where
  addr : Word
  rows : Nat
  rowb : Nat
  stride : Nat
  fmt : Nat
  trl : Bool
  valid : Bool
  deriving DecidableEq, Repr

/-- Reads a handle register and says whether it is valid (07 R168). -/
def readHandle (h : BitVec 256) : Handle :=
  let x := h.toNat
  let rowb := bitsAt x 68 7
  let rows := bitsAt x 64 4 + 1
  let stride := bitsAt x 80 32
  let fmt := bitsAt x 112 4
  let trl := bitOf x 116
  { addr := h.extractLsb' 0 64, rows := rows, rowb := rowb, stride := stride, fmt := fmt, trl := trl,
    valid := bitsAt x 75 5 = 0 && bitsAt x 117 139 = 0 && isTag fmt && (trl == isBse fmt) &&
      (rows = 1 || rowb ≤ stride) &&
      (if isBse fmt then rowb % bseBlock fmt = 0 && bseBlock fmt ≤ rowb && rowb ≤ 64
       else rowb % 4 = 0 && 4 ≤ rowb && rowb ≤ 64) }

/-- The offset of a tile's trailer (07 R169). -/
def trailerOff (h : Handle) : Nat := (bitsAt h.addr.toNat 0 58 + (h.rows - 1) * h.stride + h.rowb + 15) / 16 * 16

end Sys2Proof.Machine
end

