-- ==== Sys2Proof/Machine/Memory.lean ====
section
/-! DEFINITION. Memory by home address (09 R194, R195): the regions of homes, reads and writes with mailbox bits (09
R207), error states (13 R282 to R285) and the line owner tags (13 R290). -/

namespace Sys2Proof.Machine

/-- Where each region of homes begins: global memory at 0, the die scratchpads, the core scratchpads, SCM, host memory. -/
def dieSpadBase (d : Nat) : Nat := 2 ^ 64 + d * 2 ^ 24
def coreIndex (d c k : Nat) : Nat := d * 12 + c * 4 + k
def coreSpadBase (ci : Nat) : Nat := 2 ^ 65 + ci * 2 ^ 19
def scmBase : Nat := 2 ^ 66

/-- Homes on another module (09 R194), and the module: 2^45 bytes for each of the 2^17 module numbers (log 27). -/
def remoteBase : Nat := 2 ^ 62
def isRemote (a : Nat) : Bool := remoteBase ≤ a && a < 2 * remoteBase
def moduleOf (a : Nat) : Nat := (a - remoteBase) / 2 ^ 45
def hostBase : Nat := 2 ^ 67

def isGlobal (a : Nat) : Bool := a < 2 ^ 64
def isDieSpad (a : Nat) : Bool := 2 ^ 64 ≤ a && a < 2 ^ 65
def isCoreSpad (a : Nat) : Bool := 2 ^ 65 ≤ a && a < 2 ^ 66

/-- The die and the core index of a scratchpad home. -/
def dieOfHome (a : Nat) : Nat := (a - 2 ^ 64) / 2 ^ 24
def coreOfHome (a : Nat) : Nat := (a - 2 ^ 65) / 2 ^ 19

/-- The bytes of one ECC granule: 32 in HBM4 (13 R282), 8 in the scratchpads (13 R285). -/
def granBytes (a : Nat) : Nat := if isGlobal a then 32 else 8
def granOf (a : Nat) : Nat := a - a % granBytes a

/-- The bits of a granule at home g that its code covers in TOLERANT mode (13 R282): the leading bits of each FP element, and the two
leading bytes of each BSE block, packed from the extent's base; all bits under any other FMAP. -/
def Cover.covers (c : Cover) (g bit : Nat) : Bool :=
  if !c.tol then true
  else match c.fmap with
  | 1 => 23 ≤ bit % 32
  | 2 => 10 ≤ bit % 16
  | 3 => 7 ≤ bit % 16
  | f => if isBse f then (g - c.base + bit / 8) % bseBlock f < 2 else true

/-- How many symbols in error the code corrects: one, or two of the covered bits in the modes that cover some bits only (13 R282). -/
def Cover.corrects (c : Cover) : Nat := if c.tol && (isFp c.fmap || isBse c.fmap) then 2 else 1

/-- What a read finds in a code word: more symbols of four bits in error than it corrects are detected. The scratchpads' words correct one
bit and detect two (13 R285). That what lies beyond detection is detected too is a DESIGN CHOICE (log 95). -/
def Code.read (x : Code) (global : Bool) (c : Cover) (g : Nat) : Ecc :=
  if x.bad then .poisoned
  else
    let hit := if global then ((x.flips.filter (c.covers g)).map (· / 4)).eraseDups else x.flips.eraseDups
    let n := if global then c.corrects else 1
    if hit = [] then .clean else if hit.length ≤ n then .correctable else .uncorrectable

namespace Memory

/-- One byte at its home. -/
def byte (m : Memory) (a : Nat) : Byte := lookup Memory.default m.bytes a

def setByte (m : Memory) (a : Nat) (b : Byte) : Memory := { m with bytes := put Memory.default m.bytes a b }

/-- n bytes from a. -/
def range (m : Memory) (a n : Nat) : List Byte := (List.range n).map (fun i => m.byte (a + i))

/-- Bytes written from a on, with nothing else changed. -/
def poke (m : Memory) (a : Nat) : List Byte → Memory
  | [] => m
  | b :: r => poke (m.setByte a b) (a + 1) r

def word (m : Memory) (a : Nat) : Word := bytesWord (m.range a 8)

/-- The full/empty bit of the aligned 8-byte word that holds a. -/
def isFull (m : Memory) (a : Nat) : Bool := m.full.contains (a - a % 8)
def setFull (m : Memory) (a : Nat) (b : Bool) : Memory :=
  let w := a - a % 8
  let l := m.full.filter (· ≠ w)
  { m with full := if b then insertBy id w l else l }

/-- The policy stored with a granule (13 R282). -/
def modeOf (m : Memory) (a : Nat) : Cover := lookup Cover.strict m.mode (granOf a)
def setMode (m : Memory) (a : Nat) (c : Cover) : Memory := { m with mode := put Cover.strict m.mode (granOf a) c }

/-- What a read finds at a home: errors in the bits that the stored policy covers (13 R282, R285). -/
def eccOf (m : Memory) (a : Nat) : Ecc := (lookup .clean m.ecc (granOf a)).read (isGlobal a) (m.modeOf a) (granOf a)
def setEcc (m : Memory) (a : Nat) (c : Code) : Memory := { m with ecc := put .clean m.ecc (granOf a) c }

/-- The code words of a range written whole: fresh and STRICT, its mailbox words EMPTY (13 R284, 09 R207). -/
def renew (m : Memory) (a n : Nat) : Memory :=
  let inside (g : Nat) : Bool := a ≤ g && g + granBytes g ≤ a + n
  { m with ecc := m.ecc.filter (fun (g, _) => !inside g), mode := m.mode.filter (fun (g, _) => !inside g),
           full := m.full.filter (fun w => !(a ≤ w && w + 8 ≤ a + n)) }

/-- Bytes written from a on as whole granules (13 R284): those of save areas and slots. -/
def lay (m : Memory) (a : Nat) (bs : List Byte) : Memory := (m.poke a bs).renew a bs.length

/-- The owner tag of the line that holds a (13 R290), plus one; 0 for a line that nothing has written. -/
def tagOf (m : Memory) (a : Nat) : Nat := lookup 0 m.tags (a / 64)
def setTag (m : Memory) (a tag : Nat) : Memory := { m with tags := put 0 m.tags (a / 64) (tag + 1) }

/-- The distinct granules of a list of homes. -/
def granules (homes : List Nat) : List Nat := (homes.map granOf).eraseDups

def bad (e : Ecc) : Bool := e = .uncorrectable || e = .poisoned

/-- Writes one byte of a store: its mailbox word becomes EMPTY (09 R207). -/
def storeByte (m : Memory) (a : Nat) (b : Byte) : Memory := (m.setByte a b).setFull a false

/-- Part of a write of the bytes at `whole`, with `rest` still to come (09 R197), granule by granule (13 R284): granules that the write
covers get a fresh code word with its last part; a bad granule written in part becomes poisoned and is not merged. Answers the memory and
the granules not merged. -/
def writePart (m : Memory) (whole rest homes : List Nat) (data : List Byte) (c : Cover) (tag : Nat) : Memory × List Nat :=
  let dropped := (granules homes).filter (fun g =>
    bad (m.eccOf g) && (whole.filter (fun a => granOf a = g)).length < granBytes g)
  let m1 := (homes.zip data).foldl (fun m (a, b) =>
    if dropped.contains (granOf a) then m else
      let m := m.storeByte a b
      if isGlobal a then m.setTag a tag else m) m
  let m2 := (granules homes).foldl (fun k g =>
    if dropped.contains g then k.setEcc g .poisoned
    else if bad (m.eccOf g) && rest.any (fun a => granOf a = g) then k
    else (k.setEcc g .clean).setMode g c) m1
  (m2, dropped)

/-- A write of bytes at homes (13 R284). -/
def write (m : Memory) (homes : List Nat) (data : List Byte) (c : Cover) (tag : Nat) : Memory × List Nat :=
  m.writePart homes [] homes data c tag

/-- What a read finds in each granule it touches (13 R283): granules to poison or to repair, in order. -/
def badGranules (m : Memory) (homes : List Nat) : List Nat := (granules homes).filter (fun g => bad (m.eccOf g))
def repaired (m : Memory) (homes : List Nat) : List Nat :=
  (granules homes).filter (fun g => m.eccOf g = .correctable)

/-- The memory after a read: uncorrectable granules are written back poisoned (13 R283). A corrected one waits for its
scrub (13 R286). -/
def afterRead (m : Memory) (homes : List Nat) : Memory :=
  (granules homes).foldl (fun m g =>
    match m.eccOf g with
    | .uncorrectable => m.setEcc g .poisoned
    | _ => m) m

end Memory

end Sys2Proof.Machine
end

