-- ==== Sys2Proof/Machine/Regs.lean ====
section
/-! DEFINITION. The named operations over the state: which strand, core and die stand in front, the registers (05), the
special registers (05 R121, R122), fixed-latency writes (02 R51), and the lists of strands and cores. -/

namespace Sys2Proof.Machine

/-! Updates of one part of the state. -/

def State.modU (s : State) (f : Strand → Strand) : State := { s with u := f s.u }
def State.modCore (s : State) (f : Core → Core) : State := { s with core := f s.core }
def State.modDie (s : State) (f : Die → Die) : State := { s with die := f s.die }
def State.modMem (s : State) (f : Memory → Memory) : State := { s with mem := f s.mem }
def State.modWork (s : State) (f : Work → Work) : State := { s with work := f s.work }
def State.modMatrix (s : State) (f : Matrix → Matrix) : State :=
  { s with core := { s.core with matrix := f s.core.matrix } }
def Strand.modRegs (u : Strand) (f : Regs → Regs) : Strand := { u with regs := f u.regs }
def Strand.modSr (u : Strand) (f : Specials → Specials) : Strand := { u with regs := { u.regs with sr := f u.regs.sr } }
def Strand.modTrap (u : Strand) (f : Trapping → Trapping) : Strand := { u with trap := f u.trap }
def Strand.modTime (u : Strand) (f : Timing → Timing) : Strand := { u with time := f u.time }

/-- CYCLE of the die in front (05 R121). -/
def State.now (s : State) : Nat := s.die.cycle

/-- The free value of a counter, and the counter advanced (log 7). -/
def State.tickFree (s : State) (n : Nat) : State := { s with freeCount := s.freeCount + n }

/-! Which strand, core and die stand in front. -/

def Core.at (c : Core) (p : Place) : Bool := c.die = p.die && c.cluster = p.cluster && c.core = p.core
def Core.index (c : Core) : Nat := coreIndex c.die c.cluster c.core
def placeIndex (p : Place) : Nat := coreIndex p.die p.cluster p.core

/-- Exchanges the front item with the first listed item that passes the test. -/
def swapFront {α : Type} (p : α → Bool) (a : α) (l : List α) : α × List α :=
  if p a then (a, l)
  else match l.findIdx? p with
    | none => (a, l)
    | some i => match l[i]? with
      | none => (a, l)
      | some b => (b, l.set i a)

/-- Brings a strand, its core and its die to the front. -/
def State.focus (s : State) (p : Place) : State :=
  let (u, us) := swapFront (fun x : Strand => decide (x.place = p)) s.u s.strands
  let (c, cs) := swapFront (fun x : Core => x.at p) s.core s.cores
  let (d, ds) := swapFront (fun x : Die => decide (x.num = p.die)) s.die s.dies
  { s with u := u, strands := us, core := c, cores := cs, die := d, dies := ds }

/-- Acts with another strand in front, and brings the first one back. -/
def State.at (s : State) (p : Place) (f : State → State) : State :=
  let q := s.u.place
  if p = q then f s else (f (s.focus p)).focus q

def State.allStrands (s : State) : List Strand := s.u :: s.strands
def State.allCores (s : State) : List Core := s.core :: s.cores
def State.allDies (s : State) : List Die := s.die :: s.dies
def State.coreAt (s : State) (ci : Nat) : Option Core := s.allCores.find? (fun c => c.index = ci)
def State.dieAt (s : State) (d : Nat) : Option Die := s.allDies.find? (fun x => x.num = d)

/-- A unit stands on a strand in these states (01 R20). -/
def UState.onStrand : UState → Bool
  | .ready => true | .running => true | .blocked => true | .ending => true | _ => false

def Strand.holds (u : Strand) (w : UnitId) : Bool := u.st.onStrand && decide (u.who = w)
def State.strandOf (s : State) (w : UnitId) : Option Strand := s.allStrands.find? (fun u => u.holds w)

/-- Changes the strand that holds a unit, wherever it stands. -/
def State.modUnit (s : State) (w : UnitId) (f : Strand → Strand) : State :=
  if s.u.holds w then { s with u := f s.u }
  else { s with strands := updFirst (fun u => u.holds w) f s.strands }

/-- Acts with the strand of a unit in front. -/
def State.atUnit (s : State) (w : UnitId) (f : State → State) : State :=
  match s.strandOf w with
  | none => s
  | some u => s.at u.place f

/-- Changes a core, wherever it stands. -/
def State.modCoreAt (s : State) (ci : Nat) (f : Core → Core) : State :=
  if s.core.index = ci then { s with core := f s.core }
  else { s with cores := updFirst (fun c => c.index = ci) f s.cores }

def State.modDieAt (s : State) (d : Nat) (f : Die → Die) : State :=
  if s.die.num = d then { s with die := f s.die }
  else { s with dies := updFirst (fun x => x.num = d) f s.dies }

def State.mapStrands (s : State) (f : Strand → Strand) : State := { s with u := f s.u, strands := s.strands.map f }
def State.mapCores (s : State) (f : Core → Core) : State := { s with core := f s.core, cores := s.cores.map f }
def State.mapDies (s : State) (f : Die → Die) : State := { s with die := f s.die, dies := s.dies.map f }

/-! Registers. -/

/-- A scalar; s0 reads zero (05 R106). -/
def Strand.scalar (u : Strand) (n : Nat) : Word := if n = 0 then 0 else lookup 0 u.regs.s n

/-- A scalar written; a write to s0 is discarded (02 R54, 05 R106). -/
def Strand.setScalar (u : Strand) (n : Nat) (v : Word) : Strand :=
  if n = 0 then u else { u with regs := { u.regs with s := put 0 u.regs.s n v } }

/-- S(n) of 15 R317. -/
def State.S (s : State) (n : BitVec 6) : Word := s.u.scalar n.toNat

def Strand.latch (u : Strand) (q : Nat) : Latch := lookup Latch.none u.regs.q q
def Strand.setLatch (u : Strand) (q : Nat) (l : Latch) : Strand :=
  { u with regs := { u.regs with q := put Latch.none u.regs.q q l } }

/-- v(2040 + j) while latch j is bound (02 R64). -/
def Strand.isLatch (u : Strand) (v : Nat) : Bool := 2040 ≤ v && v < 2048 && (u.latch (v - 2040)).bound

def Strand.group (u : Strand) (t : Nat) : TGroup := lookup TGroup.none u.regs.t t
def Strand.setGroup (u : Strand) (t : Nat) (g : TGroup) : Strand :=
  { u with regs := { u.regs with t := put TGroup.none u.regs.t t g } }

/-- A group is configured to the unit on the strand only while it holds it (05 R111). -/
def Strand.configured (u : Strand) (t : Nat) : Bool := (u.group t).conf && decide ((u.group t).holder = u.who)

def Strand.rowb (u : Strand) (v : Nat) : Nat := if u.isLatch v then 64 else (u.group (v / 16)).rowb

/-- A vector register as a source reads it: a bound latch gives its head (02 R64). -/
def Strand.vreg (u : Strand) (v : Nat) : VReg :=
  if u.isLatch v then ⟨(u.latch (v - 2040)).head.getD 0, (u.latch (v - 2040)).fmt⟩ else lookup VReg.zero u.regs.v v

def Strand.putVreg (u : Strand) (v : Nat) (r : VReg) : Strand :=
  { u with regs := { u.regs with v := put VReg.zero u.regs.v v r } }

/-- The bytes of a row of ROWB bytes that a value with a tag fills: whole blocks of a BSE row (05 R113). -/
def rowWidth (rowb tag : Nat) : Nat := if isBse tag then wholeBytes tag rowb else rowb

/-- A write to a row: bytes at or beyond ROWB stay zero, and those after the last whole block of a BSE row (05 R113); the group
becomes DIRTY (05 R111). -/
def Strand.setVreg (u : Strand) (v : Nat) (r : VReg) : Strand :=
  let g := u.group (v / 16)
  if g.conf then (u.putVreg v ⟨lowBytes (rowWidth g.rowb r.tag) r.data, r.tag⟩).setGroup (v / 16) { g with dirty := true }
  else u.putVreg v r

def Strand.ext (u : Strand) (x : Nat) : BitVec 256 := lookup 0 u.regs.x x
def Strand.handle (u : Strand) (h : Nat) : BitVec 256 := lookup 0 u.regs.h h
def Strand.setHandle (u : Strand) (h : Nat) (v : BitVec 256) : Strand :=
  { u with regs := { u.regs with h := put 0 u.regs.h h v } }
def Strand.mask (u : Strand) (m : Nat) : Word := lookup 0 u.regs.m m
def Strand.setMask (u : Strand) (m : Nat) (v : Word) : Strand :=
  { u with regs := { u.regs with m := put 0 u.regs.m m v } }

/-- Word w of an extent register, and the register with that word replaced; RES bits are written as zero (05 R116). -/
def extWord (x : BitVec 256) (w : Nat) : Word := x.extractLsb' (64 * w) 64
def extMask (w : Nat) : Word :=
  match w with
  | 0 => 0xFFFFFFFFFFFF0000 | 1 => 0x03FFFFFFFFFFFFFF | 2 => 0xFFFFF | _ => 0xFFFFFFFFFFFF0000
def extPut (x : BitVec 256) (w : Nat) (v : Word) : BitVec 256 :=
  let part (k : Nat) : BitVec 64 := if k = w then v &&& extMask k else extWord x k
  part 3 ++ part 2 ++ part 1 ++ part 0

/-- Fields of an extent register (05 R116). -/
def extBase (x : BitVec 256) : Nat := bitsAt x.toNat 16 48 * 65536
def extLen (x : BitVec 256) : Nat := bitsAt x.toNat 64 58
def extRd (x : BitVec 256) : Bool := x.getLsbD 128
def extWr (x : BitVec 256) : Bool := x.getLsbD 129
def extExec (x : BitVec 256) : Bool := x.getLsbD 130
def extTol (x : BitVec 256) : Bool := x.getLsbD 131
def extSvc (x : BitVec 256) : Nat := bitsAt x.toNat 132 2
def extFmap (x : BitVec 256) : Nat := bitsAt x.toNat 134 4

/-- An extent register from its fields. -/
def mkExt (base len : Nat) (rd wr ex tol : Bool) (svc fmap ctx vbase : Nat) : BitVec 256 :=
  BitVec.ofNat 256 (base / 65536 * 2 ^ 16 + 2 ^ 64 * (len % 2 ^ 58) + 2 ^ 128 * (if rd then 1 else 0) +
    2 ^ 129 * (if wr then 1 else 0) + 2 ^ 130 * (if ex then 1 else 0) + 2 ^ 131 * (if tol then 1 else 0) +
    2 ^ 132 * (svc % 4) + 2 ^ 134 * (fmap % 16) + 2 ^ 138 * (ctx % 1024) + 2 ^ 208 * (vbase / 65536 % 2 ^ 48))

/-- Index of the j-th active level from the outermost, zero beyond (05 R120). -/
def Strand.loopIndex (u : Strand) (j : Nat) : Word := (u.loops.reverse[j]?.map Loop.index).getD 0

/-- Some region of the unit's context was LOST at the last restore (12 R266). -/
def State.lostAny (s : State) : Bool := s.work.ctxs.any (fun c => c.id = s.u.own.ctx && c.lostAny)

/-- HIBSTATE (12 R266). -/
def State.hibstate (s : State) : Word :=
  BitVec.ofNat 64 ((if s.supply.warn then 1 else 0) + 16 * (s.u.own.last % 16) + 256 * (if s.lostAny then 1 else 0) +
    65536 * (if s.u.own.last = 3 then s.u.own.hibseq % 2 ^ 32 else 0))

def placeWord (p : Place) : Nat := p.strand + 4 * p.core + 16 * p.cluster + 64 * p.die

/-- The header and value words of an in-flight entry (05 R124); `delay` cycles from resume. -/
def flightWords (f : Flight) (delay : Nat) : List Word :=
  let (cls, reg) := match f.dest with | .vector r => (1, r) | .scalar r => (0, r) | _ => (0, 0)
  let hd := 1 + 2 * cls + 4 * reg + 2 ^ 13 * f.cnt + 2 ^ 18 * f.next + 2 ^ 23 * (delay % 64) +
    (if f.same then 2 ^ 29 else 0) + (if f.pair then 2 ^ 30 else 0) + (if f.div then 2 ^ 63 else 0)
  BitVec.ofNat 64 hd :: f.rows.flatMap (fun r =>
    if cls = 0 then [r.data.setWidth 64]
    else (List.range 8).map (fun k => r.data.extractLsb' (64 * k) 64) ++ [BitVec.ofNat 64 r.tag])

/-- An in-flight entry read from its words; `land` holds DELAY (05 R124). -/
def readFlight (ws : List Word) : Flight :=
  let h := (ws.headD 0).toNat
  let cnt := bitsAt h 13 5
  let next := bitsAt h 18 5
  let vec := bitOf h 1
  let vals := ws.drop 1
  let rows := (List.range (cnt + 1 - next)).map (fun j =>
    if vec then
      let w := (vals.drop (9 * j)).take 9
      VReg.mk (bytesRow ((w.take 8).flatMap wordBytes)) (((w[8]?).getD 0).toNat % 16)
    else VReg.mk (((vals[j]?).getD 0).setWidth 512) 0)
  { dest := if vec then .vector (bitsAt h 2 11) else .scalar (bitsAt h 2 11), cnt := cnt, next := next,
    land := bitsAt h 23 6, same := bitOf h 29, pair := bitOf h 30, div := bitOf h 63, fault := none, rows := rows,
    flags := 0, reg := bitsAt h 2 11, slot := 0, epc := 0, seq := 0, errs := 0, overtaken := [], issued := 0, rowFlags := [], erred := false }

/-- The bits of a word of a slot that are not RES or zero (05 R124; 00 R13): the header has [62:31] RES, and a vector entry's ninth word of
each row holds a tag. -/
def ifqMask (header : Word) (w : Nat) : Word :=
  if w = 0 then 0x800000007FFFFFFF else if header.getLsbD 1 && w % 9 = 0 then 0xF else BitVec.allOnes 64

/-- A word of a slot of the in-flight queue (05 R122, R124). -/
def Trapping.ifqWord (t : Trapping) (e w : Nat) : Word :=
  ((t.ifq[e]?).bind (fun f => (flightWords f f.land)[w]?)).getD
    (lookup 0 t.ifqRest (256 * e + w) &&& ifqMask (lookup 0 t.ifqRest (256 * e)) w)

/-- Whether a special register number is assigned (05 R121, R122), and whether it is read-only. -/
def srAssigned (n : Nat) : Bool := n < 0x20 || (0x100 ≤ n && n ≤ 0x108)
def srReadOnly (n : Nat) : Bool :=
  n < 9 || n = 0x12 || n = 0x13 || n = 0x14 || n = 0x17 || n = 0x18 || (0x1A ≤ n && n ≤ 0x1F) || n = 0x100 || n = 0x101

/-- The value MFSR reads (05 R121, R122). -/
def State.readSr (s : State) (n : Nat) : Word :=
  let r := s.u.regs.sr
  let p := s.u.regs.pr
  match n with
  | 0x000 => BitVec.ofNat 64 s.die.cycle
  | 0x001 => BitVec.ofNat 64 s.window.tick
  | 0x002 => BitVec.ofNat 64 s.die.tickPh
  | 0x003 => r.rank
  | 0x004 => r.units
  | 0x005 => r.team
  | 0x006 => r.teamsz
  | 0x007 => r.launch
  | 0x008 => BitVec.ofNat 64 s.die.retn
  | 0x009 => r.periodmax
  | 0x00A => r.chk
  | 0x00B => r.fpctl
  | 0x00C => r.fpstat
  | 0x00D => r.ashape
  | 0x00E => r.prom
  | 0x00F => r.accovf
  | 0x010 => r.trailcnt
  | 0x011 => r.errcnt
  | 0x012 => BitVec.ofNat 64 s.u.loops.length
  | 0x013 => r.estimate
  | 0x014 => s.hibstate
  | 0x015 => r.handler
  | 0x016 => r.epc
  | 0x017 => r.ecause
  | 0x018 => r.einfo
  | 0x019 => r.misscnt
  | 0x01A => s.u.loopIndex 0
  | 0x01B => s.u.loopIndex 1
  | 0x01C => s.u.loopIndex 2
  | 0x01D => s.u.loopIndex 3
  | 0x01E => s.u.loopIndex 4
  | 0x01F => s.u.loopIndex 5
  | 0x100 => BitVec.ofNat 64 (placeWord s.u.place)
  | 0x101 => BitVec.ofNat 64 (Config.moduleId % 2 ^ 17)
  | 0x102 => p.ctxid
  | 0x103 => p.vfunc
  | 0x104 => p.savebase
  | 0x105 => BitVec.ofNat 64 s.u.trap.ifq.length
  | 0x106 => p.ifqsel
  | 0x107 => s.u.trap.ifqWord (bitsAt p.ifqsel.toNat 0 5) (bitsAt p.ifqsel.toNat 8 8)
  | _ => 0

/-- PERIODMAX clamps to 256..65536 (05 R121). -/
def clampPeriod (v : Word) : Word := BitVec.ofNat 64 (max 256 (min 65536 v.toNat))

/-- The words of a slot of the in-flight queue: a header and 153 value words (05 R124). -/
def ifqSlotWords : Nat := 154

/-- IFQDATA writes a word of a slot (05 R122): that of a valid entry, or one that no valid entry holds. A parked entry keeps what
its words have no room for (log 11). -/
def Trapping.setIfqWord (t : Trapping) (e w : Nat) (v : Word) : Trapping :=
  if ifqSlotWords ≤ w then t
  else
    let rest := put 0 t.ifqRest (256 * e + w) (if w = 0 then v &&& ifqMask v 0 else v)
    match t.ifq[e]? with
    | none => { t with ifqRest := rest }
    | some f =>
      let g := readFlight (((List.range ifqSlotWords).map (t.ifqWord e)).set w v)
      { t with
        ifqRest := rest,
        ifq := t.ifq.set e { g with fault := f.fault, flags := f.flags, slot := f.slot, epc := f.epc, seq := f.seq,
                                    errs := f.errs, overtaken := f.overtaken, issued := f.issued, rowFlags := f.rowFlags,
                                    erred := f.erred } }

/-- IFQLEN written (05 R122): entries beyond it are no longer valid and keep their words; entries up to it become valid with the
words that their slots hold. -/
def Trapping.setIfqLen (t : Trapping) (n : Nat) : Trapping :=
  let m := min n Config.ifqEntries
  let slot (e : Nat) : List Word := (List.range ifqSlotWords).map (t.ifqWord e)
  let gone := (List.range (t.ifq.length - m)).map (fun k => m + k)
  let grown := (List.range (m - t.ifq.length)).map (fun k => t.ifq.length + k)
  { t with
    ifq := t.ifq.take m ++ grown.map (fun e => readFlight (slot e)),
    ifqRest := gone.foldl (fun r e => (slot e).zipIdx.foldl (fun r (x, w) => put 0 r (256 * e + w) x) r) t.ifqRest }

/-- What MTSR writes when it lands: clamps and ignored values as 05 R121 gives them, RES bits zero; EPC inside a handler
also writes RIDX (11 R251). -/
def Strand.writeSr (u : Strand) (n : Nat) (v : Word) : Strand :=
  match n with
  | 0x009 => u.modSr (fun r => { r with periodmax := clampPeriod v })
  | 0x00A => u.modSr (fun r => { r with chk := v &&& 3 })
  | 0x00B => u.modSr (fun r => { r with fpctl := v &&& 31 })
  | 0x00C => u.modSr (fun r => { r with fpstat := v &&& 31 })
  | 0x00D => if v &&& 15 = 0 then u else u.modSr (fun r => { r with ashape := v &&& 15 })
  | 0x00E => u.modSr (fun r => { r with prom := if 4 < v.toNat then 4 else v })
  | 0x00F => u.modSr (fun r => { r with accovf := v })
  | 0x010 => u.modSr (fun r => { r with trailcnt := v })
  | 0x011 => u.modSr (fun r => { r with errcnt := v })
  | 0x013 => u.modSr (fun r => { r with estimate := v })
  | 0x015 => u.modSr (fun r => { r with handler := v })
  | 0x016 =>
    let u' := u.modSr (fun r => { r with epc := v })
    if u.trap.inHandler then u'.modTrap (fun t => { t with ridx := v }) else u'
  | 0x019 => u.modSr (fun r => { r with misscnt := v })
  | 0x102 => { u with regs := { u.regs with pr := { u.regs.pr with ctxid := v &&& 0x3FF } } }
  | 0x103 => { u with regs := { u.regs with pr := { u.regs.pr with vfunc := v &&& 0x7F } } }
  | 0x104 => { u with regs := { u.regs with pr := { u.regs.pr with savebase := v } } }
  | 0x105 => u.modTrap (fun t => t.setIfqLen (v.toNat % 64))
  | 0x106 => { u with regs := { u.regs with pr := { u.regs.pr with ifqsel := v &&& 0xFF1F } } }
  | 0x107 => u.modTrap (fun t =>
      t.setIfqWord (bitsAt u.regs.pr.ifqsel.toNat 0 5) (bitsAt u.regs.pr.ifqsel.toNat 8 8) v)
  | _ => u

/-! Fixed-latency writes. -/

def Strand.nextSeq (u : Strand) : Nat := u.flights.foldl (fun m f => max m (f.seq + 1)) 0

/-- The slot number of the bundle that an instruction stands in (03 R89). -/
def State.slotFor (s : State) (i : Instr) : Nat :=
  match i.slotKind with
  | some .S => 0
  | some .V => if s.slot = 2 then 2 else 1
  | some .M => 3
  | some .L => 4
  | some .W => 5
  | some .C => 6
  | some .Y => 7
  | none => 0

/-- The registers a write names: class 0 scalar, 1 vector, and the numbers. -/
def Dest.regs (d : Dest) (n : Nat) : Nat × List Nat :=
  match d with
  | .scalar r => (0, [r])
  | .vector r => (1, List.range' r n)
  | _ => (2, [])

/-- Marks the rows of earlier writes whose register a new write names (02 R55). -/
def Flight.overtake (cls : Nat) (rs : List Nat) (f : Flight) : Flight :=
  let (c, xs) := f.dest.regs (f.cnt + 1)
  if c = cls then
    { f with overtaken := f.overtaken ++ (xs.zipIdx.filter (fun (r, j) => rs.contains r && !f.overtaken.contains j)).map Prod.snd }
  else f

def Strand.overtake (u : Strand) (cls : Nat) (rs : List Nat) : Strand :=
  { u with flights := u.flights.map (Flight.overtake cls rs) }

/-- Schedules a fixed-latency write of the instruction in slot `slot` of the bundle at PC. -/
def State.sched (s : State) (slot : Nat) (d : Dest) (lat : Nat) (rows : List VReg) (same : Bool) (flags reg : Nat) :
    State :=
  let (c, xs) := d.regs rows.length
  s.modU (fun u => { u with flights := (u.overtake c xs).flights ++
    [{ dest := d, cnt := rows.length - 1, next := 0, land := s.now + lat, same := same, pair := false, div := false,
       fault := none, rows := rows, flags := flags, reg := reg, slot := slot, epc := u.pc, seq := u.nextSeq, errs := 0,
       overtaken := [], issued := s.now, rowFlags := [], erred := false }] })

/-- The write scheduled last changed: it takes the divider, or writes nothing and raises a cause when it lands. -/
def State.lastFlight (s : State) (g : Flight → Flight) : State :=
  s.modU (fun u => { u with
    flights := u.flights.dropLast ++ (u.flights.drop (u.flights.length - 1)).map g })

/-- Land(r, v, L) for a scalar (15 R317); a value for s0 is discarded as it lands (02 R54, 05 R124). -/
def State.landS (s : State) (slot : Nat) (d : BitVec 6) (v : Word) (lat : Nat) : State :=
  s.sched slot (.scalar d.toNat) lat [⟨v.setWidth 512, 0⟩] false 0 d.toNat

/-- Every flag of a list. -/
def orAll (fl : List Nat) : Nat := fl.foldl (fun a x => a ||| x) 0

/-- The rows of a range from register d on, row j landing at issue + L + j (02 R51), with the flags of each. -/
def State.landV (s : State) (slot d lat : Nat) (rows : List VReg) (flags : List Nat) : State :=
  (s.sched slot (.vector d) lat rows false (orAll flags) d).lastFlight (fun f => { f with rowFlags := flags })

/-- What one row of a flight writes. A new shape cuts the rows to its ROWB (05 R113). -/
def landRow (u : Strand) (dest : Dest) (j : Nat) (r : VReg) : Strand :=
  match dest with
  | .scalar d => u.setScalar d (r.data.setWidth 64)
  | .vector d => u.setVreg (d + j) r
  | .special n => u.writeSr n (r.data.setWidth 64)
  | .extent x w => { u with regs := { u.regs with x := put 0 u.regs.x x (extPut (u.ext x) w (r.data.setWidth 64)) } }
  | .shape t g => (if g.conf then (List.range 16).foldl (fun u k =>
      let r := lookup VReg.zero u.regs.v (16 * t + k)
      u.putVreg (16 * t + k) ⟨lowBytes (rowWidth g.rowb r.tag) r.data, r.tag⟩) u
      else u).setGroup t g

/-- The cycle row j of a flight lands, and the cycle its last row lands. -/
def Flight.rowAt (f : Flight) (j : Nat) : Nat := if f.same then f.land else f.land + (j - f.next)
def Flight.lastAt (f : Flight) : Nat := f.rowAt f.cnt

/-! Counters (05 R121). -/

def Strand.addErr (u : Strand) (n : Nat) : Strand := u.modSr (fun r => { r with errcnt := satAdd r.errcnt n })
def Strand.addTrail (u : Strand) (n : Nat) : Strand := u.modSr (fun r => { r with trailcnt := satAdd r.trailcnt n })
def Strand.addMiss (u : Strand) (n : Nat) : Strand := u.modSr (fun r => { r with misscnt := satAdd r.misscnt n })
def Strand.addOvf (u : Strand) (n : Nat) : Strand := u.modSr (fun r => { r with accovf := satAdd r.accovf n })
def Strand.raiseFlags (u : Strand) (n : Nat) : Strand :=
  u.modSr (fun r => { r with fpstat := r.fpstat ||| BitVec.ofNat 64 (n % 32) })

/-- Appends an entry to the fault-address queue, or counts it when 256 are held; vector 65 signals the first (13 R288, 14
R299). -/
def State.logEntry (s : State) (e : FaultEntry) : State :=
  if 256 ≤ s.errs.queue.length then { s with window := { s.window with faultOver := (s.window.faultOver + 1) % 2 ^ 32 } }
  else
    { s with
      errs := { s.errs with queue := s.errs.queue ++ [e] },
      window := if s.errs.queue = [] then { s.window with msix := s.window.msix ++ [(0, 65)] } else s.window }

/-- The tag of a writer (13 R288, R290): its context, or for a firmware core's strand the firmware and its die. -/
def State.writerTag (s : State) : Nat := if s.u.privileged then 1024 + s.die.num % 16 else s.u.own.ctx

/-- The entry of an error that the strand in front meets. -/
def State.logFault (s : State) (addr kind : Nat) : State :=
  s.logEntry ⟨addr, kind, s.writerTag, placeWord s.u.place, s.die.cycle % 2 ^ 32⟩

/-- Granules written in part that were bad: each stays poisoned, and the write of its poison is queued (13 R284, R287). -/
def State.logPoison (s : State) (gs : List Nat) : State := gs.foldl (fun s g => s.logFault g 3) s

/-- The row address of a home in HBM4 and the filter bits of 13 R287. Which stack, channel, bank and row hold an address
is not stated (log 12). -/
def rowAddress (a : Nat) : Nat :=
  (a / 2 ^ 30) % 16 + 16 * ((a / 64) % 32) + 512 * ((a / 2048) % 32) + 2 ^ 14 * ((a / 65536) % 2 ^ 18)
def bloomBits (row : Nat) : List Nat :=
  [0, 1, 2].map (fun i => (crc32c (natBytes 8 (Nat.xor row (i <<< 56)))).toNat % 4096)

/-- A corrected error of HBM4 is counted in HITS or queued with its filter bits set (13 R287). -/
def State.logCorrected (s : State) (g : Nat) : State :=
  let row := rowAddress g
  let ch := row % 512
  let old := lookup [] s.errs.bloom ch
  let bits := bloomBits row
  if bits.all (fun b => old.contains b) then
    { s with errs := { s.errs with hits := put 0 s.errs.hits ch (min (lookup 0 s.errs.hits ch + 1) (2 ^ 32 - 1)) } }
  else
    ({ s with errs := { s.errs with bloom := put [] s.errs.bloom ch (old ++ bits.filter (fun b => !old.contains b)) } }).logFault
      g 1

/-- The bookkeeping of a read at its home (13 R283, R286, R287): repairs, poison written back, and the log. -/
def State.noteRead (s : State) (homes : List Nat) : State :=
  let s1 := (Memory.granules homes).foldl (fun s g =>
    match s.mem.eccOf g with
    | .correctable =>
      let s1 := if isGlobal g then s.logCorrected g else s
      if s1.errs.scrubs.any (fun x => x.1 = g) then s1
      else { s1 with errs := { s1.errs with scrubs := s1.errs.scrubs ++ [(g, s.clock)] } }
    | .uncorrectable => s.logFault g (if isGlobal g then 2 else 6)
    | _ => s) s
  s1.modMem (fun m => m.afterRead homes)

/-- Whether errors in a granule fault (STRICT) or read as zeros (13 R283; 13 R285 for the scratchpads). -/
def State.strictAt (s : State) (a : Nat) : Bool :=
  if isGlobal a then !(s.mem.modeOf a).tol else !s.u.own.tolerant

end Sys2Proof.Machine
end

