-- ==== Sys2Proof/Machine/Operands.lean ====
section
/-! DEFINITION. Operand forms: packed addresses and EffAddr (03 R80, R86), allocations (07 R151 to R157), extents (07
R162), alignment (07 R163), chunk ownership (08 R188), and the register ranges an instruction names. -/

namespace Sys2Proof.Machine

/-! Cause numbers (11 R247). -/
def cILLEGAL : Nat := 0x01
def cILLEGAL_BUNDLE : Nat := 0x02
def cPRIV : Nat := 0x03
def cFORMAT : Nat := 0x04
def cTILE_UNCONF : Nat := 0x05
def cSTALL_SHORT : Nat := 0x06
def cCOLLIDE : Nat := 0x07
def cALIGN : Nat := 0x08
def cLEASE : Nat := 0x09
def cSTALE : Nat := 0x0A
def cSPAD_BOUNDS : Nat := 0x0B
def cOWNER : Nat := 0x0C
def cTRAILER : Nat := 0x0D
def cACC_OVF : Nat := 0x0E
def cFP_EXC : Nat := 0x0F
def cDIVZERO : Nat := 0x10
def cPIPE_ERR : Nat := 0x11
def cMEM_UE : Nat := 0x12
def cPEER_GATED : Nat := 0x13
def cLOOP_OVF : Nat := 0x14
def cTRAP : Nat := 0x15
def cPREEMPT : Nat := 0x20
def cPOWERFAIL : Nat := 0x21
def cTICK : Nat := 0x22
def cCANCEL : Nat := 0x23
def cDEBUG_STOP : Nat := 0x24
def cHANDLER_FAULT : Nat := 0x25

/-- EINFO of SPAD_BOUNDS, STALE, LEASE, ALIGN, OWNER and PEER_GATED (07 R152). -/
def memInfo (xi kind slot : Nat) (wr : Bool) (off : Nat) : Nat :=
  xi % 16 + 16 * (kind % 16) + 256 * (slot % 8) + (if wr then 2048 else 0) + 65536 * (off % 2 ^ 48)

/-- SPACE, XI and OFFSET of a PADDR (03 R86). -/
def pSpace (a : Word) : Nat := bitsAt a.toNat 62 2
def pXi (a : Word) : Nat := bitsAt a.toNat 58 4
def pOff (a : Word) : Nat := bitsAt a.toNat 0 58

/-- A PADDR from its fields. -/
def mkPaddr (sp xi off : Nat) : Word := BitVec.ofNat 64 (sp % 4 * 2 ^ 62 + xi % 16 * 2 ^ 58 + off % 2 ^ 58)

/-- EffAddr of a MEM instruction (03 R80). -/
def State.effAddr (s : State) (f : MemF) : Word :=
  mkPaddr f.sp.toNat f.xi.toNat (truncInt 58 ((pOff (s.S f.b) : Int) + f.off.toInt))

/-- Base, size and end of an allocation in LOC bytes (07 R154). -/
def Alloc.lo (a : Alloc) : Nat := a.base * 1024
def Alloc.hi (a : Alloc) : Nat := (a.base + a.size) * 1024

/-- An allocation is expired from the first cycle at which CYCLE ≥ EXPIRY (07 R157). -/
def Alloc.isExpired (a : Alloc) (now : Nat) : Bool := a.expired || a.expiry ≤ now

/-- The home of a byte of an allocation on core `ci`. -/
def Alloc.home (a : Alloc) (ci off : Nat) : Nat :=
  coreSpadBase ci + (a.chunks.getD ((off - a.lo) / 512) 0) * 512 + off % 512

/-- The allocation of a unit that holds a byte. -/
def Core.allocAt (c : Core) (w : UnitId) (off : Nat) : Option Alloc :=
  c.allocs.find? (fun a => decide (a.who = w) && a.lo ≤ off && off < a.hi)

/-- The allocation whose base a PADDR names (07 R159, R160). -/
def Core.allocBase (c : Core) (w : UnitId) (pa : Word) : Option Alloc :=
  if pSpace pa = 0 && pXi pa = 0 then c.allocs.find? (fun a => decide (a.who = w) && a.lo = pOff pa) else none

/-- The homes of n bytes from `off` in a unit's allocations on a core, or the offset of the first faulting byte (07 R151,
R152). -/
def Core.locate (c : Core) (w : UnitId) (off n : Nat) : Except Nat (Alloc × List Nat) :=
  match c.allocAt w off with
  | none => .error off
  | some a =>
    if off + n ≤ a.hi then .ok (a, (List.range n).map (fun i => a.home c.index (off + i)))
    else .error a.hi

/-- The window of a context in every die's scratchpad, cut to its 16 MiB: base and length in bytes (00 R6, 07 R161, 14 R300). -/
def Ctx.window (c : Ctx) : Nat × Nat :=
  (64 * c.dwBase, min (64 * c.dwLen) (Config.dieSpadBytes - 64 * c.dwBase))

def State.ctxOf (s : State) (id : Nat) : Option Ctx := s.work.ctxs.find? (fun c => c.id = id)
/-- The die window of the strand's context. -/
def State.dieWindow (s : State) : Nat × Nat :=
  match s.ctxOf s.u.own.ctx with
  | none => (0, 0)
  | some c => (dieSpadBase s.die.num + c.window.1, c.window.2)

/-- The chunk of a scratchpad home, numbered over all cores (1024 for each core). -/
def chunkOf (home : Nat) : Nat := (home - 2 ^ 65) / 512
def chunksOf (homes : List Nat) : List Nat := ((homes.filter isCoreSpad).map chunkOf).eraseDups

/-- The mapped core and unit of a peer window entry (01 R26, R27). -/
def Strand.peer (u : Strand) (k : Nat) : Option (Nat × UnitId) := (u.own.peers[k]?).join

/-- An access kind of Check (15 R317). -/
structure AccKind where
  rd : Bool
  wr : Bool
  deriving DecidableEq, Repr

def kRead : AccKind := ⟨true, false⟩
def kWrite : AccKind := ⟨false, true⟩
def kBoth : AccKind := ⟨true, true⟩

def alignFault (slot xi off log : Nat) (wr : Bool) : Option Trap :=
  if off % 2 ^ log = 0 then none else some ⟨cALIGN, memInfo xi log slot wr off⟩

/-- An access through an extent meets a shared range from which this module is fenced (10 R239; its KIND: log 88). -/
def State.cutAway (s : State) (x : BitVec 256) (off n : Nat) : Bool :=
  let va := 65536 * bitsAt x.toNat 208 48 + off
  s.fabric.cut.any (fun (c, a, l) => bitsAt x.toNat 138 10 = c && va < a + l && a < va + n)

/-- Check(a, n, acc) with an alignment of 2^log (15 R317: 07 R151, R162, R163, in that order): the span of the access, or
the cause it raises. A PEER offset is checked when the access performs (11 R247). -/
def State.check (s : State) (slot : Nat) (a : Word) (n : Nat) (k : AccKind) (log : Nat) : Except Trap Span :=
  let xi := pXi a
  let off := pOff a
  let bounds (x kind o : Nat) : Trap := ⟨cSPAD_BOUNDS, memInfo x kind slot k.wr o⟩
  let done (sp : Span) : Except Trap Span :=
    match alignFault slot sp.xi off log k.wr with
    | some t => .error t
    | none => .ok sp
  match pSpace a with
  | 0 =>
    if xi ≠ 0 then .error (bounds 0 1 off)
    else match s.core.locate s.u.who off n with
      | .error o => .error (bounds 0 0 o)
      | .ok (_, hs) => done ⟨0, 0, off, n, hs, none, s.u.own.tolerant, 0, 0⟩
  | 1 =>
    match s.u.peer xi with
    | none => .error (bounds xi 2 off)
    | some p => done ⟨1, xi, off, n, [], some p, s.u.own.tolerant, 0, 0⟩
  | 2 =>
    let (base, len) := s.dieWindow
    if xi ≠ 0 then .error (bounds 0 1 off)
    else if off + n ≤ len then done ⟨2, 0, off, n, List.range' (base + off) n, none, s.u.own.tolerant, 0, 0⟩
    else .error (bounds 0 3 (max off len))
  | _ =>
    let x := s.u.ext xi
    let lease (kind o : Nat) : Trap := ⟨cLEASE, memInfo xi kind slot k.wr o⟩
    if extLen x = 0 then .error (lease 2 off)
    else if extLen x < off + n then .error (lease 0 (max off (extLen x)))
    else if (k.rd && !extRd x) || (k.wr && !extWr x) || s.cutAway x off n then .error (lease 1 off)
    else done ⟨3, xi, off, n, List.range' (extBase x + off) n, none, extTol x, extFmap x, extBase x⟩

/-- The policy that a write through the span stores (13 R282). -/
def Span.cover (sp : Span) : Cover := ⟨sp.tol, sp.fmap, sp.base⟩

/-- The cores of the module with a command that holds a chunk (08 R188). -/
def Core.holdsChunk (c : Core) (k : Nat) : Bool :=
  c.cbuf.any (fun x => x.chunks.contains k) || c.matrix.buf.any (fun x => x.chunks.contains k)
def State.heldChunk (s : State) (k : Nat) : Bool := s.allCores.any (fun c => c.holdsChunk k)
def State.pinnedChunk (s : State) (k : Nat) : Bool := s.allCores.any (fun c => c.pinned.contains k)

/-- The homes of a span, a PEER span resolved in the target's allocations as they stand. -/
def State.spanHomes (s : State) (sp : Span) : List Nat :=
  match sp.peer with
  | none => sp.homes
  | some (ci, w) =>
    match s.coreAt ci with
    | none => []
    | some c => match c.locate w sp.off sp.size with
      | .error _ => []
      | .ok (_, hs) => hs

/-- STALE and OWNER before issue, for LOC spans, and OWNER for PEER spans whose chunk is pinned at issue (07 R157, 08
R188). -/
def State.spanTrap (s : State) (slot : Nat) (sp : Span) (k : AccKind) (stale : Bool) : Option Trap :=
  let expired := sp.space = 0 && stale &&
    (match s.core.allocAt s.u.who sp.off with | some a => a.isExpired s.now | none => false)
  if expired then some ⟨cSTALE, memInfo 0 0 slot k.wr sp.off⟩
  else if (chunksOf (s.spanHomes sp)).any s.pinnedChunk then some ⟨cOWNER, memInfo sp.xi 0 slot k.wr sp.off⟩
  else none

/-- Check, then STALE and OWNER. `stale` says that an expired LOC allocation raises STALE (reads and atomics). -/
def State.checkAll (s : State) (slot : Nat) (a : Word) (n : Nat) (k : AccKind) (log : Nat) (stale : Bool) :
    Except Trap Span :=
  match s.check slot a n k log with
  | .error t => .error t
  | .ok sp => match s.spanTrap slot sp k stale with
    | some t => .error t
    | none => .ok sp

def trapOf {α : Type} : Except Trap α → Option Trap
  | .error t => some t
  | .ok _ => none

/-- The first trap of a list of checks. -/
def firstTrap : List (Option Trap) → Option Trap
  | [] => none
  | some t :: _ => some t
  | none :: r => firstTrap r

/-- The shape a vector load or store takes from the register's group (17 R396): width, tag, element size, count. -/
structure RowShape where
  width : Nat
  fmt : Nat
  u : Nat
  k : Nat
  deriving DecidableEq, Repr

def Strand.rowShape (u : Strand) (v : Nat) : RowShape :=
  let g := u.group (v / 16)
  let e := if isBse g.gfmt then bseBlock g.gfmt else if g.gfmt = 11 || g.gfmt = 12 then 4 else tagBytes g.gfmt
  ⟨g.rowb, g.gfmt, e, g.rowb / e⟩

/-- The alignment of a row: 4 bytes, 2 for BSE9 (07 R163), as a logarithm. -/
def rowAlign (fmt : Nat) : Nat := if fmt = 8 then 1 else 2

/-- Address i of a strided row (17 R397): a PADDR with its offset moved by i × S(o), signed, in 58 bits. -/
def strideAddr (a : Word) (st : Word) (i : Nat) : Word :=
  mkPaddr (pSpace a) (pXi a) (truncInt 58 ((pOff a : Int) + i * st.toInt))

/-- The first bad granule of a span's homes: the index of its first home in the span and its state. -/
def State.firstBad (s : State) (homes : List Nat) : Option (Nat × Ecc) :=
  match homes.findIdx? (fun a => Memory.bad (s.mem.eccOf a)) with
  | none => none
  | some i => some (i, s.mem.eccOf (homes.getD i 0))

/-- EINFO of MEM_UE (13 R283): the offset of the first byte of the bad granule. -/
def ueInfo (sp : Span) (homes : List Nat) (i kind slot : Nat) (wr : Bool) : Nat :=
  let a := homes.getD i 0
  memInfo sp.xi kind slot wr (sp.off + i - (a - granOf a))

/-- A byte lies in a block. -/
def Block.has (b : Block) (a : Nat) : Bool := b.base ≤ a && a < b.base + 64 * b.lines

/-- The unit's blocks that hold any of some bytes, as an access issued now finds them (07 R166). -/
def State.blocksAt (s : State) (homes : List Nat) : List Nat :=
  (s.core.blocks.filter (fun b => decide (b.who = s.u.who) && !b.leaving && homes.any b.has)).map Block.id

/-- The block, among those that an access found at its issue, that holds a byte (07 R166). -/
def State.blockOf (s : State) (bl : List Nat) (a : Nat) : Option Block :=
  s.core.blocks.find? (fun b => bl.contains b.id && b.has a)

/-- A byte as the owner's load sees it: from the unit's block when inside one (09 R195). -/
def State.loadByte (s : State) (bl : List Nat) (a : Nat) : Byte :=
  match s.blockOf bl a with
  | some b => b.data.getD (a - b.base) 0
  | none => s.mem.byte a

/-- A store by the unit: inside its block it marks the bytes dirty (07 R166). -/
def blockStore (b : Block) (a : Nat) (v : Byte) : Block :=
  let i := a - b.base
  { b with data := b.data.set i v, dirty := if b.dirty.contains i then b.dirty else insertBy id i b.dirty }

end Sys2Proof.Machine
end

