-- ==== Sys2Proof/Machine/Access.lean ====
section
/-! DEFINITION. Outstanding accesses: which may perform (09 R196 to R199, 08 R188, 07 R166) and what each does when it
performs at its home (09 R195, 13 R283, R284). -/

namespace Sys2Proof.Machine

/-- What performing gives: the state, and an error to raise at the strand. -/
structure Performed where
  st : State
  fault : Option Held
  deriving DecidableEq, Repr

def ok (s : State) : Performed := ⟨s, none⟩
def failWith (s : State) (a : Access) (t : Trap) : Performed := ⟨s, some ⟨t, a.epc⟩⟩

/-- The die and cluster of a core index, and whether its peer port is cut off (13 R294). -/
def State.gatedCore (s : State) (ci : Nat) : Bool :=
  match s.dieAt (ci / 12) with
  | none => false
  | some d => d.gated.getD (ci % 12 / 4) false

/-- The homes of a span when it performs, or the cause raised there: for PEER the gate, the bounds and expiry of the target
(13 R294, 07 R151, R157). OWNER is raised before issue only (11 R247; log 74). -/
def State.resolve (s : State) (sp : Span) (slot : Nat) (wr stale : Bool) : Except Trap (List Nat) :=
  match sp.peer with
  | none => .ok sp.homes
  | some (ci, w) =>
    if s.gatedCore ci then .error ⟨cPEER_GATED, memInfo sp.xi 0 slot wr sp.off⟩
    else match s.coreAt ci with
      | none => .error ⟨cSPAD_BOUNDS, memInfo sp.xi 0 slot wr sp.off⟩
      | some c => match c.locate w sp.off sp.size with
        | .error o => .error ⟨cSPAD_BOUNDS, memInfo sp.xi 0 slot wr o⟩
        | .ok (al, hs) =>
          if stale && al.isExpired s.now then .error ⟨cSTALE, memInfo sp.xi 0 slot wr sp.off⟩ else .ok hs

/-- Bytes read, each with whether its granule is bad. -/
def State.readMarked (s : State) (bl homes : List Nat) : List (Byte × Bool) :=
  homes.map (fun a => (s.loadByte bl a, (s.blockOf bl a).isNone && Memory.bad (s.mem.eccOf a)))

/-- Bytes of bad granules read as zero (13 R283). -/
def zeroBad (bs : List (Byte × Bool)) : List Byte := bs.map (fun (b, bad) => if bad then 0 else b)

/-- The granules of homes outside the unit's blocks that are bad. -/
def State.badOf (s : State) (bl homes : List Nat) : List Nat :=
  s.mem.badGranules (homes.filter (fun a => (s.blockOf bl a).isNone))

/-- MEM_UE of a read that meets a bad granule whose mode is STRICT (13 R283). -/
def State.readFault (s : State) (bl : List Nat) (sp : Span) (homes : List Nat) (slot : Nat) : Option Trap :=
  match homes.findIdx? (fun a => (s.blockOf bl a).isNone && Memory.bad (s.mem.eccOf a) && s.strictAt a) with
  | none => none
  | some i =>
    let kind := if s.mem.eccOf (homes.getD i 0) = .poisoned then 1 else 0
    some ⟨cMEM_UE, ueInfo sp homes i kind slot false⟩

/-- MISSCNT counts a request that completes after its deadline (07 R171). -/
def State.countMiss (s : State) (a : Access) : State :=
  if a.deadline ≠ 0 && a.issued + 64 * a.deadline < s.now then s.modU (fun u => u.addMiss 1) else s

/-- The resolved homes of every span of an access. -/
def State.resolveAll (s : State) (a : Access) (wr stale : Bool) : Except Trap (List (Span × List Nat)) :=
  a.spans.foldr (fun sp acc => match acc with
    | .error t => .error t
    | .ok r => match s.resolve sp a.slot wr stale with
      | .error t => .error t
      | .ok hs => .ok ((sp, hs) :: r)) (.ok [])

/-- Bookkeeping of reading all spans: poison written back, repairs, ERRCNT for bad granules (`n` of them counted). -/
def State.afterReads (s : State) (bl homes : List Nat) (n : Nat) : State :=
  (s.noteRead (homes.filter (fun a => (s.blockOf bl a).isNone))).modU (fun u => u.addErr n)

/-- Pieces of n items. -/
def pieces {α : Type} (n : Nat) : Nat → List α → List (List α)
  | 0, _ => []
  | k + 1, l => l.take n :: pieces n k (l.drop n)

/-- BSE rows of a TOLERANT read: a block with any bad part is zero (07 R172); answers the bytes and the blocks zeroed. -/
def zeroBadBlocks (size : Nat) (bs : List (Byte × Bool)) : List Byte × Nat :=
  let ps := pieces size ((bs.length + size - 1) / size) bs
  (ps.flatMap (fun p => if p.any (fun x => x.2) then p.map (fun _ => 0) else p.map (fun x => x.1)),
    (ps.filter (fun p => p.any (fun x => x.2))).length)

/-- A BSE row as read: whole blocks, each zero if any part of it is bad, and zeros after the last one (05 R113, 07 R172). -/
def readBseRow (f : Nat) (bs : List (Byte × Bool)) : List Byte × Nat :=
  let (xs, n) := zeroBadBlocks (bseBlock f) (bs.take (wholeBytes f bs.length))
  (takePad 0 bs.length xs, n)

/-- The homes of a row that hold its elements: those of the whole blocks of a BSE row (07 R172). -/
def rowHomes (f : Nat) (hs : List Nat) : List Nat := if isBse f then hs.take (wholeBytes f hs.length) else hs

/-- Copies of an element filling n bytes. -/
def repeatTo (n : Nat) (bs : List Byte) : List Byte :=
  (List.range n).map (fun i => bs.getD (i % (max 1 bs.length)) 0)

/-- Changes a block. -/
def Core.modBlock (c : Core) (id : Nat) (f : Block → Block) : Core :=
  { c with blocks := updFirst (fun b => b.id = id) f c.blocks }

/-- Takes a block out of the cache (07 R165, R167). -/
def Core.dropBlock (c : Core) (id : Nat) : Core := { c with blocks := dropFirst (fun b => b.id = id) c.blocks }

/-- Writes part of the bytes at `whole` as the unit, with `rest` still to come: into its block where inside one, else at the home (07
R166, 13 R284). Answers the granules not merged. -/
def State.storePart (s : State) (bl whole rest homes : List Nat) (data : List Byte) (c : Cover) : State × List Nat :=
  let hd := homes.zip data
  let inBlk := hd.filter (fun (a, _) => (s.blockOf bl a).isSome)
  let out := hd.filter (fun (a, _) => (s.blockOf bl a).isNone)
  let s1 := inBlk.foldl (fun s (a, v) => match s.blockOf bl a with
    | none => s
    | some b => s.modCore (fun c => c.modBlock b.id (fun b => blockStore b a v))) s
  let (m, dropped) := s1.mem.writePart (whole.filter (fun a => (s.blockOf bl a).isNone)) rest (out.map Prod.fst) (out.map Prod.snd) c
    s1.writerTag
  (({ s1 with mem := m }), dropped)

def State.storeBytes (s : State) (bl homes : List Nat) (data : List Byte) (c : Cover) : State × List Nat :=
  s.storePart bl homes [] homes data c

/-- MEM_UE of a store whose granule g was not merged (13 R284). -/
def storeFault (a : Access) (sp : Span) (hs : List Nat) (g : Nat) : Held :=
  ⟨⟨cMEM_UE, ueInfo sp hs ((hs.findIdx? (fun x => granOf x = g)).getD 0) 2 a.slot true⟩, a.epc⟩

/-- The whole stores of an access, span by span, but for the first n bytes, which have performed; a bad granule written in part is
reported or counted (13 R284). -/
def State.doStores (s : State) (a : Access) : Nat → List (Span × List Nat) → List (List Byte) → Performed
  | n, (sp, hs) :: r, d :: ds =>
    let (s1, dropped) := s.storePart a.blks hs [] (hs.drop n) (d.drop n) sp.cover
    match dropped with
    | [] => s1.doStores a (n - hs.length) r ds
    | g :: _ =>
      let s2 := s1.logPoison dropped
      if sp.tol then (s2.modU (fun u => u.addErr dropped.length)).doStores a (n - hs.length) r ds
      else ⟨(s2.doStores a (n - hs.length) r ds).st, some (storeFault a sp hs g)⟩
  | _, _, _ => ok s

/-- One FP32 lane pair of an FP atomic (15 R320), with its flags by 06 R133. -/
def fpLanes (op : AtomOp) (w v : Word) : Word × Nat :=
  let lane (k : Nat) : Flagged :=
    let x := readFp 1 (bitsAt w.toNat (32 * k) 32)
    let y := readFp 1 (bitsAt v.toNat (32 * k) 32)
    match op with
    | .fadd => fpAdd 1 0 0 x y
    | .fmin => fpMinMax 1 0 false x y
    | _ => fpMinMax 1 0 true x y
  (BitVec.ofNat 64 ((lane 0).val + 2 ^ 32 * (lane 1).val), ((lane 0).flags ||| (lane 1).flags) &&& (flInvalid ||| flOverflow))

/-- New(w, v) of an atomic (15 R318) and its flags; none is no write. -/
def atomNew (op : AtomOp) (w v cmp : Word) : Option (Word × Nat) :=
  match op with
  | .add => some (w + v, 0)
  | .minS => some (if w.toInt ≤ v.toInt then w else v, 0)
  | .minU => some (if w.toNat ≤ v.toNat then w else v, 0)
  | .maxS => some (if w.toInt ≤ v.toInt then v else w, 0)
  | .maxU => some (if w.toNat ≤ v.toNat then v else w, 0)
  | .and => some (w &&& v, 0)
  | .or => some (w ||| v, 0)
  | .xor => some (w ^^^ v, 0)
  | .swp => some (v, 0)
  | .cas => if w = cmp then some (v, 0) else none
  | .fadd => some (fpLanes .fadd w v)
  | .fmin => some (fpLanes .fmin w v)
  | .fmax => some (fpLanes .fmax w v)

/-- A word written at its home by an update (09 R203): the full/empty bit becomes EMPTY (09 R207). -/
def State.writeWord (s : State) (a : Nat) (v : Word) (c : Cover) : State :=
  { s with mem := (s.mem.write (List.range' a 8) (wordBytes v) c s.writerTag).1 }

/-- One block line filled, or whether it was bad in a STRICT mode (07 R165). -/
def State.fillLine (s : State) (base : Nat) : List Byte × Bool × Bool :=
  let homes := List.range' base 64
  let isBad := homes.any (fun a => Memory.bad (s.mem.eccOf a))
  let strict := homes.any (fun a => Memory.bad (s.mem.eccOf a) && s.strictAt a)
  (if isBad then zeros 64 else homes.map s.mem.byte, isBad, strict)

/-- The lines of a block that are present. -/
def State.filledOf (s : State) (id : Nat) : Nat := match s.core.blocks.find? (fun b => b.id = id) with | some b => b.filled | none => 0

/-- A line of a block filled while others are still to come, its LDB still outstanding (07 R165, R166; 15 R341): lines come in
ascending order, DESIGN CHOICE (log 37). The last one, and one that ends the LDB with code 5, come with its token. -/
def State.fillNext (s : State) (a : Access) : Option State :=
  match a.act with
  | .ldb _ n base id =>
    let k := s.filledOf id
    let (bs, isBad, strict) := s.fillLine (base + 64 * k)
    if strict || n ≤ k + 1 then none
    else
      let fillB (b : Block) : Block := { b with filled := k + 1, data := b.data.take (64 * k) ++ bs ++ b.data.drop (64 * k + 64) }
      some (((s.noteRead (List.range' (base + 64 * k) 64)).modCore (fun c => c.modBlock id fillB)).modU (fun u =>
        u.addErr (if isBad then 1 else 0)))
  | _ => none

/-! The driver's ranges (10 R219, R237). -/

/-- The stack of this module's HBM4 that holds a home (log 12), and whether a range touches it. -/
def stackOf (a : Nat) : Nat := a / 2 ^ 30 % 16
def touchesStack (d a n : Nat) : Bool :=
  n ≠ 0 && a < Config.hbmBytes && (List.range 16).any (fun k => (a / 2 ^ 30 + k) % 16 = d && a / 2 ^ 30 + k ≤ (a + n - 1) / 2 ^ 30)

/-- A range lies in the module's 768 GiB of HBM4 (00 R2, R6), or in another module's memory (09 R194; log 27). -/
def homeOk (h len : Nat) : Bool := h + len ≤ Config.hbmBytes || (remoteBase ≤ h && h + len ≤ 2 * remoteBase)

/-- The newer valid copy of a record (14 R313). -/
def newest {α : Type} (l : List (RecordCopy α)) : Option α :=
  ((sortBy RecordCopy.version (l.filter RecordCopy.valid)).getLast?).map RecordCopy.value

/-- A record written: its older copy, or one whose signature does not hold, takes the next version (14 R313). -/
def store {α : Type} (l : List (RecordCopy α)) (x : α) : List (RecordCopy α) :=
  let v := (l.map RecordCopy.version).foldl max 0
  (sortBy (fun c => if c.valid then c.version + 1 else 0) l).drop 1 ++ [⟨v + 1, true, x⟩]

/-- The bad-page list, each page with its spare (13 R289). -/
def State.badList (s : State) : List (Nat × Nat) := (newest s.secure.records.badpage).getD []

/-- The pages out of use: those of the list, and those retired for this boot (13 R289). -/
def State.badPages (s : State) : List Nat := s.badList.map Prod.fst ++ s.secure.retiredNow

/-- What the driver's tables answer for len bytes at va: the home address and the permissions (log 16). Pages of the bad-page list and of
a lost stack are out of use (13 R289, R292). -/
def State.translate (s : State) (ctx va len : Nat) : Option (Nat × Bool × Bool) :=
  let r := match s.work.maps.find? (fun m => m.ctx = ctx && m.va ≤ va && va + len ≤ m.va + m.len) with
    | some m => some (m.home + (va - m.va), m.rd, m.wr)
    | none => Config.driverMap s.work.mapGen ctx va len
  match r with
  | none => none
  | some (h, p) =>
    if !homeOk h len || s.badPages.any (fun g => h < 65536 * (g + 1) && 65536 * g < h + len) ||
        s.errs.badStacks.any (fun d => touchesStack d h len) then none else some (h, p)

/-- HIB_LIST entries in the order of a share pass (12 R271). -/
def Ctx.ordered (c : Ctx) : List HibEntry := sortBy HibEntry.prio c.list

/-- The length of the entries that fit, in order, in a budget; one that is not mapped is LOST at no cost (12 R267, R271). -/
def State.fitEntries (s : State) (ctx : Nat) : Nat → List HibEntry → Nat
  | _, [] => 0
  | b, e :: r =>
    if (s.translate ctx e.va e.len).isNone then s.fitEntries ctx b r
    else if e.len ≤ b then e.len + s.fitEntries ctx (b - e.len) r
    else 0

/-- HIBQ's value (15 R339). -/
def State.hibqValue (s : State) (sel : Nat) : Word :=
  if sel = 0 then s.hibstate
  else match s.ctxOf s.u.own.ctx with
    | none => 0
    | some c => BitVec.ofNat 64 (s.fitEntries c.id c.share c.ordered)

/-- MARK's entry written (12 R268): the entry with the tag, else a free one of the context's 64, else the one with the
lowest TICK, ties to the lowest TAG. -/
def putMark (ms : List Mark) (m : Mark) : List Mark :=
  let mine := ms.filter (fun x => x.ctx = m.ctx)
  if mine.any (fun x => x.tag = m.tag) then ms.map (fun x => if x.ctx = m.ctx && x.tag = m.tag then m else x)
  else if mine.length < Config.markEntries then ms ++ [m]
  else match sortBy (fun x => x.tick * 65536 + x.tag) mine with
    | [] => ms ++ [m]
    | old :: _ => ms.map (fun x => if x.ctx = m.ctx && x.tag = old.tag then m else x)

/-- The header of a channel block (16 R362): PUSHED, POPPED, LOG2N and whether its reserved bits are zero. -/
def readChannel (bs : List Byte) : Nat × Nat × Nat × Bool :=
  let x := bytesNat bs
  (bitsAt x 0 64, bitsAt x 64 64, bitsAt x 128 4, bitsAt x 132 380 = 0)

/-- The check of a channel's n bytes at a latch's PADDR, and their homes (16 R363): the bounds, extents and alignment of Check, and for
PEER what the target's core finds; neither STALE of LOC nor OWNER, which are raised before issue only (11 R247). -/
def State.channelSpan (s : State) (chan : Word) (n : Nat) : Except Trap (Span × List Nat) :=
  match s.check 7 chan n kRead 0 with
  | .error t => .error t
  | .ok sp => match s.resolve sp 7 false true with
    | .error t => .error t
    | .ok hs => .ok (sp, hs)

/-- The header read of QBIND (16 R363, steps 2 to 4). -/
def State.readHeader (s : State) (a : Access) (q : Nat) : Performed :=
  let l := s.u.latch q
  match s.channelSpan l.chan 64 with
  | .error t => failWith s a t
  | .ok (sp, hs) =>
    match s.readFault [] sp hs 7 with
    | some t => failWith (s.noteRead hs) a t
    | none =>
      let (_, popped, logn, clean) := readChannel (zeroBad (s.readMarked [] hs))
      let s1 := s.afterReads [] hs (s.badOf [] hs).length
      match s1.channelSpan l.chan (64 + 64 * 2 ^ logn) with
      | .error t => failWith s1 a t
      | .ok _ =>
        if !clean || l.chan.toNat % 64 ≠ 0 || 10 < logn then failWith s1 a ⟨cILLEGAL, 0x0037⟩
        else ok (s1.modU (fun u => u.setLatch q { l with pos := BitVec.ofNat 64 popped, logn := some logn }))

/-- POPPED written at its home (16 R363): where a check fails there, the store performs nothing and the latch records the cause. -/
def State.popHome (s : State) (a : Access) (q : Nat) (v : Word) : State :=
  let fails (s : State) (t : Trap) : State := s.modU (fun u => u.setLatch q { u.latch q with head := none, cause := some t })
  match s.resolveAll a true false with
  | .error t => fails s t
  | .ok l =>
    let p := s.doStores a 0 l [wordBytes v]
    match p.fault with
    | some h => fails p.st h.trap
    | none => p.st

/-! Rows and tiles word by word (09 R197). -/

/-- The bytes that share an aligned 8-byte word with the first. -/
def firstWord : List Nat → List Nat
  | [] => []
  | h :: r => h :: r.takeWhile (fun x => x / 8 = h / 8)

/-- Of an access's bytes, those of its granules that no part of it has read before. -/
def Access.unread (a : Access) (hs : List Nat) : List Nat :=
  let n := a.part.length
  (hs.drop n).filter (fun x => !(hs.take n).any (fun y => granOf y = granOf x))

/-- The bytes of an access, each as its part read it or as it is read now (09 R197). -/
def State.marked (s : State) (a : Access) (hs : List Nat) : List (Byte × Bool) :=
  a.part ++ s.readMarked a.blks (hs.drop a.part.length)

/-- The granules among them that were bad. -/
def badCount (hs : List Nat) (bs : List (Byte × Bool)) : Nat :=
  (((hs.zip bs).filter (fun x => x.2.2)).map (fun x => granOf x.1)).eraseDups.length

/-- Bookkeeping of the last part of a read: as for the whole of one, of which parts have performed. -/
def State.afterParts (s : State) (a : Access) (hs : List Nat) (n : Nat) : State := s.afterReads a.blks (a.unread hs) n

/-- A bundle's own LOC accesses and stores use the strand in front; this performs one of its outstanding accesses, or what is left of it
(09 R197). -/
def State.perform (s0 : State) (a : Access) : Performed :=
  let s := s0.countMiss a
  match a.act with
  | .value r v | .granted r v => ok (s.modU (fun u => u.setScalar r v))
  | .hibq r sel => ok (s.modU (fun u => u.setScalar r (s.hibqValue sel)))
  | .fence _ _ => ok s
  | .mark tag v =>
    let m : Mark := ⟨s.u.own.ctx, tag, v, s.window.tick, s.u.regs.sr.launch.toNat, s.u.regs.sr.rank.toNat⟩
    ok (s.modDie (fun d => { d with marks := putMark d.marks m }))
  | .qhead q => s.readHeader a q
  | .popped q v => ok (s.popHome a q v)
  | .pin => ok (s.modCore (fun c => { c with
      pinned := (c.pinned ++ (a.spans.flatMap (fun sp => chunksOf sp.homes))).eraseDups }))
  | .pld => ok (s.noteRead (a.spans.flatMap (fun sp => sp.homes)))
  | .load r n sg =>
    match s.resolveAll a false true with
    | .error t => failWith s a t
    | .ok l =>
      let hs := l.flatMap Prod.snd
      match l.findSome? (fun (sp, h) => s.readFault a.blks sp h a.slot) with
      | some t => failWith (s.noteRead hs) a t
      | none =>
        let x := bytesNat (zeroBad (s.readMarked a.blks hs))
        let v : Word := if sg then BitVec.ofInt 64 (signedAt (8 * n) x) else BitVec.ofNat 64 x
        ok ((s.afterReads a.blks hs (s.badOf a.blks hs).length).modU (fun u => u.setScalar r v))
  | .vload v w f rep =>
    match s.resolveAll a false true with
    | .error t => failWith s a t
    | .ok l =>
      let hs := l.flatMap Prod.snd
      match l.findSome? (fun (sp, h) => s.readFault a.blks sp (rowHomes f h) a.slot) with
      | some t => failWith (s.noteRead hs) a t
      | none =>
        let marked := s.marked a hs
        let (bs, n) := if isBse f then readBseRow f marked else (zeroBad marked, badCount hs marked)
        let row := bytesRow (takePad 0 64 ((if rep then repeatTo (w / (max 1 bs.length) * bs.length) bs else bs).take w))
        ok ((s.afterParts a hs n).modU (fun u => u.setVreg v ⟨row, f⟩))
  | .thdl h =>
    match s.resolveAll a false true with
    | .error t => failWith s a t
    | .ok l =>
      let hs := l.flatMap Prod.snd
      match l.findSome? (fun (sp, x) => s.readFault a.blks sp x a.slot) with
      | some t => failWith (s.noteRead hs) a t
      | none =>
        ok ((s.afterReads a.blks hs (s.badOf a.blks hs).length).modU (fun u =>
          u.setHandle h (BitVec.ofNat 256 (bytesNat (zeroBad (s.readMarked a.blks hs))))))
  | .tld t f rows rowb hreg trl =>
    match s.resolveAll a false true with
    | .error e => failWith s a e
    | .ok l =>
      let hs := l.flatMap Prod.snd
      match l.findSome? (fun (sp, x) => s.readFault a.blks sp x a.slot) with
      | some e => failWith (s.noteRead hs) a e
      | none =>
        let marked := s.marked a hs
        let n := badCount hs marked
        let bs := zeroBad marked
        let payload := bs.take (rows * rowb)
        let read := (pieces rowb rows marked).map (fun p => if isBse f then readBseRow f p else (zeroBad p, 0))
        let count := if isBse f then (read.map Prod.snd).sum else n
        let tr := (bs.drop (rows * rowb)).take 16
        let tol := a.spans.any Span.tol
        let kind := if trl then trailerFault tr payload f rows rowb else 0
        let place (st : State) (zero : Bool) : State := st.modU (fun u =>
          (List.range rows).foldl (fun u j =>
            u.setVreg (16 * t + j) ⟨if zero then 0 else bytesRow (read.getD j ([], 0)).1, f⟩) u)
        if trl && n ≠ 0 then
          ok (place ((s.afterParts a hs 1).modU (fun u => u.addTrail 1)) true)
        else if kind ≠ 0 then
          (if tol then ok (place ((s.afterParts a hs n).modU (fun u => u.addTrail 1)) true)
           else failWith (s.afterParts a hs n) a ⟨cTRAILER, kind + 4 * hreg⟩)
        else ok (place (s.afterParts a hs count) false)
  | .store data =>
    match s.resolveAll a true false with
    | .error t => failWith s a t
    | .ok l => s.doStores a a.part.length l data
  | .atomic op v cmp r =>
    match s.resolveAll a true true with
    | .error t => failWith s a t
    | .ok l =>
      match l with
      | [(sp, hs)] =>
        let h := hs.headD 0
        if Memory.bad (s.mem.eccOf h) then failWith (s.noteRead hs) a ⟨cMEM_UE, ueInfo sp hs 0 3 a.slot true⟩
        else
          let s1 := s.noteRead hs
          let w := s1.mem.word h
          match atomNew op w v cmp with
          | none => ok (s1.modU (fun u => u.setScalar r w))
          | some (nw, fl) =>
            ok ((s1.writeWord h nw sp.cover).modU (fun u => (u.setScalar r w).raiseFlags fl))
      | _ => ok s
  | .peek r =>
    match s.resolveAll a false true with
    | .error t => failWith s a t
    | .ok l =>
      match l with
      | [(sp, hs)] =>
        let h := hs.headD 0
        if Memory.bad (s.mem.eccOf h) then failWith (s.noteRead hs) a ⟨cMEM_UE, ueInfo sp hs 0 3 a.slot false⟩
        else ok ((s.noteRead hs).modU (fun u => u.setScalar r (s.mem.word h)))
      | _ => ok s
  | .ldb r n base id =>
    let k := s.filledOf id
    let lines := (List.range' k (n - k)).map (fun i => s.fillLine (base + 64 * i))
    let s1 := s.noteRead (List.range' (base + 64 * k) (64 * (n - k)))
    match lines.findIdx? (fun x => x.2.2) with
    | some i =>
      ok ((s1.modCore (fun c => c.dropBlock id)).modU (fun u => u.setScalar r (BitVec.ofNat 64 (5 + 256 * (k + i)))))
    | none =>
      let fillB (b : Block) : Block := { b with filled := n, data := b.data.take (64 * k) ++ lines.flatMap (fun x => x.1) }
      ok ((s1.modCore (fun c => c.modBlock id fillB)).modU (fun u =>
              (u.setScalar r (BitVec.ofNat 64 (256 * n))).addErr (lines.filter (fun x => x.2.1)).length))
  | .start _ => ok s
  | .lbf id =>
    match s.core.blocks.find? (fun b => b.id = id) with
    | none => ok s
    | some b =>
      let (m, dropped) := s.mem.write (b.dirty.map (fun i => b.base + i)) (b.dirty.map (fun i => b.data.getD i 0)) b.cover
        s.writerTag
      let s1 := ({ s with mem := m }).modCore (fun c => c.dropBlock id)
      match a.spans, dropped with
      | sp :: _, g :: _ =>
        if b.cover.tol then ok ((s1.logPoison dropped).modU (fun u => u.addErr dropped.length))
        else ⟨s1.logPoison dropped, some ⟨⟨cMEM_UE, ueInfo sp sp.homes ((sp.homes.findIdx? (fun x => granOf x = g)).getD 0) 2
          a.slot true⟩, a.epc⟩⟩
      | _, _ => ok s1

/-- The next word of a row or a tile performs while others are still to come (09 R197): words in ascending order, DESIGN CHOICE (log 90).
An access that meets an error, and the last word, perform whole. -/
def State.nextPart (s : State) (k : Nat) : Option State :=
  match s.u.accs[k]? with
  | none => none
  | some a =>
    let n := a.part.length
    let done (s : State) (p : List (Byte × Bool)) : State :=
      s.modU (fun u => { u with accs := u.accs.set k { a with part := a.part ++ p } })
    let read (f : Nat) : Option State := match s.resolveAll a false true with
      | .error _ => none
      | .ok l =>
        let hs := l.flatMap Prod.snd
        let w := firstWord (hs.drop n)
        if hs.length ≤ n + w.length || l.any (fun (sp, h) => (s.readFault a.blks sp (rowHomes f h) a.slot).isSome) then none
        else some (done (s.noteRead ((w.filter (fun x => (a.unread hs).contains x)).filter (fun x => (s.blockOf a.blks x).isNone)))
          (s.readMarked a.blks w))
    match a.act with
    | .vload _ _ f _ => read f
    | .tld _ _ _ _ _ _ => read 0
    | .store data => match s.resolveAll a true false with
      | .error _ => none
      | .ok l =>
        let hs := l.flatMap Prod.snd
        let w := firstWord (hs.drop n)
        if hs.length ≤ n + w.length then none
        else
          let bs := (data.flatten.drop n).take w.length
          let c := match a.spans with | sp :: _ => sp.cover | [] => Cover.strict
          let (t, dropped) := s.storePart a.blks hs (hs.drop (n + w.length)) w bs c
          if dropped = [] then some (done t (bs.map (fun b => (b, false)))) else none
    | _ => none

/-- The scope that holds the home of a span (09 R194). -/
def State.spanScope (s : State) (sp : Span) : Nat :=
  match sp.space with
  | 0 => 0
  | 1 => match sp.peer with
    | some (ci, _) => if ci / 4 = placeIndex s.u.place / 4 then 1 else 2
    | none => 2
  | 2 => 2
  | _ => if sp.homes.any isRemote then 4 else 3

def State.accScope (s : State) (a : Access) : Nat := (a.spans.map s.spanScope).foldl max 0

/-- The aligned 8-byte words an access reaches. -/
def State.accWords (s : State) (a : Access) : List Nat := (a.spans.flatMap s.spanHomes).map (· / 8)

def meet (a b : List Nat) : Bool := a.any b.contains

/-- An access that is the start of an engine command; FENCE never waits for one (09 R198). -/
def Access.isStart (a : Access) : Bool := match a.act with | .start _ => true | _ => false

/-- A line read that leaves no result orders nothing and holds back no access (16 R360). -/
def Access.isPld (a : Access) : Bool := match a.act with | .pld => true | _ => false

/-- An access that a fence's mask and scope cover (09 R198). -/
def State.covered (s : State) (mask scope : Nat) (x : Access) : Bool :=
  x.cls < 16 && !x.isStart && !x.isPld && mask.testBit x.cls && s.accScope x ≤ scope

/-- Whether a fence among the earlier accesses still holds back a class (09 R198): some access before the fence that it
covers, with its home in the fence's region, is outstanding. -/
def State.fenced (s : State) (cls : Nat) : List Access → List Access → Bool
  | _, [] => false
  | seen, b :: r =>
    (match b.act with
      | .fence mask scope =>
        mask.testBit cls && seen.any (s.covered mask scope)
      | _ => false) || State.fenced s cls (seen ++ [b]) r

/-- Whether an access of class `cls` to `words` may perform after the listed earlier ones (09 R196, R198). -/
def State.mayPerform (s : State) (earlier : List Access) (cls : Nat) (words : List Nat) : Bool :=
  earlier.all (fun b => b.isPld || ((b.cls ≠ cls || cls = 16) && !meet (s.accWords b) words)) && !(s.fenced cls [] earlier)

/-- A command of the strand's own unit that stands before an access in program order: an earlier bundle's, or an M
command of the same bundle (09 R196). -/
def Core.commandHolds (c : Core) (w : UnitId) (a : Access) (k : Nat) : Bool :=
  c.cbuf.any (fun x => x.chunks.contains k && (decide (x.who ≠ w) || x.entered < a.issued)) ||
  c.matrix.buf.any (fun x => x.chunks.contains k &&
    (decide (x.who ≠ w) || x.entered < a.issued || (x.entered = a.issued && 3 < a.slot)))

/-- A CPYC of the unit that stands before an access in program order is still to add to one of its words (08 R186, 09 R196). Later accesses
of its class to other words do not wait for the add: DEDUCED (log 99). -/
def Core.addsTo (k : Core) (w : UnitId) (issued slot : Nat) (words : List Nat) : Bool :=
  k.cbuf.any (fun x => decide (x.who = w) && (x.entered < issued || (x.entered = issued && 6 < slot)) && meet x.sigw words)

/-- Whether the engine has accepted the command that a unit's bundle entered in cycle c, or no longer holds it, and the chunks it
holds (09 R200). -/
def Core.started (k : Core) (matrix : Bool) (w : UnitId) (c : Nat) : Bool × List Nat :=
  if matrix then
    let cs := k.matrix.buf.filter (fun x => decide (x.who = w) && x.entered = c)
    (cs.all MCmd.running, cs.flatMap MCmd.chunks)
  else
    let cs := k.cbuf.filter (fun x => decide (x.who = w) && x.entered = c)
    (cs.all CCmd.running, cs.flatMap CCmd.chunks)

/-- Atomics and mailbox operations go to the home and pass the unit's blocks by (07 R166). -/
def Access.bypasses (a : Access) : Bool := match a.act with | .atomic _ _ _ _ => true | .peek _ => true | _ => false

/-- The fill of a block that an access goes to: the access waits for its line, not for the fill's end (15 R341). -/
def Access.fillsFor (b a : Access) : Bool :=
  match b.act with | .ldb _ _ _ id => a.blks.contains id && !a.bypasses | _ => false

/-- Whether the k-th outstanding access of the strand in front may perform now. -/
def State.eligible (s : State) (k : Nat) : Bool :=
  match s.u.accs[k]? with
  | none => false
  | some a =>
    let earlier := (s.u.accs.take k).filter (fun b => !b.isPld && !b.fillsFor a)
    let homes := a.spans.flatMap s.spanHomes
    match a.act with
    | .mark _ _ => (earlier.filter (fun b => match b.act with | .fence _ _ => false | _ => true)).isEmpty
    | .fence mask scope =>
      !earlier.any (s.covered mask scope)
    | .pin => earlier.all (fun b => !meet (chunksOf (b.spans.flatMap s.spanHomes)) (chunksOf homes))
    | .value _ _ | .granted _ _ | .hibq _ _ => true
    | .pld => true
    | .ldb _ _ _ _ | .lbf _ => s.mayPerform earlier a.cls (s.accWords a) &&
      !s.core.addsTo s.u.who a.issued a.slot (s.accWords a)
    | .start mx =>
      let (accepted, chunks) := s.core.started mx s.u.who a.issued
      accepted && s.mayPerform earlier a.cls [] &&
        earlier.all (fun b => !meet (chunksOf (b.spans.flatMap s.spanHomes)) chunks)
    | _ =>
      s.mayPerform earlier a.cls (s.accWords a) &&
      !(chunksOf homes).any (fun c => s.allCores.any (fun x => x.commandHolds s.u.who a c)) &&
      !s.core.addsTo s.u.who a.issued a.slot (s.accWords a) &&
      (a.bypasses || homes.all (fun h => match s.blockOf a.blks h with | some b => (h - b.base) / 64 < b.filled | none => true))

/-- Whether an access leaves a result or only writes. -/
def Access.isStore (a : Access) : Bool := match a.act with | .store _ | .lbf _ | .popped _ _ => true | _ => false

/-- Whether an access leaves a scoreboarded result (02 R53). -/
def Access.hasResult (a : Access) : Bool :=
  match a.act with
  | .store _ | .lbf _ | .popped _ _ | .fence _ _ | .mark _ _ | .pin | .pld | .start _ => false
  | _ => true

/-- Performs the k-th outstanding access and takes it off the list. -/
def State.performAt (s : State) (k : Nat) : Performed :=
  match s.u.accs[k]? with
  | none => ok s
  | some a => ({ s with u := { s.u with accs := dropAt s.u.accs k } }).perform a

/-- Performs in program order those of the outstanding accesses from the k-th on that pass a test. Answers the first fault. -/
def State.performThe (test : State → Nat → Bool) : Nat → Nat → State → Performed
  | 0, _, s => ok s
  | n + 1, k, s =>
    if test s k && k < s.u.accs.length then
      let p := s.performAt k
      let r := State.performThe test n k p.st
      ⟨r.st, p.fault.orElse (fun _ => r.fault)⟩
    else State.performThe test n (k + 1) s

/-- A stop settles the strand (11 R243, R245): what may perform does; what an engine command still holds back stays (08 R188, 09 R196;
log 96). -/
def State.performAll (s : State) : Performed := s.performThe State.eligible s.u.accs.length 0

/-- What is left when a unit is saved performs, whatever holds it back (log 96). -/
def State.performRest (s : State) : Performed := s.performThe (fun _ _ => true) s.u.accs.length 0

/-- The outstanding accesses to some chunks perform, whatever holds them back. -/
def State.performIn (s : State) (cs : List Nat) : Performed :=
  s.performThe (fun s k => (s.u.accs[k]?).any (fun a => meet (chunksOf (a.spans.flatMap s.spanHomes)) cs)) s.u.accs.length 0

/-- An outstanding access waits for a chunk that a copy holds (08 R188). -/
def State.heldByCopy (s : State) (a : Access) : Bool :=
  (chunksOf (a.spans.flatMap s.spanHomes)).any (fun c => s.allCores.any (fun x => x.cbuf.any (fun y => y.chunks.contains c)))

end Sys2Proof.Machine
end

