-- ==== Sys2Proof/Machine/Save.lean ====
section
/-! DEFINITION. The save area (11 R257 to R260; 05 R124; 07 R154; 16 R357): its bytes written at a checkpoint and read at a
resume. -/

namespace Sys2Proof.Machine

/-- Offsets of the regions (11 R258). -/
def offScalars : Nat := 0x40
def offLoops : Nat := 0x240
def offSpecials : Nat := 0x300
def offHandles : Nat := 0x400
def offMasks : Nat := 0x800
def offLatches : Nat := 0x840
def offPending : Nat := 0x8C0
def offProgress : Nat := 0x900
def offRecords : Nat := 0xC00
def offGroups : Nat := 0x1400
def offIfq : Nat := 0x23400
def offAcc : Nat := 0x30000
def offPlanes : Nat := 0x1B0000
def offSpill : Nat := 0x1D0000
def offPlaneMasks : Nat := 0x220000

/-- The home of the save area that a SAVEBASE names: its OFFSET is taken as a global memory address (log 13). -/
def areaOf (savebase : Word) : Nat := pOff savebase

/-- Bytes of memory copied from one range to another: only listed bytes move. -/
def Memory.copyRange (m : Memory) (src dst n : Nat) : Memory :=
  let cleared := m.bytes.filter (fun (a, _) => !(dst ≤ a && a < dst + n))
  let moved := m.bytes.filter (fun (a, _) => src ≤ a && a < src + n)
  { m with bytes := moved.foldl (fun t (a, b) => put Memory.default t (a - src + dst) b) cleared }

/-- Zeroes a range. -/
def Memory.clearRange (m : Memory) (a n : Nat) : Memory :=
  { m with bytes := m.bytes.filter (fun (x, _) => !(a ≤ x && x < a + n)) }

def words (ws : List Word) : List Byte := ws.flatMap wordBytes

/-- A loop level as four words (11 R258). -/
def loopWords (l : Loop) : List Word := [l.start.setWidth 64, l.len.setWidth 64, l.count, l.index]
def readLoop (m : Memory) (a : Nat) : Loop :=
  ⟨(m.word a).setWidth 52, (m.word (a + 8)).setWidth 16, m.word (a + 16), m.word (a + 24)⟩

/-- An allocation record (07 R154) and its reading. -/
def recordBytes (a : Alloc) (expired : Bool) : List Byte :=
  natBytes 32 (a.base % 512 + 512 * (a.size % 512) + 2 ^ 18 * (if a.h then 1 else 0) + 2 ^ 19 * (if a.stg then 1 else 0) +
    2 ^ 20 * (if a.k then 1 else 0) + 2 ^ 21 * (if expired then 1 else 0) + 2 ^ 22 + 2 ^ 64 * (a.life % 2 ^ 64) +
    2 ^ 128 * (a.expiry % 2 ^ 64) + 2 ^ 192 * (a.lastren % 2 ^ 64))

def recordValid (m : Memory) (a : Nat) : Bool := bitOf (bytesNat (m.range a 32)) 22
def readRecord (m : Memory) (a : Nat) (w : UnitId) : Alloc :=
  let x := bytesNat (m.range a 32)
  { who := w, base := bitsAt x 0 9, size := bitsAt x 9 9, h := bitOf x 18, stg := bitOf x 19, k := bitOf x 20,
    expired := bitOf x 21, life := bitsAt x 64 64, expiry := bitsAt x 128 64, lastren := bitsAt x 192 64, chunks := [] }

/-- A tile group's 1088 bytes (11 R258). -/
def groupBytes (u : Strand) (k : Nat) : List Byte :=
  let rows := (List.range 16).map (fun j => lookup VReg.zero u.regs.v (16 * k + j))
  let g := u.group k
  rows.flatMap (fun r => rowBytes r.data) ++
    natBytes 8 (rows.foldr (fun r acc => r.tag % 16 + 16 * acc) 0) ++ natBytes 3 ((g.rows - 1) + 256 * (g.rowb / 4 - 1) + 65536 * g.gfmt) ++
    zeros 53

/-- A tile group read back, held for unit w and not DIRTY (05 R127). -/
def restoreGroup (u : Strand) (m : Memory) (area k : Nat) (w : UnitId) : Strand :=
  let a := area + offGroups + 1088 * k
  let tags := bytesNat (m.range (a + 1024) 8)
  let sh := m.range (a + 1032) 3
  let u1 := (List.range 16).foldl (fun u j =>
    u.putVreg (16 * k + j) ⟨bytesRow (m.range (a + 64 * j) 64), bitsAt tags (4 * j) 4⟩) u
  u1.setGroup k ⟨true, (sh.getD 0 0).toNat + 1, ((sh.getD 1 0).toNat + 1) * 4, (sh.getD 2 0).toNat, false, w⟩

/-- A matrix progress entry of 48 bytes (16 R357). -/
def progressBytes (c : Option MCmd) (cfg : Word) : List Byte :=
  match c with
  | none => natBytes 48 (2 ^ 320 * cfg.toNat)
  | some c => natBytes 48 (c.word.toNat + 2 ^ 64 * c.sav.toNat + 2 ^ 128 * c.snv.toNat + 2 ^ 192 * (c.mask % 16) +
      2 ^ 196 * (c.prom % 8) + 2 ^ 199 * (c.next % 256) + 2 ^ 207 + 2 ^ 208 * (if c.ovf then 1 else 0) +
      2 ^ 256 * (c.epc.toNat % 2 ^ 52) + 2 ^ 320 * cfg.toNat)

/-- The opcodes that load a plane: MLDS, MLDS.T, MLDSH, MLDSP (02 R61). -/
def mOp (w : Word) : Nat := bitsAt w.toNat 56 8
def isLoadOp (op : Nat) : Bool := 3 ≤ op && op ≤ 6

/-- A matrix command read back from its entry; one in progress goes on running (08 R183, 11 R260). -/
def readProgress (x i : Nat) (w : UnitId) (u : Strand) (now : Nat) : Option MCmd :=
  if bitOf x 207 then
    let word := BitVec.ofNat 64 (bitsAt x 0 64)
    let h := bitsAt word.toNat 46 5
    let next := bitsAt x 199 8
    some { who := w, word := word, sav := BitVec.ofNat 64 (bitsAt x 64 64), snv := BitVec.ofNat 64 (bitsAt x 128 64),
           hnd := u.handle h, hreg := h, mask := bitsAt x 192 4, prom := bitsAt x 196 3, ovf := bitOf x 208,
           epc := BitVec.ofNat 64 (bitsAt x 256 52), entered := now, seq := i,
           running := i = 0 || (isLoadOp (mOp word) && next ≠ 0), began := now, next := next, fetched := false, stage := [], sat := 0,
           flags := 0, chunks := [], locks := [], depth := 0, aged := false, slack := 0 }
  else none

/-- The unit's commands in the order of the progress region: the one in progress (not a load, if one runs) first. -/
def progressOrder (cs : List MCmd) : List MCmd :=
  match cs.find? (fun c => c.running && !isLoadOp (mOp c.word)) with
  | some c => c :: cs.filter (fun d => decide (d ≠ c))
  | none => match cs.find? (fun c => c.running) with
    | some c => c :: cs.filter (fun d => decide (d ≠ c))
    | none => cs

/-- An accumulator tile's bytes, rows in ascending order (11 R258). -/
def accBytes (m : Matrix) (n : Nat) : List Byte :=
  (List.range 16384).flatMap (fun i => natBytes 4 (lookup 0 m.acc (16384 * n + i)).toNat)

/-- The bytes of a sparse table from 0 up to n. -/
def tabBytes (t : Tab Byte) (n : Nat) : List Byte := (List.range n).map (fun i => lookup 0 t i)
def bytesTab (bs : List Byte) : Tab Byte := (bs.zipIdx).foldr (fun (b, i) t => if b = 0 then t else (i, b) :: t) []

/-- The stored special registers in the order of their numbers, zero where 11 R258 stores zero. -/
def specialWords (u : Strand) (depth : Nat) : List Word :=
  let r := u.regs.sr
  [0, 0, 0, r.rank, r.units, r.team, r.teamsz, r.launch, 0, r.periodmax, r.chk, r.fpctl, r.fpstat, r.ashape, r.prom,
   r.accovf, r.trailcnt, r.errcnt, BitVec.ofNat 64 depth, r.estimate, 0, r.handler, r.epc, r.ecause, r.einfo, r.misscnt,
   0, 0, 0, 0, 0, 0]

/-- The special registers read back (11 R260): those stored as zero are not restored. -/
def readSpecials (m : Memory) (a : Nat) : Specials :=
  let w (n : Nat) : Word := m.word (a + 8 * n)
  { rank := w 3, units := w 4, team := w 5, teamsz := w 6, launch := w 7, periodmax := w 9, chk := w 10, fpctl := w 11,
    fpstat := w 12, ashape := w 13, prom := w 14, accovf := w 15, trailcnt := w 16, errcnt := w 17, estimate := w 19,
    handler := w 21, epc := w 22, ecause := w 23, einfo := w 24, misscnt := w 25 }

/-- What the header records (11 R259). -/
structure AreaHeader where
  ridx : Nat
  hard : Bool
  inHandler : Bool
  owner : Bool
  pendf : Bool
  valid : Bool
  cause : Nat
  ifqn : Nat
  planes : Nat
  soft : Nat
  lastiss : Nat
  psparse : Nat
  afmt : Nat
  sfmt : Nat
  amask : Nat
  smask : Nat
  acclive : Nat
  tgsaved : Nat
  tgconf : Nat
  deriving DecidableEq, Repr

def bitN (b : Bool) (k : Nat) : Nat := if b then 2 ^ k else 0

def headerBytes (h : AreaHeader) : List Byte :=
  natBytes 64 (h.ridx % 2 ^ 52 + bitN h.hard 52 + bitN h.inHandler 53 + bitN h.owner 54 + bitN h.pendf 55 + bitN h.valid 63 +
    2 ^ 64 * h.cause + 2 ^ 72 * h.ifqn + 2 ^ 78 * h.planes + 2 ^ 80 * h.soft + 2 ^ 85 * h.lastiss + 2 ^ 91 * h.psparse +
    2 ^ 93 * h.afmt + 2 ^ 97 * h.sfmt + 2 ^ 101 * h.amask + 2 ^ 105 * h.smask + 2 ^ 128 * h.acclive +
    2 ^ 192 * h.tgsaved + 2 ^ 320 * h.tgconf)

def readAreaHeader (m : Memory) (area : Nat) : AreaHeader :=
  let x := bytesNat (m.range area 64)
  { ridx := bitsAt x 0 52, hard := bitOf x 52, inHandler := bitOf x 53, owner := bitOf x 54, pendf := bitOf x 55,
    valid := bitOf x 63, cause := bitsAt x 64 8, ifqn := bitsAt x 72 6, planes := bitsAt x 78 2, soft := bitsAt x 80 5,
    lastiss := bitsAt x 85 6, psparse := bitsAt x 91 2, afmt := bitsAt x 93 4, sfmt := bitsAt x 97 4,
    amask := bitsAt x 101 4, smask := bitsAt x 105 4, acclive := bitsAt x 128 24, tgsaved := bitsAt x 192 128,
    tgconf := bitsAt x 320 128 }

/-- The groups of a strand configured for unit w. -/
def groupsOf (u : Strand) (w : UnitId) : List Nat :=
  (u.regs.t.filter (fun (_, g) => g.conf && decide (g.holder = w))).map Prod.fst

def bitSet (ks : List Nat) : Nat := ks.foldl (fun acc k => acc + 2 ^ k) 0

/-- Writes one DIRTY group to its holder's save area and marks it clean and saved (05 R125). -/
def State.saveGroup (s : State) (k : Nat) : State :=
  let g := s.u.group k
  match s.work.saved.find? (fun x => decide (x.who = g.holder)) with
  | none => s
  | some sv =>
    let h := readAreaHeader s.mem sv.area
    let m := (s.mem.lay (sv.area + offGroups + 1088 * k) (groupBytes s.u k)).lay sv.area
      (headerBytes { h with tgsaved := if h.tgsaved.testBit k then h.tgsaved else h.tgsaved + 2 ^ k })
    ({ s with mem := m }).modU (fun u => u.setGroup k { g with dirty := false })

/-- The DIRTY groups of the strand held for a unit other than the one on it (05 R126). -/
def foreignDirty (u : Strand) : List Nat :=
  (u.regs.t.filter (fun (_, g) => g.conf && g.dirty && !(u.st.onStrand && decide (g.holder = u.who)))).map Prod.fst

/-- FLUSH (05 R126): saves every DIRTY group held for another unit. -/
def State.flushGroups (s : State) : State := (foreignDirty s.u).foldl (fun s k => s.saveGroup k) s

/-- Writes back the dirty bytes of one block and frees it (07 R167). -/
def State.writeBlock (s : State) (b : Block) : State :=
  let homes := b.dirty.map (fun i => b.base + i)
  let data := b.dirty.map (fun i => b.data.getD i 0)
  let (m, dropped) := s.mem.write homes data b.cover s.writerTag
  let s1 := (({ s with mem := m }).logPoison dropped).modCore (fun c => c.dropBlock b.id)
  if b.cover.tol then s1.modU (fun u => u.addErr dropped.length) else s1

/-- LBF applied to every block of a unit (07 R167). -/
def State.writeBlocks (s : State) (w : UnitId) : State :=
  (s.core.blocks.filter (fun b => decide (b.who = w))).foldl (fun s b => s.writeBlock b) s

/-- The bytes of an allocation, read at its homes. -/
def allocBytes (m : Memory) (ci : Nat) (a : Alloc) : List Byte :=
  a.chunks.flatMap (fun c => m.range (coreSpadBase ci + 512 * c) 512)

/-- Bytes laid into an allocation, every word of its chunks with a fresh code (13 R285). -/
def pokeChunks (m : Memory) (ci : Nat) : List Nat → List Byte → Memory
  | [], _ => m
  | c :: r, bs => pokeChunks (m.lay (coreSpadBase ci + 512 * c) (bs.take 512)) ci r (bs.drop 512)

/-- The free chunks of a core: in no allocation (07 R153). -/
def Core.freeChunks (c : Core) : List Nat :=
  (List.range Config.spadChunks).filter (fun n => c.allocs.all (fun a => !a.chunks.contains n))

/-- Chunks reserved for a unit and not yet granted to it, and those reserved for others (10 R235). -/
def UnitId.key (w : UnitId) : Nat := w.launch * 2 ^ 24 + w.rank
def Core.grantedTo (c : Core) (w : UnitId) : Nat := ((c.allocs.filter (fun a => decide (a.who = w))).map (fun a => a.chunks.length)).sum
def Core.reservedElse (c : Core) (w : UnitId) (granted : Nat → Nat) : Nat :=
  ((c.reserved.filter (fun (k, _) => k ≠ w.key)).map (fun (k, n) => n - granted k)).sum
def Core.grantedKey (c : Core) (k : Nat) : Nat := ((c.allocs.filter (fun a => a.who.key = k)).map (fun a => a.chunks.length)).sum

/-- The chunks a unit may be granted: free ones less what is reserved for other units. -/
def Core.freeFor (c : Core) (w : UnitId) : Nat := c.freeChunks.length - c.reservedElse w c.grantedKey

/-- Undefined contents of newly granted chunks (07 R155): free values. -/
def State.freshChunks (s : State) (ci : Nat) (cs : List Nat) : State :=
  let bs := (List.range (512 * cs.length)).map (fun i => Config.freeByte (s.freeCount + i))
  ({ s with mem := pokeChunks s.mem ci cs bs }).tickFree (512 * cs.length)

end Sys2Proof.Machine
end

