-- ==== Sys2Proof/Machine/Ops.lean ====
section
/-! DEFINITION. Landing results (02 R54), taking an exception (11 R245 to R253), returning from it (11 R251, R254, R255),
checkpoints (11 R257) and resumes (11 R260): one operation each, which every meaning shares. -/

namespace Sys2Proof.Machine

/-! Landing. -/

/-- EINFO of PIPE_ERR (13 R280). -/
def pipeInfo (slot unit kind reg row step : Nat) : Nat :=
  slot % 8 + 8 * (unit % 8) + 64 * (kind % 2) + 128 * (reg % 2048) + 2 ^ 18 * (row % 16) + 2 ^ 22 * (step % 256)

/-- EINFO of FP_EXC (06 R132). -/
def fpInfo (reg fl slot : Nat) : Nat := reg % 2048 + 2048 * (fl % 32) + 65536 * (slot % 8)

/-- One flight advanced to cycle `now`: rows due land (those of a flight with a fault do not write); the flags are raised with
the last row. Answers the strand, what is left of the flight, and a fault (06 R132, 15 R334, R343). -/
def landFlight (now : Nat) (u : Strand) (f : Flight) : Strand × Option Flight × Option Held :=
  let due := if f.same then (if f.land ≤ now then f.cnt + 1 - f.next else 0) else (now + 1 - f.land)
  let n := min due (f.cnt + 1 - f.next)
  if n = 0 then (u, some f, none)
  else
    let rows := (f.rows.take n).zipIdx
    let u1 := if f.fault.isSome then u else rows.foldl (fun u (r, j) => landRow u f.dest (f.next + j) r) u
    if n < f.cnt + 1 - f.next then
      (u1, some { f with next := f.next + n, land := if f.same then f.land else f.land + n, rows := f.rows.drop n }, none)
    else
      let u2 := u1.raiseFlags f.flags
      let en := Nat.land f.flags u.regs.sr.fpctl.toNat
      (u2, none,
        match f.fault with
        | some t => some ⟨t, f.epc⟩
        | none => if en ≠ 0 then some ⟨⟨cFP_EXC, fpInfo f.reg en f.slot⟩, f.epc⟩ else none)

/-- The place of an instruction in program order: its bundle's issue cycle, then its slot (11 R246). -/
def orderKey (issued slot : Nat) : Nat := 8 * issued + slot

/-- Of two faults, each with the place of its instruction in program order, the one whose instruction issued first (11 R246). -/
def firstIssued (h h' : Option (Nat × Held)) : Option (Nat × Held) :=
  match h, h' with
  | none, y => y
  | x, none => x
  | some (q, y), some (p, x) => if p < q then some (p, x) else some (q, y)

/-- The rows of flights that are due, those of a later-issued bundle or a later slot last (02 R54); what they count is added to
ERRCNT after every write of the cycle (05 R121). Answers the first fault in program order with its place there. -/
def landOrdered (now : Nat) (u : Strand) : Strand × Option (Nat × Held) :=
  let order := sortBy (fun f => f.land) u.flights
  let (u1, left, fault, errs) := order.foldl (fun (acc : Strand × List Flight × Option (Nat × Held) × Nat) f =>
    let (u, l, h, n) := acc
    let (u', f', h') := landFlight now u f
    (u', (match f' with | some g => l ++ [g] | none => l), firstIssued h (h'.map (fun x => (orderKey f.issued f.slot, x))),
      match f' with | some _ => n | none => n + f.errs)) (u, [], none, 0)
  (({ u1 with flights := sortBy (fun f => f.seq) left } : Strand).addErr errs, fault)

def landAll (now : Nat) (u : Strand) : Strand × Option Held := ((landOrdered now u).1, (landOrdered now u).2.map Prod.snd)

/-- Whether any row of the strand is due; a strand that is stopped lands nothing (11 R245). -/
def Strand.dueNow (u : Strand) (now : Nat) : Bool := u.trap.settle.isNone && u.flights.any (fun f => f.land ≤ now)

/-! Stops requested. -/

/-- A soft cause becomes pending; the first one starts the watchdog with PERIODMAX as it stands (02 R59, 11 R242). -/
def Strand.requestSoft (u : Strand) (cause now : Nat) : Strand :=
  let bit : BitVec 5 := BitVec.ofNat 5 (2 ^ (cause - 0x20))
  u.modTrap (fun t =>
    if t.soft = 0 then { t with soft := bit, wdStart := now, wdBound := u.regs.sr.periodmax.toNat }
    else { t with soft := t.soft ||| bit })

/-- The cause recorded among several (11 R242): POWERFAIL, CANCEL, PREEMPT, TICK, DEBUG_STOP. -/
def softCause (soft : BitVec 5) : Nat :=
  if soft.getLsbD 1 then cPOWERFAIL else if soft.getLsbD 3 then cCANCEL else if soft.getLsbD 0 then cPREEMPT
  else if soft.getLsbD 2 then cTICK else cDEBUG_STOP

/-- Members of the same neighbourhood (01 R24, R27). -/
def Strand.sameGroup (u : Strand) (w : UnitId) (nbh : Nat) : Bool :=
  u.st.onStrand && u.who.launch = w.launch && u.own.nbh = nbh && decide (u.who ≠ w)

/-- Every other member of the group that is on a strand takes a soft stop (01 R24). -/
def State.stopGroupBy (s : State) (cause : Nat) (w : UnitId) (nbh : Nat) : State :=
  s.mapStrands (fun u => if u.sameGroup w nbh && u.st ≠ .ending then u.requestSoft cause s.now else u)

/-- The soft stop PREEMPT that the rest of a group takes after a hard stop to firmware (01 R24, 11 R253). -/
def State.stopGroup (s : State) (w : UnitId) (nbh : Nat) : State := s.stopGroupBy cPREEMPT w nbh

/-! Matrix work of a unit. -/

def Core.commandsOf (c : Core) (w : UnitId) : List MCmd := c.matrix.buf.filter (fun x => decide (x.who = w))
def Core.copiesOf (c : Core) (w : UnitId) : List CCmd := c.cbuf.filter (fun x => decide (x.who = w))

/-- MCAN's effect (16 R355): queued commands discarded, the running ones stopped at their step boundary; a plane load
stopped leaves the shadow plane INVALID. -/
def Core.cancelMatrix (c : Core) (w : UnitId) : Core :=
  let loading := c.matrix.buf.any (fun x => decide (x.who = w) && x.running && isLoadOp (mOp x.word))
  { c with matrix := { c.matrix with
      buf := c.matrix.buf.filter (fun x => decide (x.who ≠ w)),
      waking := if c.matrix.buf.any (fun x => decide (x.who = w)) then none else c.matrix.waking,
      shadow := if loading && c.matrix.shadow.st = .loading then Plane.none else c.matrix.shadow } }

/-- Whether a band holds a valid row of a plane (08 R175). -/
def Matrix.bandHeld (m : Matrix) (b : Nat) : Bool :=
  (m.active.st = .valid && m.active.mask.testBit b) || (m.shadow.st = .valid && m.shadow.mask.testBit b)

/-- The cycle is noted for the bands that hold a valid row, before a plane is dropped (08 R175). -/
def Matrix.noteHeld (m : Matrix) (now : Nat) : Matrix :=
  { m with heldAt := [0, 1, 2, 3].foldl (fun t b => if m.bandHeld b then put 0 t b now else t) m.heldAt }

/-! Withdrawal (09 R209). -/
/-- A barrier request whose generation has gone is released (09 R211). -/
def State.released (s : State) (x : Waiter) : Bool :=
  match x.wait with
  | .bar g _ => (s.mem.word x.addr).toNat / 2 ^ 32 ≠ g
  | _ => false

/-- The request of the unit in front has been served at its home: its bundle is to count as issued (09 R209). -/
def State.servedMine (s : State) : Bool :=
  s.waiters.any (fun x => decide (x.who = s.u.who) && (x.served.isSome || s.released x))

/-- Takes back the request of the unit in front that waits at a home, and its arrival, unless it has been served (09 R209). -/
def State.withdraw (s : State) : State :=
  let w := s.u.who
  let open' (x : Waiter) : Bool := decide (x.who = w) && x.served.isNone && !s.released x
  let mine := s.waiters.filter open'
  let s1 := { s with waiters := s.waiters.filter (fun x => !open' x) }
  mine.foldl (fun s x => match x.wait with
    | .bar _ _ =>
      let v := s.mem.word x.addr
      s.writeWord x.addr (v.extractLsb' 32 32 ++ (v.setWidth 32 - 1)) (s.mem.modeOf x.addr)
    | _ => s) s1

/-! The end of a unit. -/

/-- A unit that ends or is terminated (01 R21, 15 R335): nothing still to land is kept, stores go on, blocks are written
back, latches are unbound, requests at homes are withdrawn. -/
def State.endUnit (s : State) (abandoned : Bool) : State :=
  let w := s.u.who
  let s1 := (s.writeBlocks w).withdraw
  { s1 with
    u := { s1.u with
      st := .ending, target := none, flights := [],
      accs := s1.u.accs.filter (fun a => a.isStore || (match a.act with
        | .fence _ _ => true | .mark _ _ => true | .atomic _ _ _ _ => true | .start _ => true | _ => false)),
      regs := { s1.u.regs with q := [] },
      trap := { s1.u.trap with soft := 0, pend := none },
      own := { s1.u.own with abandoned := s1.u.own.abandoned || abandoned } },
    waiters := s1.waiters.filter (fun x => decide (x.who ≠ w)) }

/-- The unit's context has been killed (13 R291). -/
def State.killedHere (s : State) : Bool := match s.ctxOf s.u.own.ctx with | some c => c.killed | none => false

/-- Terminates the unit in front (01 R20, 11 R253): counted abandoned. Its matrix work is as MCAN leaves it, by 11 R256, to which 01 R21
refers; 01 R38 lets a cancelled unit's matrix commands run to completion. DEDUCED (log 91). The copies of a killed context's unit are
cancelled 65,536 cycles on, as at a checkpoint (13 R291). -/
def State.terminate (s : State) : State :=
  let s1 := (s.endUnit true).modCore (fun c => c.cancelMatrix s.u.who)
  if s.killedHere then s1.modU (fun u => u.modTrap (fun t => { t with settle := some (t.settle.getD s.now) })) else s1

/-! Checkpoints. -/

/-- What a checkpoint keeps beside the area. -/
def State.keptNow (s : State) : Kept :=
  { trap := s.u.trap, queue := if s.u.trap.inHandler then s.u.flights else s.u.trap.ifq, loops := s.u.loops,
    cmds := progressOrder (s.core.commandsOf s.u.who), fresh := s.u.time.fresh }

/-- The unit in front as a Saved entry. -/
def savedOf (s : State) (firmware : Bool) (cause : Nat) (area : Nat) : Saved :=
  { who := s.u.who, die := s.die.num, area := area, savebase := s.u.regs.pr.savebase, own := s.u.own,
    extents := s.u.regs.x, firmware := firmware, tickStop := cause = cTICK, kept := s.keptNow, shed := false, cause := cause }

/-- Frees the unit's allocations, reservation, array and accumulator tiles (01 R21, 10 R235, 01 R22). -/
def Core.release (c : Core) (w : UnitId) : Core :=
  let own := decide (c.matrix.owner = some w)
  let gone := ((c.allocs.filter (fun a => decide (a.who = w))).flatMap Alloc.chunks).map (fun x => c.index * 1024 + x)
  { c with
    allocs := c.allocs.filter (fun a => decide (a.who ≠ w)),
    pinned := c.pinned.filter (fun k => !gone.contains k),
    reserved := c.reserved.filter (fun (k, _) => k ≠ w.key),
    matrix := if own then
      { c.matrix with
        owner := none, active := Plane.none, shadow := Plane.none, live := [], acc := [], waking := none,
        buf := c.matrix.buf.filter (fun x => decide (x.who ≠ w)) }
      else c.matrix }

/-- The header of a checkpoint (11 R259). -/
def headerOf (s : State) (ridx : Nat) (cause : Nat) (queue : List Flight) : AreaHeader :=
  let own := decide (s.core.matrix.owner = some s.u.who)
  let m := s.core.matrix
  let conf := groupsOf s.u s.u.who
  { ridx := ridx, hard := !queue.isEmpty, inHandler := s.u.trap.inHandler, owner := own,
    pendf := s.u.trap.pend.isSome, valid := true, cause := cause, ifqn := queue.length,
    planes := if own then (if m.active.st = .valid then 1 else 0) + (if m.shadow.st ≠ .invalid then 2 else 0) else 0,
    soft := (s.u.trap.softRec ||| s.u.trap.soft).toNat, lastiss := s.u.trap.rlast,
    psparse := if own then (if m.active.sparse then 1 else 0) + (if m.shadow.sparse then 2 else 0) else 0,
    afmt := if own then m.active.fmt else 0, sfmt := if own then m.shadow.fmt else 0,
    amask := if own then m.active.mask else 0, smask := if own then m.shadow.mask else 0,
    acclive := if own then bitSet m.live else 0,
    tgsaved := bitSet (conf.filter (fun k => !(s.u.group k).dirty)), tgconf := bitSet conf }

/-- SPILL's bytes and record of one allocation (16 R370, 11 R257 step 4). -/
def spillAlloc (m : Memory) (area ci : Nat) (a : Alloc) : Memory := m.lay (area + offSpill + 1024 * a.base) (allocBytes m ci a)

/-- The strand state of a checkpoint (11 R257 step 6, R258). -/
def strandBytes (m : Memory) (area : Nat) (u : Strand) (queue : List Flight) (cmds : List MCmd) : Memory :=
  let loops := if u.trap.inHandler then u.trap.parkedLoops else u.loops
  let m1 := m.lay (area + offScalars) (words ((List.range 64).map u.scalar))
  let m2 := m1.lay (area + offLoops) (takePad 0 192 (words (loops.reverse.flatMap loopWords)))
  let m3 := m2.lay (area + offSpecials) (words (specialWords u u.loops.length))
  let m4 := m3.lay (area + offHandles) ((List.range 32).flatMap (fun h => natBytes 32 (u.handle h).toNat))
  let m5 := m4.lay (area + offMasks) (words ((List.range 8).map u.mask))
  let m6 := m5.lay (area + offLatches) (words ((List.range 8).flatMap (fun q =>
    let l := u.latch q
    [if l.bound then l.chan + BitVec.ofNat 64 l.fmt else 0, l.pos])))
  let m7 := m6.lay (area + offPending) (takePad 0 64 (match u.trap.pend with
    | some h => words [BitVec.ofNat 64 h.trap.cause, h.epc, BitVec.ofNat 64 h.trap.einfo]
    | none => []))
  let ordered := progressOrder cmds
  let inProgress := ordered.any (fun c => c.running)
  let listed : List (Option MCmd) := if inProgress then ordered.map some else none :: ordered.map some
  let m8 := m7.lay (area + offProgress) ((List.range 16).flatMap (fun i =>
    progressBytes (listed.getD i none) (if i = 0 then u.cfg else 0)))
  m8.lay (area + offIfq) ((List.range 32).flatMap (fun i => takePad 0 1280 (match queue[i]? with
    | some f => words (flightWords f f.land)
    | none => [])))

/-- A save area with every byte zero that a checkpoint may leave unused (11 R258): the tiles, planes and masks, and the tile groups that
are not saved in it. The SPILL slots stay. -/
def Memory.clearArea (m : Memory) (area groups : Nat) : Memory :=
  let unused (o : Nat) : Bool :=
    (offGroups ≤ o && o < offIfq && !groups.testBit ((o - offGroups) / 1088)) || (offAcc ≤ o && o < offSpill) ||
    (offPlaneMasks ≤ o && o < Config.saveAreaBytes)
  { m with bytes := m.bytes.filter (fun (a, _) => !(area ≤ a && unused (a - area))) }

/-- Accumulator tiles and planes of the owner (11 R257 step 5); a dense plane has no masks. -/
def arrayBytes (m : Memory) (area : Nat) (mx : Matrix) : Memory :=
  let plane (m : Memory) (k : Nat) (p : Plane) : Memory :=
    if p.st = .invalid || (k = 0 && p.st ≠ .valid) then m
    else
      let m1 := m.lay (area + offPlanes + 65536 * k) (tabBytes p.data 65536)
      if p.sparse then m1.lay (area + offPlaneMasks + 32768 * k) (tabBytes p.masks 32768) else m1
  plane (plane (mx.live.foldl (fun m n => m.lay (area + offAcc + 65536 * n) (accBytes mx n)) m) 0 mx.active) 1 mx.shadow

/-- What is outstanding when the unit is saved performs first; a fault of it is held (11 R246; log 96). -/
def State.performLeft (s : State) : State :=
  let p := s.performRest
  p.st.modU (fun u => u.modTrap (fun t => { t with pend := t.pend.orElse (fun _ => p.fault) }))

/-- The checkpoint of the unit in front, its copies done (11 R257): the save area is written, the unit becomes STOPPED
and the strand, the array, the tiles and the chunks are released. A RETRY context's area is copied to its second half,
except at a PIPE_ERR (13 R281). When B1 sheds the die there is no SPILL, and only K allocations stay live (12 R263). -/
def State.checkpointWith (s0 : State) (shed firmware : Bool) (cause : Nat) : State :=
  let w := s0.u.who
  let s := (s0.performLeft.writeBlocks w).modMatrix (fun m => m.noteHeld s0.now)
  let area := areaOf s.u.regs.pr.savebase
  let ci := s.core.index
  let allocs := s.core.allocs.filter (fun a => decide (a.who = w))
  let m1 := (allocs.filter (fun a => a.h && !a.stg && !a.isExpired s.now && !shed)).foldl (fun m a => spillAlloc m area ci a)
    (s.mem.clearArea area (headerOf s 0 cause []).tgsaved)
  let m2 := m1.lay (area + offRecords)
    (takePad 0 2048 (allocs.flatMap (fun a => recordBytes a (a.isExpired s.now || (shed && !a.k)))))
  let m3 := if s.core.matrix.owner = some w then arrayBytes m2 area s.core.matrix else m2
  let queue := s.u.trap.ifq
  let m4 := strandBytes m3 area s.u queue (s.core.commandsOf w)
  let m5 := m4.lay area (headerBytes (headerOf s s.u.trap.resume.toNat cause queue))
  let retry := (match s.ctxOf s.u.own.ctx with | some c => c.retry | none => false)
  let copy := retry && cause ≠ cPIPE_ERR
  let m6 := if copy then (m5.copyRange area (area + Config.saveAreaBytes) Config.saveAreaBytes).renew (area + Config.saveAreaBytes)
    Config.saveAreaBytes else m5
  let sv0 := { savedOf s firmware cause area with shed := shed }
  let sv := if cause = cPIPE_ERR then sv0 else 
    { sv0 with own := { sv0.own with copy := if copy then some s.keptNow else none, retried := false } }
  { s with
    mem := m6,
    core := s.core.release w,
    u := { s.u with st := .absent, target := none, flights := [], accs := [], trap := Trapping.reset, loops := [] },
    work := { s.work with saved := s.work.saved.filter (fun x => decide (x.who ≠ w)) ++ [sv] } }

def State.checkpoint (s : State) (firmware : Bool) (cause : Nat) : State := s.checkpointWith false firmware cause

/-! Hard stops. -/

/-- Causes that may go to the user handler (11 R247). -/
def delegable (cause : Nat) : Bool :=
  cause = cSTALE || cause = cTRAILER || cause = cACC_OVF || cause = cFP_EXC || cause = cTRAP

/-- A fault held pending; only the earliest is held (11 R246). -/
def Strand.hold (u : Strand) (h : Option Held) : Strand :=
  match h with
  | none => u
  | some x => u.modTrap (fun t => { t with pend := some (t.pend.getD x) })

/-- A write that an entry of the in-flight queue can hold (05 R124): to scalars or vector registers. -/
def Flight.isEntry (f : Flight) : Bool := match f.dest with | .scalar _ => true | .vector _ => true | _ => false

/-- Step 2 of 11 R245: writes scheduled for f or earlier land; each later one becomes an in-flight entry with its DELAY.
Writes to special and extent registers and shapes, which no entry can hold, are parked beside the queue (log 11). -/
def State.freeze (s : State) : State :=
  let f := s.now
  let (u1, h) := landAll f s.u
  let (keep, odd) := (u1.flights.map (fun x => { x with land := x.land - f })).partition Flight.isEntry
  let u2 := { u1 with flights := [] }
  { s with u := (if s.u.trap.inHandler then { u2 with flights := keep ++ odd }
                 else u2.modTrap (fun t => { t with ifq := keep, odd := odd })).hold h }

/-- Step 3 of 11 R245: every scoreboarded result lands, and a waiting request is withdrawn. What an engine command holds back lands when
that lets it (log 96). -/
def State.settleResults (s : State) : State :=
  let p := s.performAll
  (p.st.modU (fun u => u.hold p.fault)).withdraw

/-- Step 4 of 11 R245 at cycle f: EPC, ECAUSE, EINFO, and the resume index with LASTISS. Inside a handler RIDX and LASTISS stay
those of its return (11 R251). -/
def State.record (s : State) (f : Nat) (t : Trap) (epc ridx : Word) : State :=
  let last := min 32 (f - s.u.time.prevIssue)
  s.modU (fun u => (u.modSr (fun r =>
    { r with epc := epc, ecause := BitVec.ofNat 64 t.cause, einfo := BitVec.ofNat 64 t.einfo })).modTrap (fun tr =>
      { tr with
        resume := ridx, rlast := last, softRec := 0,
        ridx := if tr.inHandler then tr.ridx else ridx, lastiss := if tr.inHandler then tr.lastiss else last }))

/-- Entry into the user handler after a stop at cycle f (11 R250): the queue and the loop stack are parked, in the strand and in the
save area; the next bundle is HANDLER, its WAIT counted from f + 1. The unit stays in its state (01 R20). -/
def State.enterHandler (s : State) (f : Nat) : State :=
  let u := s.u
  let area := areaOf u.regs.pr.savebase
  let u1 := { u with
    pc := u.regs.sr.handler, target := none, loops := [],
    trap := { u.trap with inHandler := true, first := true, parkedLoops := u.loops },
    time := { u.time with prevIssue := f + 1 } }
  let m1 := s.mem.lay (area + offLoops) (takePad 0 192 (words (u.loops.reverse.flatMap loopWords)))
  let m2 := m1.lay (area + offIfq) ((List.range 32).flatMap (fun i => takePad 0 1280 (match u.trap.ifq[i]? with
    | some f => words (flightWords f f.land)
    | none => [])))
  let hd := headerOf { s with u := u1 } u.trap.ridx.toNat u.regs.sr.ecause.toNat u.trap.ifq
  { s with u := u1, mem := m2.lay area (headerBytes { hd with valid := false }) }

/-- A stop waits for the unit's copies (11 R256), and for what waits for a chunk that a copy holds (08 R188). -/
def State.settled (s : State) : Bool := (s.core.copiesOf s.u.who).isEmpty && s.u.accs.all (fun a => !s.heldByCopy a)

/-- Stands in its stop, which is recorded, with nothing to wait for. -/
def State.stopReady (s : State) : Bool :=
  s.u.trap.settle.isSome && !s.u.trap.unrec && !s.u.trap.retained && s.u.st.onStrand && s.u.st ≠ .ending && s.settled

/-- A soft stop's checkpoint waits until every other member of its group that is to stop too has settled, so that none is STOPPED before
another (01 R24, R27). -/
def State.groupReady (s : State) : Bool :=
  s.stopReady && s.allStrands.all (fun v => !v.sameGroup s.u.who s.u.own.nbh || v.st = .ending ||
    (v.trap.soft = 0 && v.trap.settle.isNone) || v.trap.retained || (s.focus v.place).stopReady)

/-- The group's members that stand in a soft stop are checkpointed, this one first (01 R24, 11 R257). -/
def State.checkpointGroup (s : State) : State :=
  let w := s.u.who
  let here := (s.allStrands.filter (fun v => v.sameGroup w s.u.own.nbh && v.trap.settle.isSome && !v.trap.retained &&
    v.st ≠ .ending)).map Strand.place
  here.foldl (fun s p => s.at p (fun s => s.checkpoint (s.u.regs.sr.ecause.toNat < 0x20) s.u.regs.sr.ecause.toNat))
    (s.checkpoint false s.u.regs.sr.ecause.toNat)

/-- Firmware may restore the unit from its retry copy: it has one that it has not used since its last checkpoint (13 R281). -/
def State.mayRetry (s : State) : Bool := s.u.own.copy.isSome && !s.u.own.retried

/-- A hard stop delivered to firmware (11 R253): the copies still running hold the checkpoint back (11 R256). LEASE terminates the unit
(07 R162), and firmware terminates it for MEM_UE, and for a PIPE_ERR that it does not restore it from (13 R281, R283). -/
def State.toFirmware (s : State) (t : Trap) : State :=
  let s1 := s.stopGroup s.u.who s.u.own.nbh
  if t.cause = cLEASE || t.cause = cMEM_UE || (t.cause = cPIPE_ERR && !s.mayRetry) then s1.terminate
  else if s1.settled then s1.checkpoint true t.cause
  else s1.modU (fun u => u.modTrap (fun tr => { tr with settle := some s.now }))

/-- The unit in front is ended by a hard stop (07 R162; 13 R291): what has landed stands, what can perform does, and a request at a home is
taken back; one that has been served lets its bundle issue first (11 R245 step 3). -/
def State.stopEnd (s : State) : State :=
  if s.servedMine then
    s.modU (fun u => (u.requestSoft cCANCEL s.now).modTrap (fun tr => { tr with late := some ⟨⟨cCANCEL, 0x8000⟩, u.pc⟩ }))
  else ((s.freeze).settleResults).terminate

/-- Delivery of a recorded cause of cycle f (11 R249): to the user handler, or to firmware. -/
def State.deliver (s : State) (f : Nat) (t : Trap) : State :=
  if delegable t.cause && s.u.regs.sr.handler ≠ 0 && !s.u.trap.inHandler then s.enterHandler f else s.toFirmware t

/-- The first handler bundle raised a cause (11 R252): the unit is terminated and firmware receives HANDLER_FAULT; a
firmware core's own double fault fences the die. -/
def State.doubleFault (s : State) (t : Trap) : State :=
  let first := s.u.regs.sr.ecause.toNat
  let s1 := s.modU (fun u => u.modSr (fun r =>
    { r with ecause := BitVec.ofNat 64 cHANDLER_FAULT, einfo := BitVec.ofNat 64 (first % 256 + 256 * (t.cause % 256)) }))
  let s2 := s1.stopGroup s1.u.who s1.u.own.nbh
  if s.u.privileged then s2.modDie (fun d => { d with fwFault := true }) else s2.terminate

/-- TAKING AN EXCEPTION (11 R245, R249 to R253): freeze, land, record, and deliver to the user handler or to firmware.
`epc` is the index recorded and `ridx` the resume index. Where the home has served a request that the unit waits for, the stop
waits for that request's bundle, which issues at once as the last one (R245 step 3); a fault found meanwhile is held. -/
def State.hardStop (s : State) (t : Trap) (epc ridx : Word) : State :=
  if s.u.trap.late.isSome then s.modU (fun u => u.hold (some ⟨t, epc⟩))
  else if s.u.trap.first then s.doubleFault t
  else if s.servedMine then s.modU (fun u => u.modTrap (fun tr => { tr with late := some ⟨t, epc⟩ }))
  else (((s.freeze).settleResults).record s.now t epc ridx).deliver s.now t

/-- A cause raised before issue: RIDX = EPC = the bundle's index (11 R245). -/
def State.trapBefore (s : State) (t : Trap) : State := s.hardStop t s.u.pc s.u.pc

/-- A cause raised by an instruction that has issued: RIDX is the next bundle (11 R245). -/
def State.trapAfter (s : State) (h : Held) : State := s.hardStop h.trap h.epc s.u.pc

/-- A fault of an engine or of an access, raised now or held while the handler runs (11 R246). -/
def State.raiseHeld (s : State) (h : Option Held) : State :=
  match h with
  | none => s
  | some x => s.trapAfter x

/-- A fault raised now, beside the results that land in this cycle: the fault of the instruction that issued first is recorded, the other
held (11 R246); `key` is its instruction's place in program order. -/
def State.raiseAt (s : State) (key : Nat) (x : Held) : State :=
  let (u, h) := landOrdered s.now s.u
  let s1 := { s with u := u }
  match h with
  | none => s1.trapAfter x
  | some (k, y) => if k < key then (s1.modU (fun u => u.hold (some x))).trapAfter y else (s1.modU (fun u => u.hold (some y))).trapAfter x

/-- A matrix fault at its issuer: held while INHANDLER is set (11 R246), and while the issuer is stopped (08 R184). `key` is the
command's place in program order. -/
def State.raiseMatrix (s : State) (key : Nat) (x : Held) : State :=
  if s.u.trap.inHandler || s.u.trap.settle.isSome then s.modU (fun u => u.hold (some x)) else s.raiseAt key x

/-- A unit that stops in place, its blocks written back: B1 retains it, and B2 parks it at stage 2 (12 R263, R270). -/
def State.retain (s : State) : State :=
  (s.writeBlocks s.u.who).modU (fun u => { u with trap := { u.trap with settle := some s.now, retained := true } })

/-- What a soft cause comes to once its stop is recorded (10 R241; 01 R37; 12 R263): CANCEL and KILL end the unit, POWERFAIL
retains it, any other is a checkpoint, after the copies. The pending causes are recorded; those beside POWERFAIL stay pending
on a retained unit. -/
def State.actSoft (s0 : State) (soft : BitVec 5) : State :=
  let cause := softCause soft
  let left : BitVec 5 := if cause = cPOWERFAIL then soft &&& 0x1D else 0
  let s := s0.modU (fun u => u.modTrap (fun t => { t with soft := 0, softRec := soft }))
  if soft.getLsbD 3 || (soft.getLsbD 0 && s.u.trap.kill) then s.terminate
  else if cause = cPOWERFAIL && (s.supply.b1 || s.supply.b2) then
    (s.modU (fun u => u.modTrap (fun t => { t with soft := left }))).retain
  else
    let s1 := s.modU (fun u => u.modTrap (fun t => { t with settle := some (t.settle.getD s.now) }))
    if s1.groupReady then s1.checkpointGroup else s1

/-- The forced stop of the watchdog (02 R59): ECAUSE holds the soft cause, EINFO bit 15 is set; always to firmware. -/
def State.forcedStop (s : State) : State :=
  let soft := s.u.trap.soft
  if s.servedMine then s.modU (fun u => u.modTrap (fun tr => { tr with late := some ⟨⟨softCause soft, 0x8000⟩, u.pc⟩ }))
  else (((s.freeze).settleResults).record s.now ⟨softCause soft, 0x8000⟩ s.u.pc s.u.pc).actSoft soft

/-- The stop that waited for its last bundle, which has issued in this cycle: RIDX names the bundle after it (11 R245 step 3). A
forced stop stays one (02 R59). -/
def State.lateStop (s : State) : State :=
  match s.u.trap.late with
  | none => s
  | some h =>
    let s1 := s.modU (fun u => u.modTrap (fun tr => { tr with late := none }))
    if 0x20 ≤ h.trap.cause then
      (((s1.freeze).settleResults).record s1.now h.trap h.epc s1.u.pc).actSoft s1.u.trap.soft
    else (((s1.freeze).settleResults).record s1.now h.trap h.epc s1.u.pc).deliver s1.now h.trap

/-- Lands every result of the strand at once: what waiting for them at a period comes to (11 R243, steps 1 and 2). -/
def State.landEverything (s : State) : State :=
  let (u1, h) := landAll (s.now + 64) s.u
  let p := State.performAll { s with u := u1.hold h }
  p.st.modU (fun u => u.hold p.fault)

/-- A soft stop recorded (11 R242, R243): the blocks are written back first, the resume index is the period's own, and every cause
pending by now is recorded. -/
def State.recordSoft (s : State) : State :=
  let soft := s.u.trap.soft
  let s1 := (s.writeBlocks s.u.who).modU (fun u => u.modTrap (fun t => { t with unrec := false }))
  (s1.record s1.now ⟨softCause soft, 0⟩ s1.u.pc s1.u.pc).actSoft soft

/-- A soft stop taken (11 R243): steps 1 and 2 are over; it is recorded once the copies have settled (steps 3 and 4). CANCEL and
KILL do not wait for them: the unit is ENDING until they are done (11 R256). -/
def State.takeSoft (s : State) : State :=
  let soft := s.u.trap.soft
  let s1 := (s.landEverything).withdraw
  if soft.getLsbD 3 || (soft.getLsbD 0 && s.u.trap.kill) || s1.settled then s1.recordSoft
  else s1.modU (fun u => u.modTrap (fun t => { t with settle := some s.now, unrec := true }))

/-! Re-injection and return. -/

/-- The parked entries land relative to cycle r (11 R255). -/
def reinject (q : List Flight) (r : Nat) : List Flight := q.mapIdx (fun i f => { f with land := r + f.land, seq := i })

/-- Re-injected entries stand before the writes that the strand has issued since: in one cycle a later-issued one wins (02 R54). -/
def reinjected (q now : List Flight) (r : Nat) : List Flight :=
  reinject q r ++ now.map (fun f => { f with seq := f.seq + q.length })

/-- Divider reservations of re-injected entries (11 R255). -/
def divEnd (q : List Flight) (r : Nat) : Nat := (q.filter (fun f => f.div)).foldl (fun m f => max m (r + f.land)) 0

/-- The queue re-injected on the strand in front, with PrevIssue := r − LASTISS; r is the first cycle in which it may issue (11
R255). -/
def State.reinjectAt (s : State) (q : List Flight) (r lastiss : Nat) : State :=
  (s.modU (fun u => { u with
    flights := reinjected q u.flights r,
    time := { u.time with prevIssue := r - lastiss, notBefore := r } })).modCore
      (fun c => { c with divUntil := max c.divUntil (divEnd q r) })

/-- RETURN FROM A HANDLER (11 R251) at issue cycle c: the loop stack is restored; a fault held pending is raised in cycle c + 1,
after what the handler has outstanding, with the parked queue kept; otherwise the queue is re-injected with r = c + 1 and the
next bundle is RIDX. -/
def State.handlerReturn (s : State) : State :=
  let t := s.u.trap
  let u1 := { s.u with pc := t.ridx, target := none, loops := t.parkedLoops,
                       trap := { t with inHandler := false, first := false, parkedLoops := [], pend := none, ifq := [], odd := [] } }
  match t.pend with
  | some h =>
    let s0 := State.settleResults { s with u := { u1 with trap := { u1.trap with ifq := t.ifq, odd := t.odd } } }
    (s0.record (s.now + 1) h.trap h.epc t.ridx).deliver (s.now + 1) h.trap
  | none => ({ s with u := u1 } : State).reinjectAt (t.ifq ++ t.odd) (s.now + 1) t.lastiss

/-! Resume. -/

/-- Whether a core can take a saved unit (11 R260 step 1). -/
def Core.canTake (c : Core) (w : UnitId) (own : Owned) (recs : List Alloc) : Bool :=
  2 * (recs.map Alloc.size).sum ≤ c.freeFor w && 2 * own.spadg ≤ c.freeFor w && c.allocs.length + recs.length ≤ Config.maxRecords &&
  (!own.array || c.matrix.owner.isNone)

/-- The records of a save area that hold an allocation. -/
def areaRecords (m : Memory) (area : Nat) (w : UnitId) : List Alloc :=
  ((List.range 64).filter (fun i => recordValid m (area + offRecords + 32 * i))).map
    (fun i => readRecord m (area + offRecords + 32 * i) w)

/-- One allocation granted again at its recorded offset (11 R260 step 4): H without S and unexpired comes back fresh from
its SPILL slot, any other expired (07 R156). -/
def State.regrant (s : State) (area : Nat) (a : Alloc) : State :=
  let cs := s.core.freeChunks.take (2 * a.size)
  let live := a.h && !a.stg && !a.expired
  let b := { a with chunks := cs, expired := !live, lastren := s.now,
                    expiry := if live then s.now + min a.life s.die.retn else a.expiry }
  let s1 := s.freshChunks s.core.index cs
  let m := if live then pokeChunks s1.mem s1.core.index cs (s1.mem.range (area + offSpill + 1024 * a.base) (1024 * a.size))
           else s1.mem
  ({ s1 with mem := m }).modCore (fun c => { c with allocs := c.allocs ++ [b] })

/-- The planes and accumulator tiles restored (11 R260 step 5). -/
def restoreArray (mx : Matrix) (m : Memory) (area : Nat) (h : AreaHeader) (w : UnitId) (loading : Bool) : Matrix :=
  let live := (List.range 24).filter (fun n => h.acclive.testBit n)
  let acc := live.foldl (fun t n => ((List.range 16384).map (fun i =>
      (16384 * n + i, BitVec.ofNat 32 (bytesNat (m.range (area + offAcc + 65536 * n + 4 * i) 4))))).foldl
        (fun t (k, v) => put 0 t k v) t) ([] : Tab (BitVec 32))
  let kOf (f mask : Nat) : Nat := (match f with | 8 => 256 | 9 => 512 | 10 => 1024 | _ => 128) * popCount 4 mask / 4
  let plane (k f mask : Nat) (st : PState) : Plane :=
    { st := st, fmt := f, mask := mask, sparse := h.psparse.testBit k,
      kact := kOf f mask * (if h.psparse.testBit k then 2 else 1),
      data := bytesTab (m.range (area + offPlanes + 65536 * k) 65536),
      masks := if h.psparse.testBit k then bytesTab (m.range (area + offPlaneMasks + 32768 * k) 32768) else [] }
  let held (b : Nat) : Bool := (h.planes.testBit 0 && h.amask.testBit b) || (h.planes.testBit 1 && h.smask.testBit b)
  { mx with owner := some w, live := live, acc := acc, gated := mx.gated.filter (fun b => !held b),
            active := if h.planes.testBit 0 then plane 0 h.afmt h.amask .valid else Plane.none,
            shadow := if h.planes.testBit 1 then plane 1 h.sfmt h.smask (if loading then .loading else .valid)
                      else Plane.none }

/-- A latch restored: its header is read again when it next fetches (16 R363). -/
def restoreLatch (m : Memory) (area q : Nat) : Latch :=
  let b := m.word (area + offLatches + 16 * q)
  if b = 0 then Latch.none
  else { bound := true, chan := BitVec.ofNat 64 (b.toNat / 64 * 64), fmt := b.toNat % 16, pos := m.word (area + offLatches + 16 * q + 8),
         head := none, cause := none, logn := none }

/-- The registers of a save area (11 R260 step 7), over the tile groups that the strand already holds. -/
def restoreRegs (u : Strand) (m : Memory) (area : Nat) (x : Tab (BitVec 256)) : Regs :=
  let tabW (n : Nat) (f : Nat → Word) : Tab Word := (List.range n).foldr (fun i t => if f i = 0 then t else (i, f i) :: t) []
  { s := (tabW 64 (fun i => m.word (area + offScalars + 8 * i))).filter (fun (i, _) => i ≠ 0),
    v := u.regs.v, t := u.regs.t, x := x,
    h := (List.range 32).foldl (fun t i => put 0 t i (BitVec.ofNat 256 (bytesNat (m.range (area + offHandles + 32 * i) 32)))) [],
    m := tabW 8 (fun i => m.word (area + offMasks + 8 * i)),
    q := (List.range 8).foldl (fun t i => put Latch.none t i (restoreLatch m area i)) [],
    sr := readSpecials m (area + offSpecials), pr := u.regs.pr }

/-- Registers cleared when the incoming unit's context differs (01 R40, 05 R126). -/
def State.enterContext (s : State) (ctx : Nat) (w : UnitId) : State :=
  if s.u.own.ctx = ctx then s
  else
    let s1 := ((s.u.regs.t.filter (fun (_, g) => g.conf && g.dirty && decide (g.holder ≠ w))).map Prod.fst).foldl
      (fun s k => s.saveGroup k) s
    s1.modU (fun u => { u with regs := { Regs.reset with pr := u.regs.pr } })

/-- The DIRTY groups that other strands still hold for a unit are saved before it is restored elsewhere (05 R125, R127). -/
def State.gatherGroups (s : State) (w : UnitId) : State :=
  (s.strands.filter (fun u => (groupsOf u w) ≠ [])).foldl (fun s u =>
    s.at u.place (fun s =>
      let ks := groupsOf s.u w
      let s1 := (ks.filter (fun k => (s.u.group k).dirty)).foldl (fun s k => s.saveGroup k) s
      s1.modU (fun v => ks.foldl (fun v k => v.setGroup k { v.group k with conf := false, dirty := false }) v))) s

/-- A DIRTY group that the strand holds for another unit is saved before it is overwritten (05 R125). -/
def State.claimFor (s : State) (k : Nat) : State :=
  let g := s.u.group k
  if g.conf && g.dirty then s.saveGroup k else s

/-- The virtual function of a context (14 R300). -/
def State.vfOf (s : State) (ctx : Nat) : Word := match s.ctxOf ctx with | some c => BitVec.ofNat 64 c.vf | none => 0

/-- The tile groups that writes still to land will change. -/
def Flight.groups (f : Flight) : List Nat :=
  match f.dest with
  | .vector r => ((List.range' r (f.cnt + 1)).map (· / 16)).eraseDups
  | .shape t _ => [t]
  | _ => []

/-- RESUME (11 R260, R254) onto the strand in front of the unit saved as `sv`, up to its step 8. `r` is the first cycle in which it may
issue, and what its first period's WAIT counts from (02 R58). The slacks begin at 0, and the watchdog of a soft cause still pending at
PERIODMAX as it then stands (log 77). -/
def State.restore (s0 : State) (sv : Saved) : State :=
  let w := sv.who
  let s1 := (s0.gatherGroups w).enterContext sv.own.ctx w
  let area := sv.area
  let h := readAreaHeader s1.mem area
  let recs := areaRecords s1.mem area w
  let held := groupsOf s1.u w
  let back := (List.range 128).filter (fun k => h.tgconf.testBit k && h.tgsaved.testBit k && !held.contains k)
  let parked := sv.kept.queue ++ sv.kept.trap.ifq ++ sv.kept.trap.odd
  let soon := ((parked.flatMap Flight.groups).eraseDups).filter (fun k => !held.contains k && !back.contains k)
  let s2 := (back ++ soon).foldl State.claimFor (recs.foldl (fun s a => s.regrant area { a with expired := a.expired || sv.shed }) s1)
  let u0 := back.foldl (fun u k => restoreGroup u s2.mem area k w) s2.u
  let u1 := held.foldl (fun u k => u.setGroup k { u.group k with dirty := false }) u0
  let regs := restoreRegs u1 s2.mem area sv.extents
  let depth := if h.inHandler then sv.kept.trap.parkedLoops.length else (s2.mem.word (area + offSpecials + 8 * 0x12)).toNat
  let loops := ((List.range (min depth 6)).map (fun i => readLoop s2.mem (area + offLoops + 32 * i))).reverse
  let parsed := (List.range h.ifqn).map (fun i =>
    let f := readFlight ((List.range 154).map (fun k => s2.mem.word (area + offIfq + 1280 * i + 8 * k)))
    match (if h.inHandler then sv.kept.trap.ifq else sv.kept.queue)[i]? with
    | some g => { f with
        fault := g.fault, errs := g.errs, flags := g.flags, slot := g.slot, epc := g.epc, overtaken := g.overtaken,
        rowFlags := g.rowFlags, erred := g.erred }
    | none => f)
  let entry (i : Nat) : Nat := bytesNat (s2.mem.range (area + offProgress + 48 * i) 48)
  let kept (i : Nat) : Option MCmd := sv.kept.cmds[if bitOf (entry 0) 207 then i else i - 1]?
  let cmds := (List.range 16).filterMap (fun i =>
    (readProgress (entry i) i w { u1 with regs := regs } s2.now).map (fun c => match kept i with
      | some k => { c with sat := k.sat, flags := k.flags, running := k.running, hnd := k.hnd, hreg := k.hreg }
      | none => c))
  let loading := cmds.any (fun c => c.running && isLoadOp (mOp c.word) && c.next < 2)
  let cfg := BitVec.ofNat 64 (bitsAt (entry 0) 320 64)
  let pend : Option Held := if h.pendf then
      some ⟨⟨(s2.mem.word (area + offPending)).toNat, (s2.mem.word (area + offPending + 16)).toNat⟩,
        s2.mem.word (area + offPending + 8)⟩ else none
  let r := s2.now + 1
  let u2 : Strand := { u1 with
    who := w, st := .ready, privileged := false, pc := BitVec.ofNat 64 h.ridx, target := none,
    regs := { regs with pr := { u1.regs.pr with savebase := sv.savebase, ctxid := BitVec.ofNat 64 sv.own.ctx, vfunc := s2.vfOf sv.own.ctx } },
    loops := if h.inHandler then sv.kept.loops else loops, flights := if h.inHandler then sv.kept.queue else [], accs := [],
    trap := { Trapping.reset with
      inHandler := h.inHandler, first := h.inHandler && sv.kept.trap.first, parkedLoops := if h.inHandler then loops else [],
      ifq := parsed, odd := sv.kept.trap.odd, ridx := sv.kept.trap.ridx, lastiss := sv.kept.trap.lastiss, pend := pend, rlast := h.lastiss,
      soft := sv.kept.trap.soft, wdStart := s2.now, wdBound := regs.sr.periodmax.toNat },
    time := { Timing.reset with
      prevIssue := s2.now - h.lastiss, restore := r, notBefore := r, fresh := sv.kept.fresh, lastIssue := s2.now },
    own := { sv.own with placedAt := s2.now }, cfg := cfg }
  { s2 with
    u := u2,
    core := { s2.core with
      reserved := put 0 s2.core.reserved w.key (2 * sv.own.spadg),
      matrix := (if h.owner then
        let mx := restoreArray s2.core.matrix s2.mem area h w loading
        { mx with buf := cmds ++ mx.buf } else s2.core.matrix) },
    mem := s2.mem.lay area (headerBytes { h with valid := false }),
    work := { s2.work with saved := s2.work.saved.filter (fun x => decide (x.who ≠ w)) } }

/-- The end of a resume (11 R260 steps 9 and 10), when every member of its group stands on a strand: a pending fault is raised, and its stop
keeps the parked queue (R251); else the queue is re-injected. -/
def State.finishResume (s : State) : State :=
  let t := s.u.trap
  match t.pend with
  | some x => ((s.modU (fun u => u.modTrap (fun t => { t with pend := none }))).record s.now x.trap x.epc s.u.pc).deliver s.now x.trap
  | none =>
    if t.inHandler then (s.modU (fun u => { u with flights := [] })).reinjectAt s.u.flights (s.now + 1) t.rlast
    else (s.modU (fun u => u.modTrap (fun t => { t with ifq := [], odd := [] }))).reinjectAt (t.ifq ++ t.odd) (s.now + 1) t.rlast

end Sys2Proof.Machine
end

