-- ==== Sys2Proof/Machine/Check.lean ====
section
/-! DEFINITION. What an instruction reads and writes, and the checks before issue in the order of 03 R89: decoding, the
combinations, R22, R64, R56, R55, shapes, tags, and then the checks that an entry places before issue. -/

namespace Sys2Proof.Machine

/-- A range of cnt + 1 registers. -/
def rangeOf (r : BitVec 11) (cnt : BitVec 4) : List Nat := List.range' r.toNat (cnt.toNat + 1)

/-- The rows of a tile group from 0 on. -/
def rowsOf (t n : Nat) : List Nat := List.range' (16 * t) n

/-- The low six bits of a MEM r field, the scalar it names (03 R79). -/
def memR (f : MemF) : Nat := f.r.toNat % 64
def modScalar (f : CC) : Nat := f.md.toNat % 64

/-- Scalars an instruction reads (02 R50; 03 R73 to R84; 15 R321). -/
def sSources (i : Instr) : List Nat :=
  let two (a b : BitVec 6) : List Nat := [a.toNat, b.toNat]
  match i with
  | .add _ a b | .sub _ a b | .mul _ a b | .mulhiS _ a b | .mulhiU _ a b | .divS _ a b | .divU _ a b => two a b
  | .remS _ a b | .remU _ a b | .land _ a b | .lor _ a b | .lxor _ a b | .andn _ a b | .shl _ a b => two a b
  | .shr _ a b | .sar _ a b | .rotl _ a b | .minS _ a b | .minU _ a b | .maxS _ a b | .maxU _ a b => two a b
  | .cmpEq _ a b | .cmpNe _ a b | .cmpLt _ a b | .cmpLe _ a b | .cmpLtu _ a b | .cmpLeu _ a b => two a b
  | .crc32 _ a b => two a b
  | .cmpiEq _ a _ | .cmpiNe _ a _ | .cmpiLt _ a _ | .cmpiLe _ a _ | .cmpiLtu _ a _ | .cmpiLeu _ a _ => [a.toNat]
  | .addi _ a _ => [a.toNat]
  | .sel _ a b c => [a.toNat, b.toNat, c.toNat]
  | .lih d _ => [d.toNat]
  | .clz _ a | .popc _ a | .bitrev _ a => [a.toNat]
  | .extr _ a _ _ => [a.toNat]
  | .ins d a _ _ => two d a
  | .brZ a _ | .brNz a _ | .brLtz a _ | .brGez a _ => [a.toNat]
  | .ret => [63]
  | .loop a _ => [a.toNat]
  | .mtsr a _ | .setx a _ => [a.toNat]
  | .vscal f | .vfill f => [f.s.toNat]
  | .mcfg f | .mscl f => [f.sn.toNat]
  | .mlds f | .mldsT f | .mldsp f | .mstr f | .mstrT f | .mgrp f | .msps f | .mwra f | .mrda f | .mrds f => two f.sa f.sn
  | .mldsh f | .mstrh f => [f.sa.toNat]
  | .ldB f | .ldBu f | .ldH f | .ldHu f | .ldW f | .ldWu f | .ldD f | .vld f | .vldb f | .thdl f | .pld f => [f.b.toNat]
  | .take f | .peek f | .vst f | .lbf f => [f.b.toNat]
  | .vlds f | .ldb f | .vsts f | .putf f => two f.b f.o
  | .stB f | .stH f | .stW f | .stD f => [f.b.toNat, memR f]
  | .aadd f | .aminS f | .aminU f | .amaxS f | .amaxU f | .aand f | .aor f | .axor f | .aswp f => two f.b f.o
  | .afadd f | .afmin f | .afmax f => two f.b f.o
  | .acas f => [f.b.toNat, f.o.toNat, memR f]
  | .cpy f | .cpyt f | .cpya f | .cpys f | .cpyf f | .pref f => [f.sa.toNat, f.sd.toNat, f.sl.toNat]
  | .cpy2 f | .cpym f | .cpyk f | .cpyc f | .cpyg f => [f.sa.toNat, f.sd.toNat, f.sl.toNat, modScalar f]
  | .collRs f | .collAg f | .collAr f | .collBc f => [f.sa.toNat, f.sd.toNat, f.sl.toNat, modScalar f]
  | .spill f | .fill f => [f.sa.toNat]
  | .zfill f => [f.sd.toNat, f.sl.toNat]
  | .ownE sa sl | .ownP sa sl => two sa sl
  | .wchk _ sm => [sm.toNat]
  | .bar sa sn _ | .barc sa sn _ => two sa sn
  | .sig sa sv _ _ => two sa sv
  | .wsig sa sv _ _ _ | .wsiga sa sv _ _ _ => two sa sv
  | .tickw sv => [sv.toNat]
  | .alloc _ sz lf _ _ _ => two sz lf
  | .free sa | .renew sa | .mark sa _ | .hint sa => [sa.toNat]
  | .qbind _ sc _ => [sc.toNat]
  | _ => []

/-- Scalars an instruction writes, token registers among them (02 R53, R56). -/
def sDests (i : Instr) : List Nat :=
  match i with
  | .add d _ _ | .sub d _ _ | .mul d _ _ | .mulhiS d _ _ | .mulhiU d _ _ | .divS d _ _ | .divU d _ _ => [d.toNat]
  | .remS d _ _ | .remU d _ _ | .land d _ _ | .lor d _ _ | .lxor d _ _ | .andn d _ _ | .shl d _ _ => [d.toNat]
  | .shr d _ _ | .sar d _ _ | .rotl d _ _ | .minS d _ _ | .minU d _ _ | .maxS d _ _ | .maxU d _ _ => [d.toNat]
  | .cmpEq d _ _ | .cmpNe d _ _ | .cmpLt d _ _ | .cmpLe d _ _ | .cmpLtu d _ _ | .cmpLeu d _ _ => [d.toNat]
  | .crc32 d _ _ => [d.toNat]
  | .cmpiEq d _ _ | .cmpiNe d _ _ | .cmpiLt d _ _ | .cmpiLe d _ _ | .cmpiLtu d _ _ | .cmpiLeu d _ _ => [d.toNat]
  | .addi d _ _ | .sel d _ _ _ | .li d _ | .lih d _ | .clz d _ | .popc d _ | .bitrev d _ => [d.toNat]
  | .extr d _ _ _ | .ins d _ _ _ | .mfsr d _ | .getx d _ => [d.toNat]
  | .call _ => [63]
  | .ldB f | .ldBu f | .ldH f | .ldHu f | .ldW f | .ldWu f | .ldD f | .ldb f | .take f | .peek f => [memR f]
  | .aadd f | .aminS f | .aminU f | .amaxS f | .amaxU f | .aand f | .aor f | .axor f | .aswp f | .acas f => [memR f]
  | .afadd f | .afmin f | .afmax f => [memR f]
  | .cpyk f => [f.tok.toNat, modScalar f]
  | .cpy f | .cpy2 f | .cpyt f | .cpym f | .cpyc f | .cpya f | .cpyg f | .cpys f | .cpyf f | .pref f => [f.tok.toNat]
  | .collRs f | .collAg f | .collAr f | .collBc f | .spill f | .fill f | .zfill f => [f.tok.toNat]
  | .sig _ _ _ d | .wsig _ _ _ d _ | .wsiga _ _ _ d _ | .alloc d _ _ _ _ _ | .hibq d _ => [d.toNat]
  | _ => []

/-- The handle registers an instruction reads or writes. -/
def hUses (i : Instr) : List Nat :=
  match i with
  | .thdl f => [f.r.toNat % 32]
  | .tld f | .tst f => [f.h.toNat]
  | .mldsh f | .mstrh f => [f.h.toNat]
  | _ => []

/-- The M instruction that a CPYM carries, with its word in the mod scalar (08 R187). -/
def followOn (u : Strand) (i : Instr) : Option Instr :=
  match i with
  | .cpym f => (decodeFields .M (u.scalar (modScalar f))).toOption
  | _ => none

/-- The scalars and the handle registers that an instruction reads or uses at its issue: those of CPYM's M word among them, which
are captured then (08 R187). -/
def sReads (u : Strand) (i : Instr) : List Nat := sSources i ++ (match followOn u i with | some j => sSources j | none => [])
def hReads (u : Strand) (i : Instr) : List Nat := hUses i ++ (match followOn u i with | some j => hUses j | none => [])

/-- ROWS of a group, at least one row so that an unconfigured group is touched. -/
def Strand.tileRows (u : Strand) (t : Nat) : Nat := if u.configured t then (u.group t).rows else 1

/-- The rows that TLD and TST move (16 R377); none for an invalid handle. -/
def Strand.handleRows (u : Strand) (f : MemT) : Nat :=
  let h := readHandle (u.handle f.h.toNat)
  if h.valid then h.rows else 0

/-- The registers MRDA and MRDS write (16 R354): the rows of the tile, and the trailer. -/
def readOutRows (sa sn : Word) : List Nat :=
  let n := sn.toNat
  if 1 ≤ n && n ≤ 16 then rowsOf (bitsAt sa.toNat 0 7) n else []

/-- Vector registers an instruction reads (05 R112). -/
def vSources (u : Strand) (i : Instr) : List Nat :=
  match i with
  | .vcmpr f => rangeOf f.a f.cnt
  | .vcrc f => f.d.toNat :: rangeOf f.a f.cnt
  | .vscal f | .vbcs f | .vsld f => rangeOf f.a f.cnt
  | .tcrd t _ _ => rowsOf t.toNat (u.tileRows t.toNat)
  | .tcwr t v _ => v.toNat :: rowsOf t.toNat (u.tileRows t.toNat)
  | .ttrn _ ta => rowsOf ta.toNat (u.tileRows ta.toNat)
  | .vst f | .vsts f => [f.r.toNat]
  | .tst f => rowsOf f.t.toNat (u.handleRows f)
  | _ => match i.vrUse with
    | some (f, use) => rangeOf f.a f.cnt ++ (if use.b then rangeOf f.b f.cnt else []) ++
        (if use.c then rangeOf f.c f.cnt else [])
    | none => []

/-- Vector registers an instruction writes and that are touched (05 R112). -/
def vDests (u : Strand) (i : Instr) : List Nat :=
  match i with
  | .vqnt f => List.range' f.d.toNat (f.cnt.toNat + 2)
  | .vcmpr f => rangeOf f.d f.cnt ++ rangeOf f.b f.cnt
  | .tcsum f | .tcmax f | .vcrc f => [f.d.toNat]
  | .vscal f | .vfill f | .vbcs f | .vsld f => rangeOf f.d f.cnt
  | .tcrd _ v _ => [v.toNat]
  | .tcwr t _ _ => rowsOf t.toNat (u.tileRows t.toNat)
  | .vld f | .vlds f | .vldb f => [f.r.toNat]
  | .tld f => rowsOf f.t.toNat (u.handleRows f)
  | .mrda f => readOutRows (u.scalar f.sa.toNat) (u.scalar f.sn.toNat)
  | .mrds f => readOutRows (u.scalar f.sa.toNat) (u.scalar f.sn.toNat) ++ [bitsAt (u.scalar f.sa.toNat).toNat 21 11]
  | _ => match i.vrUse with
    | some (f, _) => rangeOf f.d f.cnt
    | none => []

/-- The destination ranges of 02 R56: a V-slot range is d to d + cnt, a tile its 16 registers. -/
def vNamed (u : Strand) (i : Instr) : List Nat :=
  match i with
  | .tcsum f | .tcmax f | .vcrc f => rangeOf f.d f.cnt
  | .tcwr t _ _ | .ttrn t _ | .tcfg t _ _ _ => rowsOf t.toNat 16
  | .tld f => rowsOf f.t.toNat 16
  | .mrda f => if (vDests u (.mrda f)).isEmpty then [] else rowsOf (bitsAt (u.scalar f.sa.toNat).toNat 0 7) 16
  | .mrds f => if (readOutRows (u.scalar f.sa.toNat) (u.scalar f.sn.toNat)).isEmpty then vDests u (.mrds f)
    else rowsOf (bitsAt (u.scalar f.sa.toNat).toNat 0 7) 16 ++ [bitsAt (u.scalar f.sa.toNat).toNat 21 11]
  | _ => vDests u i

/-- The registers an instruction writes, shaped anew ones among them (02 R53). -/
def vWrites (u : Strand) (i : Instr) : List Nat :=
  match i with
  | .ttrn t _ | .tcfg t _ _ _ => rowsOf t.toNat 16
  | _ => vDests u i

/-! The decode checks of one slot (03 R89). -/

/-- PrivilegedOp: RFT, SETX, GETX, and special numbers at or above 0x100 (03 R70). -/
def privilegedOp (i : Instr) : Bool :=
  match i with
  | .rft | .setx _ _ | .getx _ _ => true
  | .mfsr _ n | .mtsr _ n => 0x100 ≤ n.toNat
  | _ => false

/-- SpecialNumberValid with its code (03 R90). -/
def specialTrap (i : Instr) : Option Trap :=
  match i with
  | .mfsr _ n => if srAssigned n.toNat then none else some ⟨cILLEGAL, 0x39⟩
  | .mtsr _ n =>
    if !srAssigned n.toNat then some ⟨cILLEGAL, 0x39⟩
    else if srReadOnly n.toNat then some ⟨cILLEGAL, 0x38⟩ else none
  | _ => none

/-- The checks of an enabled slot after its opcode: must-be-zero bits, privilege, ranges, special numbers. -/
def slotTrap (priv : Bool) (slot : Nat) (i : Instr) : Option Trap :=
  if i.clean ≠ i then some ⟨cILLEGAL, 0x28 + slot⟩
  else if privilegedOp i && !priv then some ⟨cPRIV, 0x40 + slot⟩
  else if !i.inRange then some ⟨cILLEGAL, 0x30 + slot⟩
  else specialTrap i

/-! The combinations (03 R90, R91). -/

/-- Blocking instructions (02 R60). -/
def isBlocking (i : Instr) : Bool :=
  match i with
  | .take _ | .putf _ | .wsig _ _ _ _ _ | .wsiga _ _ _ _ _ | .tickw _ | .bar _ _ _ | .barc _ _ _ => true
  | _ => false

def isAlone (i : Instr) : Bool := match i with | .endUnit | .rft => true | _ => false
def isShaping (i : Instr) : Bool := match i with | .ttrn _ _ | .tcfg _ _ _ _ | .trel _ => true | _ => false

/-- CheckCombinations, in the order of the codes. -/
def comboTrap (u : Strand) (hdr : Header) (is : List Instr) : Option Trap :=
  let nb := (is.filter isBlocking).length
  if 1 < nb then some ⟨cILLEGAL_BUNDLE, 3⟩
  else if nb = 1 && !hdr.p then some ⟨cILLEGAL_BUNDLE, 4⟩
  else if (List.range 8).any (fun j => hdr.pop.testBit j && !(u.latch j).bound) then some ⟨cILLEGAL_BUNDLE, 6⟩
  else if is.any isAlone && 1 < is.length then some ⟨cILLEGAL_BUNDLE, 7⟩
  else if 1 < (is.filter isShaping).length then some ⟨cILLEGAL_BUNDLE, 8⟩
  else none

/-! R22, R64, R56, R55. -/

def isMatrix (i : Instr) : Bool := i.slotKind = some .M

/-- An M-slot instruction by a unit that is not the array owner (01 R22). -/
def ownerTrap (s : State) (is : List Instr) : Option Trap :=
  if is.any isMatrix && s.core.matrix.owner ≠ some s.u.who then some ⟨cILLEGAL, 1⟩ else none

/-- A bound latch register named as a destination (02 R64). -/
def latchTrap (u : Strand) (is : List Instr) : Option Trap :=
  if is.any (fun i => (vNamed u i).any u.isLatch) then some ⟨cILLEGAL, 2⟩ else none

/-- The least of a list. -/
def least : List Nat → Option Nat
  | [] => none
  | a :: r => some (r.foldl min a)

/-- A cause with the lowest of the failing registers and its class: 0 scalar, 1 vector (02 R55). Of a scalar and a vector register
of one number the scalar is reported: the spec does not rank the classes. DESIGN CHOICE (log 75). -/
def regTrap (cause : Nat) (scalars vectors : List Nat) : Option Trap :=
  match least scalars, least vectors with
  | none, none => none
  | some a, none => some ⟨cause, a % 2048⟩
  | none, some b => some ⟨cause, b % 2048 + 2048⟩
  | some a, some b => some ⟨cause, if a ≤ b then a % 2048 else b % 2048 + 2048⟩

/-- Registers that two of the lists share. -/
def sharedOf : List (List Nat) → List Nat
  | [] => []
  | a :: r => a.filter (fun x => r.any (fun b => b.contains x)) ++ sharedOf r

/-- COLLIDE when CHK bit 1 is set (02 R56). -/
def collideTrap (u : Strand) (is : List Instr) : Option Trap :=
  if u.regs.sr.chk.getLsbD 1 then
    regTrap cCOLLIDE (sharedOf (is.map sDests)) (sharedOf (is.map (vNamed u)))
  else none

/-- The register's last-issued fixed-latency write has not landed by this cycle (02 R55). -/
def Strand.unlanded (u : Strand) (now cls r : Nat) : Bool :=
  u.flights.any (fun f =>
    let (c, xs) := f.dest.regs (f.cnt + 1)
    c = cls && (xs.zipIdx).any (fun (x, j) => x = r && f.next ≤ j && !f.overtaken.contains j && now < f.rowAt j))

/-- STALL_SHORT when CHK bit 0 is set (02 R55). -/
def shortTrap (u : Strand) (now : Nat) (is : List Instr) : Option Trap :=
  if u.regs.sr.chk.getLsbD 0 then
    regTrap cSTALL_SHORT ((is.flatMap (sReads u)).filter (fun r => r ≠ 0 && u.unlanded now 0 r))
      ((is.flatMap (vSources u)).filter (fun r => !u.isLatch r && u.unlanded now 1 r))
  else none

/-! Shapes (05 R112). -/

/-- How a register fails its shape check. -/
def Strand.shapeBad (u : Strand) (r : Nat) : Option Nat :=
  if !u.configured (r / 16) then some 0 else if (u.group (r / 16)).rows ≤ r % 16 then some 1 else none

/-- The registers that a slot touches, bound latches among its sources exempt. -/
def touched (u : Strand) (i : Instr) : List Nat := (vSources u i).filter (fun r => !u.isLatch r) ++ vDests u i

/-- The accumulator an M-slot instruction names (05 R112, 16 R349). -/
def accNamed (i : Instr) : Option Nat :=
  match i with
  | .mscl f | .mstr f | .mstrT f | .mstrh f | .mgrp f | .msps f | .mza f | .mwra f | .mrda f | .mrds f => some f.acc.toNat
  | _ => none

/-- The lowest key of a list of candidates. -/
def lowest {α : Type} : List (Nat × α) → Option α
  | [] => none
  | (k, a) :: r => some (r.foldl (fun (m : Nat × α) x => if x.1 < m.1 then x else m) (k, a)).2

/-- TILE_UNCONF of the lowest failing register, or accumulator. Where both a register and an accumulator fail the register is
reported, and of a register that fails in two slots the lower slot: the spec ranks neither. DESIGN CHOICE (log 75). -/
def shapeTrap (u : Strand) (slots : List (Nat × Instr)) : Option Trap :=
  let regs := slots.flatMap (fun (k, i) => (touched u i).filterMap (fun r =>
    (u.shapeBad r).map (fun kind => (r, (⟨cTILE_UNCONF, r / 16 + 128 * (r % 16) + 2048 * kind + 8192 * k⟩ : Trap)))))
  let accs := slots.filterMap (fun (k, i) => (accNamed i).bind (fun a =>
    if u.own.nacc ≤ a then some (a, (⟨cTILE_UNCONF, a + 2048 * 2 + 8192 * k⟩ : Trap)) else none))
  (lowest regs).orElse (fun _ => lowest accs)

/-! Tags (05 R109). -/

/-- A tag requirement: the register, the tags accepted, and WANTED. -/
structure Need where
  reg : Nat
  ok : List Nat
  wanted : Nat
  deriving DecidableEq, Repr

def allTags : List Nat := [1, 2, 3, 4, 5, 6, 7, 8, 9, 10, 11, 12]

def needs (rs ok : List Nat) (wanted : Nat) : List Need := rs.map (fun r => ⟨r, ok, wanted⟩)

/-- The tags that each source of an instruction must carry, as its entry gives them. -/
def tagNeeds (u : Strand) (i : Instr) : List Need :=
  match i with
  | .vand f | .vor f | .vxor f => needs (rangeOf f.a f.cnt ++ rangeOf f.b f.cnt) [f.fmt.toNat, tagRaw] f.fmt.toNat
  | .vsel f => needs (rangeOf f.a f.cnt ++ rangeOf f.b f.cnt) [f.fmt.toNat, tagRaw] f.fmt.toNat ++
      needs (rangeOf f.c f.cnt) allTags f.fmt.toNat
  | .vclamp f => needs (rangeOf f.a f.cnt ++ rangeOf f.b f.cnt ++ rangeOf f.c f.cnt) [f.fmt.toNat, tagRaw] f.fmt.toNat
  | .vcvt f => needs (rangeOf f.a f.cnt) [1, 2, 3, 4, 5, 6, 7] f.fmt.toNat
  | .vqnt f => needs (rangeOf f.a f.cnt) ([1, 2, 3].filter (· = (u.vreg f.a.toNat).tag)) f.fmt.toNat
  | .vdqn f => needs (rangeOf f.a f.cnt) [8, 9, 10] f.fmt.toNat
  | .vcmpr f => needs (rangeOf f.a f.cnt) [f.fmt.toNat] f.fmt.toNat
  | .vmov f => needs (rangeOf f.a f.cnt) allTags 0
  | .vperm f => needs (rangeOf f.a f.cnt) allTags 0 ++ needs (rangeOf f.b f.cnt) [7, tagRaw] 0
  | .vzip f | .vunz f => needs (rangeOf f.a f.cnt) allTags 0 ++
      ((rangeOf f.a f.cnt).zip (rangeOf f.b f.cnt)).map (fun (a, b) =>
        ⟨b, [(u.vreg a).tag, tagRaw], (u.vreg a).tag⟩)
  | .vcrc f => needs (f.d.toNat :: rangeOf f.a f.cnt) allTags 0
  | .vscal f => needs (rangeOf f.a f.cnt) [1, 2, 3] 1
  | .vbcs f | .vsld f => needs (rangeOf f.a f.cnt) allTags 0
  | .tcrd t _ _ => needs (rowsOf t.toNat (u.tileRows t.toNat)) [(u.group t.toNat).gfmt, tagRaw] 0
  | .tcwr t v _ => needs [v.toNat] [(u.group t.toNat).gfmt, tagRaw] 0
  | .ttrn _ ta => needs (rowsOf ta.toNat (u.tileRows ta.toNat)) [(u.group ta.toNat).gfmt, tagRaw] 0
  | .tst f =>
    let h := readHandle (u.handle f.h.toNat)
    needs (rowsOf f.t.toNat (u.handleRows f)) [h.fmt] h.fmt
  | _ => match i.vrUse with
    | some (f, use) => needs (rangeOf f.a f.cnt ++ (if use.b then rangeOf f.b f.cnt else []) ++
        (if use.c then rangeOf f.c f.cnt else [])) [f.fmt.toNat] f.fmt.toNat
    | none => []

def formatInfo (reg found wanted slot : Nat) : Nat := reg + 2048 * found + 32768 * wanted + 524288 * slot

/-- FORMAT causes that entries add: TCFG of a BSE tag with a row below one block (05 R113), TTRN of a BSE or IDX group
(16 R379), and MRDA and MRDS of a tile of another format (08 R182). -/
def formatExtra (u : Strand) (slot : Nat) (i : Instr) : List (Nat × Trap) :=
  match i with
  | .tcfg t _ rowb fmt =>
    if isBse fmt.toNat && (rowb.toNat + 1) * 4 < bseBlock fmt.toNat then
      [(16 * t.toNat, ⟨cFORMAT, formatInfo (16 * t.toNat) 0 fmt.toNat slot⟩)] else []
  | .ttrn _ ta =>
    let g := (u.group ta.toNat).gfmt
    if isBse g || g = tagIdx then [(16 * ta.toNat, ⟨cFORMAT, formatInfo (16 * ta.toNat) g 0 slot⟩)] else []
  | .mrda f | .mrds f =>
    let t := bitsAt (u.scalar f.sa.toNat).toNat 0 7
    let g := (u.group t).gfmt
    if g ≠ f.fmt.toNat then [(16 * t, ⟨cFORMAT, formatInfo (16 * t) g f.fmt.toNat slot⟩)] else []
  | _ => []

/-- FORMAT of the lowest failing register (05 R109). Of a register that fails twice the first is reported: the lower slot, and there
what `formatExtra` lists before `tagNeeds`. The spec does not say which. DESIGN CHOICE (log 75). -/
def formatTrap (u : Strand) (slots : List (Nat × Instr)) : Option Trap :=
  lowest (slots.flatMap (fun (k, i) => formatExtra u k i ++ (tagNeeds u i).filterMap (fun n =>
    if n.ok.contains (u.vreg n.reg).tag then none
    else some (n.reg, (⟨cFORMAT, formatInfo n.reg (u.vreg n.reg).tag n.wanted k⟩ : Trap)))))

/-! Checks at run time that an entry places before issue. -/

/-- The first failing Check, then the first STALE or OWNER (15 R343, 17 R397). -/
def State.checkMany (s : State) (slot : Nat) (as : List (Word × Nat)) (k : AccKind) (log : Nat) (stale : Bool)
    (align : Option Trap) : Except Trap (List Span) :=
  let rs := as.map (fun (a, n) => s.check slot a n k log)
  match firstTrap (rs.map trapOf) with
  | some t => .error t
  | none => match align with
    | some t => .error t
    | none =>
      let sps := rs.filterMap Except.toOption
      match firstTrap (sps.map (fun sp => s.spanTrap slot sp k stale)) with
      | some t => .error t
      | none => .ok sps

/-- The addresses and sizes of the elements of a strided row (17 R397). -/
def State.rowElems (s : State) (f : MemF) : List (Word × Nat) :=
  let sh := s.u.rowShape f.r.toNat
  (List.range sh.k).map (fun i => (strideAddr (s.effAddr f) (s.S f.o) i, sh.u))

/-- ALIGN of a vector load or store: the address, or the stride, not a multiple of 4 (2 for BSE9) (17 R397). -/
def State.rowAlignTrap (s : State) (slot : Nat) (f : MemF) (strided wr : Bool) : Option Trap :=
  let a := s.effAddr f
  let log := rowAlign (s.u.rowShape f.r.toNat).fmt
  if pOff a % 2 ^ log ≠ 0 || (strided && (s.S f.o).toNat % 2 ^ log ≠ 0) then
    some ⟨cALIGN, memInfo (pXi a) log slot wr (pOff a)⟩ else none

/-- The spans of VLD, VLDS, VLDB, VST and VSTS. -/
def State.rowSpans (s : State) (slot : Nat) (f : MemF) (mode : Nat) (wr : Bool) : Except Trap (List Span) :=
  let sh := s.u.rowShape f.r.toNat
  let as := match mode with
    | 0 => [(s.effAddr f, sh.width)]
    | 1 => s.rowElems f
    | _ => [(s.effAddr f, sh.u)]
  s.checkMany slot as (if wr then kWrite else kRead) 0 (!wr) (s.rowAlignTrap slot f (mode = 1) wr)

/-- The rows of a tile in memory, and its trailer (16 R377, 07 R169). -/
def tileSpans (h : Handle) : List (Word × Nat) :=
  (List.range h.rows).map (fun j => (mkPaddr (pSpace h.addr) (pXi h.addr) (pOff h.addr + j * h.stride), h.rowb)) ++
    (if h.trl then [(mkPaddr (pSpace h.addr) (pXi h.addr) (trailerOff h), 16)] else [])

def State.tilePlan (s : State) (slot : Nat) (f : MemT) (wr : Bool) : Except Trap (List Span) :=
  let h := readHandle (s.u.handle f.h.toNat)
  if !h.valid || s.u.rowb (16 * f.t.toNat) < h.rowb then .error ⟨cILLEGAL, if wr then 0x35 else 0x34⟩
  else s.checkMany slot (tileSpans h) (if wr then kWrite else kRead) 0 (!wr)
    ((tileSpans h).foldl (fun (acc : Option Trap) (a, _) => acc.orElse (fun _ =>
      alignFault slot (pXi a) (pOff a) (rowAlign h.fmt) wr)) none)

/-- The chunks of OWN.E and OWN.P, or their fault (16 R358), whose EINFO.WRITE is 1. DESIGN CHOICE (log 97). -/
def State.ownSpan (s : State) (sa sl : Word) : Except Trap Span :=
  if pSpace sa ≠ 0 then .error ⟨cILLEGAL, 0x37⟩
  else if sl = 0 then .ok ⟨0, 0, pOff sa, 0, [], none, false, 0, 0⟩
  else if pXi sa ≠ 0 then .error ⟨cSPAD_BOUNDS, memInfo 0 1 7 true (pOff sa)⟩
  else match s.core.allocAt s.u.who (pOff sa) with
    | none => .error ⟨cSPAD_BOUNDS, memInfo 0 0 7 true (pOff sa)⟩
    | some a =>
      if pOff sa + sl.toNat ≤ a.hi then
        .ok ⟨0, 0, pOff sa, sl.toNat, (List.range ((pOff sa % 512 + sl.toNat + 511) / 512)).map
          (fun k => a.home s.core.index (pOff sa - pOff sa % 512 + 512 * k)), none, false, 0, 0⟩
      else .error ⟨cSPAD_BOUNDS, memInfo 0 0 7 true a.hi⟩

/-- Pushing a loop level (15 R344). -/
def State.loopTrap (s : State) (count : Word) (len : BitVec 16) : Option Trap :=
  let out := match s.u.loops with
    | [] => false
    | top :: _ => decide (top.start.toNat + top.len.toNat - 1 < s.u.pc.toNat + len.toNat)
  if out then some ⟨cILLEGAL, 0x30⟩
  else if count ≠ 0 && s.u.loops.length = 6 then some ⟨cLOOP_OVF, 0⟩ else none

/-- The span of a scalar access of n = 2^log bytes. -/
def State.memSpan (s : State) (slot : Nat) (f : MemF) (log : Nat) (k : AccKind) (stale : Bool) : Except Trap Span :=
  s.checkAll slot (s.effAddr f) (2 ^ log) k log stale

/-- The span of an operand named by a scalar in the Y slot. -/
def State.sigSpan (s : State) (sa : Word) (k : AccKind) : Except Trap Span := s.checkAll 7 sa 8 k 3 true

/-- XI of an EINFO: the extent or window entry of an address, 0 for LOC and DIE (07 R152). -/
def infoXi (pa : Word) : Nat := if pSpace pa = 1 || pSpace pa = 3 then pXi pa else 0

/-- The renewal of an allocation (07 R159). EINFO.WRITE of a fault by RENEW or FREE is 0. DESIGN CHOICE (log 97). -/
def State.renewTrap (s : State) (pa : Word) : Option Trap :=
  match s.core.allocBase s.u.who pa with
  | none => some ⟨cSPAD_BOUNDS, memInfo (infoXi pa) 4 7 false (pOff pa)⟩
  | some a =>
    if a.isExpired s.now then some ⟨cSTALE, memInfo 0 1 7 false (pOff pa)⟩
    else if a.expiry ≤ s.now + 4 * a.size then some ⟨cSTALE, memInfo 0 2 7 false (pOff pa)⟩ else none

/-- The check that an instruction's entry makes before issue. -/
def State.entryTrap (s : State) (slot : Nat) (i : Instr) : Option Trap :=
  match i with
  | .loop a len => s.loopTrap (s.S a) len
  | .loopi imm len => s.loopTrap (imm.setWidth 64) len
  | .lbrk => if s.u.loops = [] then some ⟨cILLEGAL, 0x30⟩ else none
  | .rft => if (readAreaHeader s.mem (areaOf s.u.regs.pr.savebase)).valid then none else some ⟨cILLEGAL, 0x30⟩
  | .vqnt f =>
    let fs := (s.u.vreg f.a.toNat).tag
    let p := 64 / tagBytes fs / 16 * bseBlock f.fmt.toNat
    if s.u.rowb (f.d.toNat + f.cnt.toNat + 1) < 16 || (rangeOf f.d f.cnt).any (fun r => s.u.rowb r < p) then
      some ⟨cILLEGAL, 0x30 + slot⟩ else none
  | .ttrn _ ta =>
    let g := s.u.group ta.toNat
    let e := if g.gfmt = 11 then 4 else tagBytes g.gfmt
    if 16 < g.rowb / e then some ⟨cILLEGAL, 0x30 + slot⟩ else none
  | .ldB f | .ldBu f => trapOf (s.memSpan slot f 0 kRead true)
  | .ldH f | .ldHu f => trapOf (s.memSpan slot f 1 kRead true)
  | .ldW f | .ldWu f => trapOf (s.memSpan slot f 2 kRead true)
  | .ldD f => trapOf (s.memSpan slot f 3 kRead true)
  | .peek f => trapOf (s.memSpan slot f 3 kRead true)
  | .thdl f => trapOf (s.memSpan slot f 5 kRead true)
  | .take f | .putf f => trapOf (s.memSpan slot f 3 kBoth true)
  | .stB f => trapOf (s.memSpan slot f 0 kWrite false)
  | .stH f => trapOf (s.memSpan slot f 1 kWrite false)
  | .stW f => trapOf (s.memSpan slot f 2 kWrite false)
  | .stD f => trapOf (s.memSpan slot f 3 kWrite false)
  | .aadd f | .aminS f | .aminU f | .amaxS f | .amaxU f | .aand f | .aor f => trapOf (s.memSpan slot f 3 kBoth true)
  | .axor f | .aswp f | .acas f | .afadd f | .afmin f | .afmax f => trapOf (s.memSpan slot f 3 kBoth true)
  | .vld f => trapOf (s.rowSpans slot f 0 false)
  | .vlds f => trapOf (s.rowSpans slot f 1 false)
  | .vldb f => trapOf (s.rowSpans slot f 2 false)
  | .vst f => trapOf (s.rowSpans slot f 0 true)
  | .vsts f => trapOf (s.rowSpans slot f 1 true)
  | .tld f => trapOf (s.tilePlan slot f false)
  | .tst f => trapOf (s.tilePlan slot f true)
  | .ldb f =>
    let n := (s.S f.o).toNat
    if n = 0 || 64 < n then none else trapOf (s.check slot (s.effAddr f) (64 * n) kRead 6)
  | .lbf f => alignFault slot (pXi (s.effAddr f)) (pOff (s.effAddr f)) 6 true
  | .ownE sa sl | .ownP sa sl => trapOf (s.ownSpan (s.S sa) (s.S sl))
  | .bar sa _ _ | .barc sa _ _ => trapOf (s.sigSpan (s.S sa) kBoth)
  | .sig sa _ _ _ => trapOf (s.sigSpan (s.S sa) kBoth)
  | .wsig sa _ _ _ _ | .wsiga sa _ _ _ _ => trapOf (s.sigSpan (s.S sa) kRead)
  | .renew sa => s.renewTrap (s.S sa)
  | .free sa => match s.core.allocBase s.u.who (s.S sa) with
    | none => some ⟨cSPAD_BOUNDS, memInfo (infoXi (s.S sa)) 4 7 false (pOff (s.S sa))⟩
    | some _ => none
  | _ => none

/-- The cause that a latch has recorded, raised by the next bundle that reads or pops it (16 R363). -/
def latchCause (u : Strand) (hdr : Header) (is : List Instr) : Option Trap :=
  firstTrap ((List.range 8).map (fun j =>
    if (hdr.pop.testBit j || is.any (fun i => (vSources u i).contains (2040 + j))) && (u.latch j).bound
    then (u.latch j).cause else none))

/-- All checks of a bundle's enabled slots, in order (03 R89): the first cause. -/
def State.bundleTrap (s : State) (slots : List (Nat × Instr)) : Option Trap :=
  let is := slots.map Prod.snd
  firstTrap
    (slots.map (fun (k, i) => slotTrap s.u.privileged k i) ++
     [comboTrap s.u s.hdr is, ownerTrap s is, latchTrap s.u is, collideTrap s.u is, shortTrap s.u s.now is,
      shapeTrap s.u slots, formatTrap s.u slots, latchCause s.u s.hdr is] ++
     slots.map (fun (k, i) => s.entryTrap k i))

/-- An instruction that issues: its checks, unless the bundle's have been made, then its effect. A cause raised before
issue is taken as an exception (11 R245). -/
def State.issue (s : State) (i : Instr) (eff : State → State) : Host.Outcome State Fault Refusal :=
  .next (if s.checked then eff s
    else match s.bundleTrap [(s.slotFor i, i)] with
      | some t => s.trapBefore t
      | none => eff s)

end Sys2Proof.Machine
end

