-- ==== Sys2Proof/Machine/Scalar.lean ====
section
/-! DEFINITION. The scalar instructions of the S slot (15 R321, R327, R333, R334; 16 R348; 06 R137). -/

namespace Sys2Proof.Machine

/-- The result of a compare: 1 or 0 (15 R327). -/
def flagWord (b : Bool) : Word := if b then 1 else 0

/-- imm32 sign-extended (03 R72). -/
def sext32 (imm : BitVec 32) : Word := imm.signExtend 64

/-- The exact signed and unsigned high products (06 R137). -/
def mulHighS (a b : Word) : Word := BitVec.ofInt 64 (a.toInt * b.toInt / 2 ^ 64)
def mulHighU (a b : Word) : Word := BitVec.ofNat 64 (a.toNat * b.toNat / 2 ^ 64)

/-- Quotient and remainder toward zero (06 R137); −2^63 by −1 gives −2^63 and 0. -/
def quotS (a b : Word) : Word := BitVec.ofInt 64 (a.toInt.tdiv b.toInt)
def quotU (a b : Word) : Word := BitVec.ofNat 64 (a.toNat / b.toNat)
def remSigned (a b : Word) : Word := BitVec.ofInt 64 (a.toInt.tmod b.toInt)
def remUnsigned (a b : Word) : Word := BitVec.ofNat 64 (a.toNat % b.toNat)

/-- A shift count: the low six bits (06 R137). -/
def shiftCount (b : Word) : Nat := b.toNat % 64

/-- The field of EXTR and INS: len + 1 bits at pos (15 R321). -/
def fieldMask (len : BitVec 6) : Word := BitVec.ofNat 64 (2 ^ (len.toNat + 1) - 1)
def extractField (a : Word) (pos len : BitVec 6) : Word := (a >>> pos.toNat) &&& fieldMask len
def insertField (d a : Word) (pos len : BitVec 6) : Word :=
  (d &&& ~~~(fieldMask len <<< pos.toNat)) ||| ((a &&& fieldMask len) <<< pos.toNat)

/-- CRC32 over the eight bytes of b (15 R333). -/
def crcWord (a b : Word) : Word := (crcBytes (a.setWidth 32) (wordBytes b)).setWidth 64

/-- The core's divider taken for 18 cycles; a zero divisor writes nothing and raises DIVZERO at landing (02 R51, 15
R334). -/
def State.divide (s : State) (d : BitVec 6) (v : Word) (zero : Bool) : State :=
  let s1 := s.sched 0 (.scalar d.toNat) 18 [⟨v.setWidth 512, 0⟩] false 0 d.toNat
  (s1.lastFlight (fun f => { f with
    div := true, fault := if zero then some ⟨cDIVZERO, d.toNat⟩ else none })).modCore (fun c => { c with divUntil := s.now + 18 })

/-- ADD (15 R321), latency 1. -/
def execAdd (d a b : BitVec 6) (s : State) : Host.Outcome State Fault Refusal :=
  s.issue (.add d a b) (fun s => s.landS 0 d (s.S a + s.S b) 1)

/-- SUB (16 R348), latency 1. -/
def execSub (d a b : BitVec 6) (s : State) : Host.Outcome State Fault Refusal :=
  s.issue (.sub d a b) (fun s => s.landS 0 d (s.S a - s.S b) 1)

/-- MUL (16 R348), latency 3. -/
def execMul (d a b : BitVec 6) (s : State) : Host.Outcome State Fault Refusal :=
  s.issue (.mul d a b) (fun s => s.landS 0 d (s.S a * s.S b) 3)

/-- MULHI.S (16 R348), latency 3. -/
def execMulhiS (d a b : BitVec 6) (s : State) : Host.Outcome State Fault Refusal :=
  s.issue (.mulhiS d a b) (fun s => s.landS 0 d (mulHighS (s.S a) (s.S b)) 3)

/-- MULHI.U (16 R348), latency 3. -/
def execMulhiU (d a b : BitVec 6) (s : State) : Host.Outcome State Fault Refusal :=
  s.issue (.mulhiU d a b) (fun s => s.landS 0 d (mulHighU (s.S a) (s.S b)) 3)

/-- AND (15 R321), latency 1. -/
def execLand (d a b : BitVec 6) (s : State) : Host.Outcome State Fault Refusal :=
  s.issue (.land d a b) (fun s => s.landS 0 d (s.S a &&& s.S b) 1)

/-- OR (16 R348), latency 1. -/
def execLor (d a b : BitVec 6) (s : State) : Host.Outcome State Fault Refusal :=
  s.issue (.lor d a b) (fun s => s.landS 0 d (s.S a ||| s.S b) 1)

/-- XOR (17 R405), latency 1. -/
def execLxor (d a b : BitVec 6) (s : State) : Host.Outcome State Fault Refusal :=
  s.issue (.lxor d a b) (fun s => s.landS 0 d (s.S a ^^^ s.S b) 1)

/-- ANDN (15 R321), latency 1. -/
def execAndn (d a b : BitVec 6) (s : State) : Host.Outcome State Fault Refusal :=
  s.issue (.andn d a b) (fun s => s.landS 0 d (s.S a &&& ~~~s.S b) 1)

/-- SHL (16 R348), latency 1. -/
def execShl (d a b : BitVec 6) (s : State) : Host.Outcome State Fault Refusal :=
  s.issue (.shl d a b) (fun s => s.landS 0 d (s.S a <<< shiftCount (s.S b)) 1)

/-- SHR (16 R348), latency 1. -/
def execShr (d a b : BitVec 6) (s : State) : Host.Outcome State Fault Refusal :=
  s.issue (.shr d a b) (fun s => s.landS 0 d (s.S a >>> shiftCount (s.S b)) 1)

/-- SAR (16 R348), latency 1. -/
def execSar (d a b : BitVec 6) (s : State) : Host.Outcome State Fault Refusal :=
  s.issue (.sar d a b) (fun s => s.landS 0 d ((s.S a).sshiftRight (shiftCount (s.S b))) 1)

/-- ROTL (16 R348), latency 1. -/
def execRotl (d a b : BitVec 6) (s : State) : Host.Outcome State Fault Refusal :=
  s.issue (.rotl d a b) (fun s => s.landS 0 d ((s.S a).rotateLeft (shiftCount (s.S b))) 1)

/-- MIN.S (16 R348), latency 1. -/
def execMinS (d a b : BitVec 6) (s : State) : Host.Outcome State Fault Refusal :=
  s.issue (.minS d a b) (fun s => s.landS 0 d (if (s.S a).sle (s.S b) then s.S a else s.S b) 1)

/-- MIN.U (16 R348), latency 1. -/
def execMinU (d a b : BitVec 6) (s : State) : Host.Outcome State Fault Refusal :=
  s.issue (.minU d a b) (fun s => s.landS 0 d (if (s.S a).ule (s.S b) then s.S a else s.S b) 1)

/-- MAX.S (16 R348), latency 1. -/
def execMaxS (d a b : BitVec 6) (s : State) : Host.Outcome State Fault Refusal :=
  s.issue (.maxS d a b) (fun s => s.landS 0 d (if (s.S a).sle (s.S b) then s.S b else s.S a) 1)

/-- MAX.U (16 R348), latency 1. -/
def execMaxU (d a b : BitVec 6) (s : State) : Host.Outcome State Fault Refusal :=
  s.issue (.maxU d a b) (fun s => s.landS 0 d (if (s.S a).ule (s.S b) then s.S b else s.S a) 1)

/-- CMP.EQ (15 R327), latency 1. -/
def execCmpEq (d a b : BitVec 6) (s : State) : Host.Outcome State Fault Refusal :=
  s.issue (.cmpEq d a b) (fun s => s.landS 0 d (flagWord (s.S a == s.S b)) 1)

/-- CMP.NE (15 R327), latency 1. -/
def execCmpNe (d a b : BitVec 6) (s : State) : Host.Outcome State Fault Refusal :=
  s.issue (.cmpNe d a b) (fun s => s.landS 0 d (flagWord (s.S a != s.S b)) 1)

/-- CMP.LT (15 R327), latency 1. -/
def execCmpLt (d a b : BitVec 6) (s : State) : Host.Outcome State Fault Refusal :=
  s.issue (.cmpLt d a b) (fun s => s.landS 0 d (flagWord ((s.S a).slt (s.S b))) 1)

/-- CMP.LE (15 R327), latency 1. -/
def execCmpLe (d a b : BitVec 6) (s : State) : Host.Outcome State Fault Refusal :=
  s.issue (.cmpLe d a b) (fun s => s.landS 0 d (flagWord ((s.S a).sle (s.S b))) 1)

/-- CMP.LTU (15 R327), latency 1. -/
def execCmpLtu (d a b : BitVec 6) (s : State) : Host.Outcome State Fault Refusal :=
  s.issue (.cmpLtu d a b) (fun s => s.landS 0 d (flagWord ((s.S a).ult (s.S b))) 1)

/-- CMP.LEU (15 R327), latency 1. -/
def execCmpLeu (d a b : BitVec 6) (s : State) : Host.Outcome State Fault Refusal :=
  s.issue (.cmpLeu d a b) (fun s => s.landS 0 d (flagWord ((s.S a).ule (s.S b))) 1)

/-- CMPI.EQ (15 R327), latency 1. -/
def execCmpiEq (d a : BitVec 6) (imm : BitVec 32) (s : State) : Host.Outcome State Fault Refusal :=
  s.issue (.cmpiEq d a imm) (fun s => s.landS 0 d (flagWord (s.S a == sext32 imm)) 1)

/-- CMPI.NE (15 R327), latency 1. -/
def execCmpiNe (d a : BitVec 6) (imm : BitVec 32) (s : State) : Host.Outcome State Fault Refusal :=
  s.issue (.cmpiNe d a imm) (fun s => s.landS 0 d (flagWord (s.S a != sext32 imm)) 1)

/-- CMPI.LT (15 R327), latency 1. -/
def execCmpiLt (d a : BitVec 6) (imm : BitVec 32) (s : State) : Host.Outcome State Fault Refusal :=
  s.issue (.cmpiLt d a imm) (fun s => s.landS 0 d (flagWord ((s.S a).slt (sext32 imm))) 1)

/-- CMPI.LE (15 R327), latency 1. -/
def execCmpiLe (d a : BitVec 6) (imm : BitVec 32) (s : State) : Host.Outcome State Fault Refusal :=
  s.issue (.cmpiLe d a imm) (fun s => s.landS 0 d (flagWord ((s.S a).sle (sext32 imm))) 1)

/-- CMPI.LTU (15 R327), latency 1. -/
def execCmpiLtu (d a : BitVec 6) (imm : BitVec 32) (s : State) : Host.Outcome State Fault Refusal :=
  s.issue (.cmpiLtu d a imm) (fun s => s.landS 0 d (flagWord ((s.S a).ult (sext32 imm))) 1)

/-- CMPI.LEU (15 R327), latency 1. -/
def execCmpiLeu (d a : BitVec 6) (imm : BitVec 32) (s : State) : Host.Outcome State Fault Refusal :=
  s.issue (.cmpiLeu d a imm) (fun s => s.landS 0 d (flagWord ((s.S a).ule (sext32 imm))) 1)

/-- SEL (16 R348), latency 1. -/
def execSel (d a b c : BitVec 6) (s : State) : Host.Outcome State Fault Refusal :=
  s.issue (.sel d a b c) (fun s => s.landS 0 d (if s.S c = 0 then s.S b else s.S a) 1)

/-- ADDI (15 R321), latency 1. -/
def execAddi (d a : BitVec 6) (imm : BitVec 32) (s : State) : Host.Outcome State Fault Refusal :=
  s.issue (.addi d a imm) (fun s => s.landS 0 d (s.S a + sext32 imm) 1)

/-- LI (15 R321), latency 1. -/
def execLi (d : BitVec 6) (imm : BitVec 32) (s : State) : Host.Outcome State Fault Refusal :=
  s.issue (.li d imm) (fun s => s.landS 0 d (sext32 imm) 1)

/-- LIH (15 R321), latency 1. -/
def execLih (d : BitVec 6) (imm : BitVec 32) (s : State) : Host.Outcome State Fault Refusal :=
  s.issue (.lih d imm) (fun s => s.landS 0 d (imm ++ (s.S d).extractLsb' 0 32) 1)

/-- CLZ (15 R321), latency 1. -/
def execClz (d a : BitVec 6) (s : State) : Host.Outcome State Fault Refusal :=
  s.issue (.clz d a) (fun s => s.landS 0 d (BitVec.ofNat 64 (leadZeros 64 (s.S a).toNat)) 1)

/-- POPC (16 R348), latency 1. -/
def execPopc (d a : BitVec 6) (s : State) : Host.Outcome State Fault Refusal :=
  s.issue (.popc d a) (fun s => s.landS 0 d (BitVec.ofNat 64 (popCount 64 (s.S a).toNat)) 1)

/-- BITREV (15 R321), latency 1. -/
def execBitrev (d a : BitVec 6) (s : State) : Host.Outcome State Fault Refusal :=
  s.issue (.bitrev d a) (fun s => s.landS 0 d (bitrev64 (s.S a)) 1)

/-- CRC32 (15 R333), latency 2. -/
def execCrc32 (d a b : BitVec 6) (s : State) : Host.Outcome State Fault Refusal :=
  s.issue (.crc32 d a b) (fun s => s.landS 0 d (crcWord (s.S a) (s.S b)) 2)

/-- EXTR (15 R321), latency 1. -/
def execExtr (d a pos len : BitVec 6) (s : State) : Host.Outcome State Fault Refusal :=
  s.issue (.extr d a pos len) (fun s => s.landS 0 d (extractField (s.S a) pos len) 1)

/-- INS (15 R321), latency 1. -/
def execIns (d a pos len : BitVec 6) (s : State) : Host.Outcome State Fault Refusal :=
  s.issue (.ins d a pos len) (fun s => s.landS 0 d (insertField (s.S d) (s.S a) pos len) 1)

/-- DIV.S (15 R334), latency 18 on the core's divider. -/
def execDivS (d a b : BitVec 6) (s : State) : Host.Outcome State Fault Refusal :=
  s.issue (.divS d a b) (fun s => s.divide d (quotS (s.S a) (s.S b)) (s.S b = 0))

/-- DIV.U (15 R334), latency 18 on the core's divider. -/
def execDivU (d a b : BitVec 6) (s : State) : Host.Outcome State Fault Refusal :=
  s.issue (.divU d a b) (fun s => s.divide d (quotU (s.S a) (s.S b)) (s.S b = 0))

/-- REM.S (16 R348), latency 18 on the core's divider. -/
def execRemS (d a b : BitVec 6) (s : State) : Host.Outcome State Fault Refusal :=
  s.issue (.remS d a b) (fun s => s.divide d (remSigned (s.S a) (s.S b)) (s.S b = 0))

/-- REM.U (16 R348), latency 18 on the core's divider. -/
def execRemU (d a b : BitVec 6) (s : State) : Host.Outcome State Fault Refusal :=
  s.issue (.remU d a b) (fun s => s.divide d (remUnsigned (s.S a) (s.S b)) (s.S b = 0))

end Sys2Proof.Machine
end

