-- ==== Sys2Proof/Machine/Control.lean ====
section
/-! DEFINITION. Control flow and the loop stack (15 R324, R325, R344 to R346; 16 R365), the special registers (16 R356,
R367; 15 R338), SLACK (16 R369), TRAP (16 R378), END (15 R335), RFT (11 R254), and the end of a bundle (02 R48, R49,
R65). -/

namespace Sys2Proof.Machine

/-- The back-edge rule at index p (15 R345): the stack, innermost level first, and the next index. -/
def backEdge (p : Nat) : List Loop → Nat → List Loop × Nat
  | [], next => ([], next)
  | top :: r, next =>
    if p = top.start.toNat + top.len.toNat - 1 then
      (if top.index.toNat + 1 < top.count.toNat then (⟨top.start, top.len, top.count, top.index + 1⟩ :: r, top.start.toNat)
       else backEdge p r (p + 1))
    else (top :: r, next)

/-- Levels that a transfer to `t` leaves are popped (15 R325). -/
def popLevels (t : Nat) : List Loop → List Loop
  | [] => []
  | top :: r => if top.start.toNat ≤ t && t ≤ top.start.toNat + top.len.toNat - 1 then top :: r else popLevels t r

/-- A transfer to `t`: it names the next bundle (02 R49). -/
def State.goto (s : State) (t : Word) : State := s.modU (fun u => { u with target := some t })

/-- PC + SignExtend(off26, 26) (15 R324). -/
def State.relTarget (s : State) (off : BitVec 26) : Word := s.u.pc + off.signExtend 64

/-- A taken branch or JMP (15 R325). -/
def State.jump (s : State) (t : Word) : State :=
  (s.goto t).modU (fun u => { u with loops := popLevels t.toNat u.loops })

/-- LOOP and LOOPI (15 R344). -/
def State.pushLoop (s : State) (count : Word) (len : BitVec 16) : State :=
  if count = 0 then
    let p := s.u.pc.toNat + len.toNat
    let (l, n) := backEdge p s.u.loops (p + 1)
    (s.goto (BitVec.ofNat 64 n)).modU (fun u => { u with loops := l })
  else
    (s.goto (s.u.pc + 1)).modU (fun u => { u with loops := ⟨(s.u.pc + 1).setWidth 52, len, count, 0⟩ :: u.loops })

/-- One latch advanced at the end of a bundle (02 R65, 16 R363): POS increases and POPPED is written at the home, as a
store of class 0. A store that fails its check records the cause in the latch. Its service class is 1 and it has no deadline: 07 R170's
table does not list it. DESIGN CHOICE (log 98). A QBIND of the same bundle has bound the latch before
(DESIGN CHOICE, log 82). -/
def State.popLatch (s : State) (j : Nat) : State :=
  let l := s.u.latch j
  if !l.bound then s
  else
    let pos := l.pos + 1
    match s.checkAll 7 (l.chan + 8) 8 kWrite 3 false with
    | .error t => s.modU (fun u => u.setLatch j { l with pos := pos, head := none, cause := some t })
    | .ok sp =>
      s.modU (fun u => { (u.setLatch j { l with pos := pos, head := none }) with
        accs := u.accs ++ [{ act := .popped j pos, cls := 0, spans := [sp], slot := 7, epc := u.pc, svc := 1,
                             issued := s.now, deadline := 0, aged := false, blks := [], part := [] }] })

/-- The end of a bundle that has issued: pops, the next index by a transfer or by the back-edge rule, and the issue
cycle that the next WAIT counts from (02 R48, R49, R52; 15 R345). -/
def State.finish (s0 : State) : State :=
  let s := ((List.range 8).filter (fun j => s0.hdr.pop.testBit j)).foldl State.popLatch s0
  let u := s.u
  let (l, n) := match u.target with
    | some t => (u.loops, t)
    | none =>
      let r := backEdge u.pc.toNat u.loops (u.pc.toNat + 1)
      (r.1, BitVec.ofNat 64 r.2)
  { s with
    u := { u with
      pc := n, target := none, loops := l, st := if u.st = .ready || u.st = .blocked then .running else u.st,
      time := { u.time with prevIssue := s.now, lastIssue := s.now, lastPc := u.pc, fresh := false },
      trap := { u.trap with first := false } } }

/-- BR.Z (15 R324). -/
def execBrZ (a : BitVec 6) (off : BitVec 26) (s : State) : Host.Outcome State Fault Refusal :=
  s.issue (.brZ a off) (fun s => if s.S a = 0 then s.jump (s.relTarget off) else s)

/-- BR.NZ (15 R324). -/
def execBrNz (a : BitVec 6) (off : BitVec 26) (s : State) : Host.Outcome State Fault Refusal :=
  s.issue (.brNz a off) (fun s => if s.S a = 0 then s else s.jump (s.relTarget off))

/-- BR.LTZ (15 R324). -/
def execBrLtz (a : BitVec 6) (off : BitVec 26) (s : State) : Host.Outcome State Fault Refusal :=
  s.issue (.brLtz a off) (fun s => if (s.S a).slt 0 then s.jump (s.relTarget off) else s)

/-- BR.GEZ (15 R324). -/
def execBrGez (a : BitVec 6) (off : BitVec 26) (s : State) : Host.Outcome State Fault Refusal :=
  s.issue (.brGez a off) (fun s => if (s.S a).slt 0 then s else s.jump (s.relTarget off))

/-- JMP (15 R324, R325). -/
def execJmp (off : BitVec 26) (s : State) : Host.Outcome State Fault Refusal :=
  s.issue (.jmp off) (fun s => s.jump (s.relTarget off))

/-- CALL (15 R324): s63 receives the index of the bundle after the CALL; no level is popped. -/
def execCall (off : BitVec 26) (s : State) : Host.Outcome State Fault Refusal :=
  s.issue (.call off) (fun s => (s.landS 0 63 (s.u.pc + 1) 1).goto (s.relTarget off))

/-- RET (16 R365). -/
def execRet (s : State) : Host.Outcome State Fault Refusal :=
  s.issue .ret (fun s => s.goto (s.u.scalar 63))

/-- LOOP (15 R344). -/
def execLoop (a : BitVec 6) (len : BitVec 16) (s : State) : Host.Outcome State Fault Refusal :=
  s.issue (.loop a len) (fun s => s.pushLoop (s.S a) len)

/-- LOOPI (15 R344). -/
def execLoopi (imm : BitVec 20) (len : BitVec 16) (s : State) : Host.Outcome State Fault Refusal :=
  s.issue (.loopi imm len) (fun s => s.pushLoop (imm.setWidth 64) len)

/-- LBRK (15 R346): the innermost level is popped; without one it raises ILLEGAL before issue. -/
def execLbrk (s : State) : Host.Outcome State Fault Refusal :=
  s.issue .lbrk (fun s => match s.u.loops with
    | [] => s
    | top :: r => (s.goto (top.start.setWidth 64 + top.len.setWidth 64)).modU (fun u => { u with loops := r }))

/-- MFSR (16 R356), latency 2. -/
def execMfsr (d : BitVec 6) (sno : BitVec 12) (s : State) : Host.Outcome State Fault Refusal :=
  s.issue (.mfsr d sno) (fun s => s.landS 0 d (s.readSr sno.toNat) 2)

/-- MTSR (16 R356), latency 1. A write of 1 to FLUSH saves the DIRTY groups held for other units (05 R122, R126). -/
def execMtsr (a : BitVec 6) (sno : BitVec 12) (s : State) : Host.Outcome State Fault Refusal :=
  s.issue (.mtsr a sno) (fun s =>
    if sno = 0x108 then (if s.S a = 1 then s.flushGroups else s)
    else s.sched 0 (.special sno.toNat) 1 [⟨(s.S a).setWidth 512, 0⟩] false 0 0)

/-- SLACK (16 R369): M slack in imm32[31:16], C slack in imm32[15:0]. -/
def execSlack (imm : BitVec 32) (s : State) : Host.Outcome State Fault Refusal :=
  s.issue (.slack imm) (fun s => s.modU (fun u => u.modTime (fun t =>
    { t with mslack := imm.toNat / 65536, cslack := imm.toNat % 65536 })))

/-- TRAP (16 R378, 11 R251): its bundle counts as issued, and then TRAP is raised; TRAP 0 in a handler returns. -/
def execTrap (imm : BitVec 32) (s : State) : Host.Outcome State Fault Refusal :=
  s.issue (.trap imm) (fun s =>
    let s1 := s.finish
    if imm = 0 && s.u.trap.inHandler then s1.handlerReturn
    else s1.trapAfter ⟨⟨cTRAP, imm.toNat⟩, s.u.pc⟩)

/-- END (15 R335, 01 R21). -/
def execEndUnit (s : State) : Host.Outcome State Fault Refusal :=
  s.issue .endUnit (fun s => s.finish.endUnit false)

/-- SETX (16 R367), latency 1; privileged. -/
def execSetx (a : BitVec 6) (sno : BitVec 12) (s : State) : Host.Outcome State Fault Refusal :=
  s.issue (.setx a sno) (fun s =>
    s.sched 0 (.extent (sno.toNat / 4) (sno.toNat % 4)) 1 [⟨(s.S a).setWidth 512, 0⟩] false 0 0)

/-- GETX (15 R338), latency 1; privileged. -/
def execGetx (d : BitVec 6) (sno : BitVec 12) (s : State) : Host.Outcome State Fault Refusal :=
  s.issue (.getx d sno) (fun s => s.landS 0 d (extWord (s.u.ext (sno.toNat / 4)) (sno.toNat % 4)) 1)

end Sys2Proof.Machine
end

