-- ==== Sys2Proof/Machine/Lanes.lean ====
section
/-! DEFINITION. Row operations that the vector instructions share (17 R380): lanes of a row, and the landing of the rows
of a range. -/

namespace Sys2Proof.Machine

/-- A result row with the flags it raised. -/
structure RowOut where
  row : VReg
  flags : Nat
  deriving DecidableEq, Repr

/-- Register r + j as a source (17 R380). -/
def Strand.srcRow (u : Strand) (r : BitVec 11) (j : Nat) : VReg := u.vreg (r.toNat + j)

/-- Rows 0 to cnt of a result land from register d on, row j at issue + L + j (02 R51); the flags are raised with the
last row (06 R132). -/
def State.landRows (s : State) (i : Instr) (d : BitVec 11) (cnt : BitVec 4) (lat : Nat) (row : Nat → RowOut) : State :=
  let out := (List.range (cnt.toNat + 1)).map row
  s.landV (s.slotFor i) d.toNat lat (out.map RowOut.row) (out.map RowOut.flags)

/-- The row of tag t whose lanes hold the listed results in format f. -/
def laneRow (f t : Nat) (xs : List Flagged) : RowOut :=
  ⟨⟨ofElems (tagBytes f) (xs.map Flagged.val), t⟩, xs.foldl (fun a x => a ||| x.flags) 0⟩

/-- A result without flags. -/
def plain (v : Nat) : Flagged := ⟨v, 0⟩

/-- One, two or three source rows lane by lane in format f. -/
def lanes1 (f t : Nat) (g : Nat → Flagged) (a : VReg) : RowOut := laneRow f t ((elems (tagBytes f) a.data).map g)
def lanes2 (f t : Nat) (g : Nat → Nat → Flagged) (a b : VReg) : RowOut :=
  laneRow f t (List.zipWith g (elems (tagBytes f) a.data) (elems (tagBytes f) b.data))
def lanes3 (f t : Nat) (g : Nat → Nat → Nat → Flagged) (a b c : VReg) : RowOut :=
  laneRow f t (List.zipWith (fun h z => h z) (List.zipWith g (elems (tagBytes f) a.data) (elems (tagBytes f) b.data))
    (elems (tagBytes f) c.data))

/-- A V.R instruction of one, two or three sources, formed lane by lane, with result tag t. -/
def State.vec1 (s : State) (i : Instr) (f : VR) (lat t : Nat) (g : Nat → Flagged) : State :=
  s.landRows i f.d f.cnt lat (fun j => lanes1 f.fmt.toNat t g (s.u.srcRow f.a j))
def State.vec2 (s : State) (i : Instr) (f : VR) (lat t : Nat) (g : Nat → Nat → Flagged) : State :=
  s.landRows i f.d f.cnt lat (fun j => lanes2 f.fmt.toNat t g (s.u.srcRow f.a j) (s.u.srcRow f.b j))
def State.vec3 (s : State) (i : Instr) (f : VR) (lat t : Nat) (g : Nat → Nat → Nat → Flagged) : State :=
  s.landRows i f.d f.cnt lat (fun j => lanes3 f.fmt.toNat t g (s.u.srcRow f.a j) (s.u.srcRow f.b j) (s.u.srcRow f.c j))

/-- Floating-point operations on lanes of the instruction's format. -/
def State.fp1 (s : State) (i : Instr) (f : VR) (lat : Nat) (g : Nat → Fp → Flagged) : State :=
  s.vec1 i f lat f.fmt.toNat (fun x => g x (readFp f.fmt.toNat x))
def State.fp2 (s : State) (i : Instr) (f : VR) (lat : Nat) (g : Fp → Fp → Flagged) : State :=
  s.vec2 i f lat f.fmt.toNat (fun x y => g (readFp f.fmt.toNat x) (readFp f.fmt.toNat y))
def State.fp3 (s : State) (i : Instr) (f : VR) (lat : Nat) (g : Fp → Fp → Fp → Flagged) : State :=
  s.vec3 i f lat f.fmt.toNat (fun x y z => g (readFp f.fmt.toNat x) (readFp f.fmt.toNat y) (readFp f.fmt.toNat z))

/-- Integer operations: the exact value wrapped or clamped (06 R136). -/
def State.int2 (s : State) (i : Instr) (f : VR) (g : Int → Int → Int) : State :=
  s.vec2 i f 4 f.fmt.toNat (fun x y =>
    plain (fitInt f.fmt.toNat f.sat.toNat (g (readInt f.fmt.toNat x) (readInt f.fmt.toNat y))))

/-- The tag of a compare's masks (17 R389). -/
def maskTag (f : Nat) : Nat := match tagBytes f with | 4 => 4 | 2 => 5 | _ => 6

/-- A lane of all ones or all zeros (17 R389). -/
def maskLane (f : Nat) (b : Bool) (fl : Nat) : Flagged := ⟨if b then 2 ^ (8 * tagBytes f) - 1 else 0, fl⟩

/-- A floating-point compare: `quiet` compares set invalid only for a signalling NaN, ordered ones for any (06 R134). -/
def State.fpCompare (s : State) (i : Instr) (f : VR) (quiet nanIs : Bool) (rel : Fp → Fp → Bool) : State :=
  s.vec2 i f 4 (maskTag f.fmt.toNat) (fun x y =>
    let a := readFp f.fmt.toNat x
    let b := readFp f.fmt.toNat y
    if a.isNan || b.isNan then maskLane f.fmt.toNat nanIs (if quiet then snanFlag [a, b] else flInvalid)
    else maskLane f.fmt.toNat (rel a b) 0)

/-- An integer compare. -/
def State.intCompare (s : State) (i : Instr) (f : VR) (rel : Int → Int → Bool) : State :=
  s.vec2 i f 4 (maskTag f.fmt.toNat) (fun x y =>
    maskLane f.fmt.toNat (rel (readInt f.fmt.toNat x) (readInt f.fmt.toNat y)) 0)

/-- An unsigned compare of the stored lanes. -/
def State.natCompare (s : State) (i : Instr) (f : VR) (rel : Nat → Nat → Bool) : State :=
  s.vec2 i f 4 (maskTag f.fmt.toNat) (fun x y => maskLane f.fmt.toNat (rel x y) 0)

/-- Sign changes (17 R381): a NaN becomes canonical whatever the sign rule gives. -/
def signed (f : Nat) (neg : Bool) (x : Nat) : Flagged :=
  let v := readFp f x
  if v.isNan then ⟨nanOf f, snanFlag [v]⟩ else plain (x % 2 ^ (fpWidth f - 1) + signBit f neg)

/-- Shifts of an element of w bits by y (17 R388). -/
def sarNat (w x y : Nat) : Nat := truncInt w (signedAt w x / 2 ^ (min y w))

/-- Min and Max of a clamp in a format (17 R387). -/
def clampLane (f x y z : Nat) : Flagged :=
  if isFp f then
    let m := fpMinMax f 0 true (readFp f x) (readFp f y)
    let r := fpMinMax f 0 false (readFp f m.val) (readFp f z)
    ⟨r.val, m.flags ||| r.flags⟩
  else
    let rd (v : Nat) : Int := if isInt f then readInt f v else v
    plain (truncInt (8 * tagBytes f) (min (max (rd x) (rd y)) (rd z)))

/-- The pairwise tree of a row reduction (17 R400). -/
def treeReduce (g : Nat → Nat → Flagged) : Nat → List Nat → Flagged
  | 0, xs => plain (xs.headD 0)
  | n + 1, xs =>
    if xs.length ≤ 1 then plain (xs.headD 0)
    else
      let ps := (List.range (xs.length / 2)).map (fun k => g (xs.getD (2 * k) 0) (xs.getD (2 * k + 1) 0))
      let r := treeReduce g n (ps.map Flagged.val)
      ⟨r.val, r.flags ||| ps.foldl (fun a x => a ||| x.flags) 0⟩

/-- The sum and the extremes of two lanes as the reductions combine them (17 R400, 16 R374). -/
def sumLanes (f rnd sat x y : Nat) : Flagged :=
  if isFp f then fpAdd f rnd sat (readFp f x) (readFp f y) else plain (fitInt f sat (readInt f x + readInt f y))
def maxLanes (f : Nat) (wantMax : Bool) (x y : Nat) : Flagged :=
  if isFp f then fpMinMax f 0 wantMax (readFp f x) (readFp f y)
  else if wantMax then plain (if readInt f x < readInt f y then y else x)
  else plain (if readInt f y < readInt f x then y else x)

/-- A row reduction: element 0 is the result, the rest zero. -/
def State.reduceRows (s : State) (i : Instr) (f : VR) (g : Nat → Nat → Flagged) : State :=
  s.landRows i f.d f.cnt 6 (fun j =>
    let r := treeReduce g 6 (elems (tagBytes f.fmt.toNat) (s.u.srcRow f.a j).data)
    laneRow f.fmt.toNat f.fmt.toNat [r])

/-- The element that a reduction begins with: a NaN is canonical from the start, and a signalling one sets invalid (06 R129). -/
def quieted (f x : Nat) : Flagged :=
  if isFp f && (readFp f x).isNan then ⟨nanOf f, snanFlag [readFp f x]⟩ else plain x

/-- A column reduction down the rows a to a + cnt into register d (16 R374). -/
def State.reduceColumns (s : State) (i : Instr) (f : VR) (g : Nat → Nat → Flagged) : State :=
  let e := tagBytes f.fmt.toNat
  let start := (elems e (s.u.srcRow f.a 0).data).map (quieted f.fmt.toNat)
  let out := (List.range f.cnt.toNat).foldl (fun acc j =>
    List.zipWith (fun x y => let r := g x.val y; ⟨r.val, x.flags ||| r.flags⟩) acc
      (elems e (s.u.srcRow f.a (j + 1)).data)) start
  s.landRows i f.d 0 6 (fun _ => laneRow f.fmt.toNat f.fmt.toNat out)

/-- Bytes of a row: `n` whole blocks' worth for BSE, ROWB otherwise; all 64 of a latch head (17 R391). -/
def Strand.payload (u : Strand) (r : Nat) : List Byte :=
  let v := u.vreg r
  let n := u.rowb r
  (rowBytes v.data).take (if u.isLatch r then 64 else if isBse v.tag then wholeBytes v.tag n else n)

/-- A pattern of bytes repeated over a row. -/
def fillRow (bs : List Byte) : Row := bytesRow (repeatTo 64 bs)

end Sys2Proof.Machine
end

