-- ==== Sys2Proof/Machine/VectorFp.lean ====
section
/-! DEFINITION. The floating-point vector instructions (17 R381, R382, R389, R395, R401). -/

namespace Sys2Proof.Machine

/-- VADD (17 R382): rounded once, latency 4. -/
def execVadd (f : VR) (s : State) : Host.Outcome State Fault Refusal :=
  s.issue (.vadd f) (fun s => s.fp2 (.vadd f) f 4 (fun x y => fpAdd f.fmt.toNat f.rnd.toNat f.sat.toNat x y))

/-- VSUB (17 R382): rounded once, latency 4. -/
def execVsub (f : VR) (s : State) : Host.Outcome State Fault Refusal :=
  s.issue (.vsub f) (fun s => s.fp2 (.vsub f) f 4 (fun x y => fpAdd f.fmt.toNat f.rnd.toNat f.sat.toNat x y.negate))

/-- VMUL (17 R382): rounded once, latency 4. -/
def execVmul (f : VR) (s : State) : Host.Outcome State Fault Refusal :=
  s.issue (.vmul f) (fun s => s.fp2 (.vmul f) f 4 (fun x y => fpMul f.fmt.toNat f.rnd.toNat f.sat.toNat x y))

/-- VFMA (17 R382): x × y + z with one rounding. -/
def execVfma (f : VR) (s : State) : Host.Outcome State Fault Refusal :=
  s.issue (.vfma f) (fun s => s.fp3 (.vfma f) f 4 (fun x y z => fpFma f.fmt.toNat f.rnd.toNat f.sat.toNat x y z))

/-- VFMS (17 R382): x × y − z with one rounding. -/
def execVfms (f : VR) (s : State) : Host.Outcome State Fault Refusal :=
  s.issue (.vfms f) (fun s => s.fp3 (.vfms f) f 4 (fun x y z => fpFma f.fmt.toNat f.rnd.toNat f.sat.toNat x y z.negate))

/-- VDIV (17 R382): correctly rounded, latency 14. -/
def execVdiv (f : VR) (s : State) : Host.Outcome State Fault Refusal :=
  s.issue (.vdiv f) (fun s => s.fp2 (.vdiv f) f 14 (fun x y => fpDiv f.fmt.toNat f.rnd.toNat f.sat.toNat x y))

/-- VMIN (17 R382, 06 R134). -/
def execVmin (f : VR) (s : State) : Host.Outcome State Fault Refusal :=
  s.issue (.vmin f) (fun s => s.fp2 (.vmin f) f 4 (fun x y => fpMinMax f.fmt.toNat f.sat.toNat false x y))

/-- VMAX (17 R382, 06 R134). -/
def execVmax (f : VR) (s : State) : Host.Outcome State Fault Refusal :=
  s.issue (.vmax f) (fun s => s.fp2 (.vmax f) f 4 (fun x y => fpMinMax f.fmt.toNat f.sat.toNat true x y))

/-- VABS (17 R381). -/
def execVabs (f : VR) (s : State) : Host.Outcome State Fault Refusal :=
  s.issue (.vabs f) (fun s => s.vec1 (.vabs f) f 4 f.fmt.toNat (fun x => signed f.fmt.toNat false x))

/-- VNEG (17 R381). -/
def execVneg (f : VR) (s : State) : Host.Outcome State Fault Refusal :=
  s.issue (.vneg f) (fun s => s.vec1 (.vneg f) f 4 f.fmt.toNat (fun x => signed f.fmt.toNat (!bitOf x (fpWidth f.fmt.toNat - 1)) x))

/-- VCPSGN (17 R381): the sign of b as stored. -/
def execVcpsgn (f : VR) (s : State) : Host.Outcome State Fault Refusal :=
  s.issue (.vcpsgn f) (fun s => s.vec2 (.vcpsgn f) f 4 f.fmt.toNat (fun x y => signed f.fmt.toNat (bitOf y (fpWidth f.fmt.toNat - 1)) x))

/-- VSCAL (17 R401): each row in its own format, k = S(s) signed. -/
def execVscal (f : VS) (s : State) : Host.Outcome State Fault Refusal :=
  s.issue (.vscal f) (fun s => s.landRows (.vscal f) f.d f.cnt 4 (fun j =>
    let a := s.u.srcRow f.a j
    lanes1 a.tag a.tag (fun x => fpScale a.tag f.rnd.toNat (s.S f.s).toInt (readFp a.tag x)) a))

/-- VRND (17 R395), latency 4. -/
def execVrnd (f : VR) (s : State) : Host.Outcome State Fault Refusal :=
  s.issue (.vrnd f) (fun s => s.fp1 (.vrnd f) f 4 (fun _ x => fpRoundInt f.fmt.toNat f.rnd.toNat f.sat.toNat x))

/-- VRCP (17 R395): within the bound of 06 R135, latency 8. -/
def execVrcp (f : VR) (s : State) : Host.Outcome State Fault Refusal :=
  s.issue (.vrcp f) (fun s => s.fp1 (.vrcp f) f 8 (fun p x => fpRcp f.fmt.toNat f.rnd.toNat f.sat.toNat p x))

/-- VRSQ (17 R395): within the bound of 06 R135, latency 8. -/
def execVrsq (f : VR) (s : State) : Host.Outcome State Fault Refusal :=
  s.issue (.vrsq f) (fun s => s.fp1 (.vrsq f) f 8 (fun p x => fpRsq f.fmt.toNat f.rnd.toNat f.sat.toNat p x))

/-- VSQRT (17 R395): correctly rounded, latency 8. -/
def execVsqrt (f : VR) (s : State) : Host.Outcome State Fault Refusal :=
  s.issue (.vsqrt f) (fun s => s.fp1 (.vsqrt f) f 8 (fun _ x => fpSqrt f.fmt.toNat f.rnd.toNat f.sat.toNat x))

/-- VEXP2 (17 R395): within the bound of 06 R135, latency 8. -/
def execVexp2 (f : VR) (s : State) : Host.Outcome State Fault Refusal :=
  s.issue (.vexp2 f) (fun s => s.fp1 (.vexp2 f) f 8 (fun p x => fpExp2 f.fmt.toNat f.rnd.toNat f.sat.toNat p x))

/-- VLOG2 (17 R395): within the bound of 06 R135, latency 8. -/
def execVlog2 (f : VR) (s : State) : Host.Outcome State Fault Refusal :=
  s.issue (.vlog2 f) (fun s => s.fp1 (.vlog2 f) f 8 (fun p x => fpLog2 f.fmt.toNat f.rnd.toNat f.sat.toNat p x))

/-- VTANH (17 R395): within the bound of 06 R135, latency 8. -/
def execVtanh (f : VR) (s : State) : Host.Outcome State Fault Refusal :=
  s.issue (.vtanh f) (fun s => s.fp1 (.vtanh f) f 8 (fun p x => fpTanh f.fmt.toNat f.rnd.toNat f.sat.toNat p x))

/-- VCMP.EQ (17 R389, 06 R134). -/
def execVcmpEq (f : VR) (s : State) : Host.Outcome State Fault Refusal :=
  s.issue (.vcmpEq f) (fun s => s.fpCompare (.vcmpEq f) f true false (fun x y => fpEq x y))

/-- VCMP.NE (17 R389, 06 R134). -/
def execVcmpNe (f : VR) (s : State) : Host.Outcome State Fault Refusal :=
  s.issue (.vcmpNe f) (fun s => s.fpCompare (.vcmpNe f) f true true (fun x y => !fpEq x y))

/-- VCMP.LT (17 R389, 06 R134). -/
def execVcmpLt (f : VR) (s : State) : Host.Outcome State Fault Refusal :=
  s.issue (.vcmpLt f) (fun s => s.fpCompare (.vcmpLt f) f false false (fun x y => fpLt x y))

/-- VCMP.LE (17 R389, 06 R134). -/
def execVcmpLe (f : VR) (s : State) : Host.Outcome State Fault Refusal :=
  s.issue (.vcmpLe f) (fun s => s.fpCompare (.vcmpLe f) f false false (fun x y => !fpLt y x))

/-- VCMP.GT (17 R389, 06 R134). -/
def execVcmpGt (f : VR) (s : State) : Host.Outcome State Fault Refusal :=
  s.issue (.vcmpGt f) (fun s => s.fpCompare (.vcmpGt f) f false false (fun x y => fpLt y x))

/-- VCMP.GE (17 R389, 06 R134). -/
def execVcmpGe (f : VR) (s : State) : Host.Outcome State Fault Refusal :=
  s.issue (.vcmpGe f) (fun s => s.fpCompare (.vcmpGe f) f false false (fun x y => !fpLt x y))

end Sys2Proof.Machine
end

