-- ==== Sys2Proof/Machine/VectorInt.lean ====
section
/-! DEFINITION. The integer, logical, compare and shift vector instructions, VSEL and VCLAMP (17 R383, R384, R387 to R389). -/

namespace Sys2Proof.Machine

/-- VIADD (17 R384). -/
def execViadd (f : VR) (s : State) : Host.Outcome State Fault Refusal :=
  s.issue (.viadd f) (fun s => s.int2 (.viadd f) f (fun x y => x + y))

/-- VISUB (17 R384). -/
def execVisub (f : VR) (s : State) : Host.Outcome State Fault Refusal :=
  s.issue (.visub f) (fun s => s.int2 (.visub f) f (fun x y => x - y))

/-- VIMUL (17 R384). -/
def execVimul (f : VR) (s : State) : Host.Outcome State Fault Refusal :=
  s.issue (.vimul f) (fun s => s.int2 (.vimul f) f (fun x y => x * y))

/-- VIMIN (17 R384). -/
def execVimin (f : VR) (s : State) : Host.Outcome State Fault Refusal :=
  s.issue (.vimin f) (fun s => s.int2 (.vimin f) f (fun x y => min x y))

/-- VIMAX (17 R384). -/
def execVimax (f : VR) (s : State) : Host.Outcome State Fault Refusal :=
  s.issue (.vimax f) (fun s => s.int2 (.vimax f) f (fun x y => max x y))

/-- VIMAD (17 R384): the exact x × y + z, then one wrap or clamp. -/
def execVimad (f : VR) (s : State) : Host.Outcome State Fault Refusal :=
  s.issue (.vimad f) (fun s => s.vec3 (.vimad f) f 4 f.fmt.toNat (fun x y z =>
    plain (fitInt f.fmt.toNat f.sat.toNat (readInt f.fmt.toNat x * readInt f.fmt.toNat y + readInt f.fmt.toNat z))))

/-- VAVG (17 R384, 06 R136): (x + y) / 2 rounded to an integer in rnd. -/
def execVavg (f : VR) (s : State) : Host.Outcome State Fault Refusal :=
  s.issue (.vavg f) (fun s => s.vec2 (.vavg f) f 4 f.fmt.toNat (fun x y =>
    let t := readInt f.fmt.toNat x + readInt f.fmt.toNat y
    plain (truncInt (8 * tagBytes f.fmt.toNat) (roundToInt f.rnd.toNat (t < 0) t.natAbs (-1)).1)))

/-- VICMP.EQ (17 R389). -/
def execVicmpEq (f : VR) (s : State) : Host.Outcome State Fault Refusal :=
  s.issue (.vicmpEq f) (fun s => s.intCompare (.vicmpEq f) f (fun x y => decide (x = y)))

/-- VICMP.NE (17 R389). -/
def execVicmpNe (f : VR) (s : State) : Host.Outcome State Fault Refusal :=
  s.issue (.vicmpNe f) (fun s => s.intCompare (.vicmpNe f) f (fun x y => decide (x ≠ y)))

/-- VICMP.LT (17 R389). -/
def execVicmpLt (f : VR) (s : State) : Host.Outcome State Fault Refusal :=
  s.issue (.vicmpLt f) (fun s => s.intCompare (.vicmpLt f) f (fun x y => decide (x < y)))

/-- VICMP.LE (17 R389). -/
def execVicmpLe (f : VR) (s : State) : Host.Outcome State Fault Refusal :=
  s.issue (.vicmpLe f) (fun s => s.intCompare (.vicmpLe f) f (fun x y => decide (x ≤ y)))

/-- VICMP.LTU (17 R389). -/
def execVicmpLtu (f : VR) (s : State) : Host.Outcome State Fault Refusal :=
  s.issue (.vicmpLtu f) (fun s => s.natCompare (.vicmpLtu f) f (fun x y => decide (x < y)))

/-- VICMP.LEU (17 R389). -/
def execVicmpLeu (f : VR) (s : State) : Host.Outcome State Fault Refusal :=
  s.issue (.vicmpLeu f) (fun s => s.natCompare (.vicmpLeu f) f (fun x y => decide (x ≤ y)))

/-- VAND (17 R383): byte by byte, with the tag fmt. -/
def execVand (f : VR) (s : State) : Host.Outcome State Fault Refusal :=
  s.issue (.vand f) (fun s => s.vec2 (.vand f) f 4 f.fmt.toNat (fun x y => plain (Nat.land x y)))

/-- VOR (17 R383): byte by byte, with the tag fmt. -/
def execVor (f : VR) (s : State) : Host.Outcome State Fault Refusal :=
  s.issue (.vor f) (fun s => s.vec2 (.vor f) f 4 f.fmt.toNat (fun x y => plain (Nat.lor x y)))

/-- VXOR (17 R383): byte by byte, with the tag fmt. -/
def execVxor (f : VR) (s : State) : Host.Outcome State Fault Refusal :=
  s.issue (.vxor f) (fun s => s.vec2 (.vxor f) f 4 f.fmt.toNat (fun x y => plain (Nat.xor x y)))

/-- VSHL (17 R388). -/
def execVshl (f : VR) (s : State) : Host.Outcome State Fault Refusal :=
  s.issue (.vshl f) (fun s => s.vec2 (.vshl f) f 4 f.fmt.toNat (fun x y => plain (if (8 * tagBytes f.fmt.toNat) ≤ y then 0 else x * 2 ^ y % 2 ^ (8 * tagBytes f.fmt.toNat))))

/-- VSHR (17 R388). -/
def execVshr (f : VR) (s : State) : Host.Outcome State Fault Refusal :=
  s.issue (.vshr f) (fun s => s.vec2 (.vshr f) f 4 f.fmt.toNat (fun x y => plain (if (8 * tagBytes f.fmt.toNat) ≤ y then 0 else x / 2 ^ y)))

/-- VSAR (17 R388): copies of the top bit, in UINT8 too. -/
def execVsar (f : VR) (s : State) : Host.Outcome State Fault Refusal :=
  s.issue (.vsar f) (fun s => s.vec2 (.vsar f) f 4 f.fmt.toNat (fun x y => plain (sarNat (8 * tagBytes f.fmt.toNat) x y)))

/-- VCLZ (17 R388). -/
def execVclz (f : VR) (s : State) : Host.Outcome State Fault Refusal :=
  s.issue (.vclz f) (fun s => s.vec1 (.vclz f) f 4 f.fmt.toNat (fun x => plain (leadZeros (8 * tagBytes f.fmt.toNat) x)))

/-- VPOPC (17 R388). -/
def execVpopc (f : VR) (s : State) : Host.Outcome State Fault Refusal :=
  s.issue (.vpopc f) (fun s => s.vec1 (.vpopc f) f 4 f.fmt.toNat (fun x => plain (popCount (8 * tagBytes f.fmt.toNat) x)))

/-- VSEL (17 R387): lane i of a where lane i of c is non-zero, else of b. -/
def execVsel (f : VR) (s : State) : Host.Outcome State Fault Refusal :=
  s.issue (.vsel f) (fun s => s.vec3 (.vsel f) f 4 f.fmt.toNat (fun x y z => plain (if z ≠ 0 then x else y)))

/-- VCLAMP (17 R387): Min(Max(x, y), z). -/
def execVclamp (f : VR) (s : State) : Host.Outcome State Fault Refusal :=
  s.issue (.vclamp f) (fun s => s.vec3 (.vclamp f) f 4 f.fmt.toNat (fun x y z => clampLane f.fmt.toNat x y z))

/-- VRSUM (17 R400), latency 6. -/
def execVrsum (f : VR) (s : State) : Host.Outcome State Fault Refusal :=
  s.issue (.vrsum f) (fun s => s.reduceRows (.vrsum f) f (sumLanes f.fmt.toNat f.rnd.toNat f.sat.toNat))

/-- VRMAX (17 R400), latency 6. -/
def execVrmax (f : VR) (s : State) : Host.Outcome State Fault Refusal :=
  s.issue (.vrmax f) (fun s => s.reduceRows (.vrmax f) f (maxLanes f.fmt.toNat true))

/-- VRMIN (17 R400), latency 6. -/
def execVrmin (f : VR) (s : State) : Host.Outcome State Fault Refusal :=
  s.issue (.vrmin f) (fun s => s.reduceRows (.vrmin f) f (maxLanes f.fmt.toNat false))

/-- TCSUM (16 R374): down the rows into one register, latency 6. -/
def execTcsum (f : VR) (s : State) : Host.Outcome State Fault Refusal :=
  s.issue (.tcsum f) (fun s => s.reduceColumns (.tcsum f) f (sumLanes f.fmt.toNat f.rnd.toNat f.sat.toNat))

/-- TCMAX (16 R374), latency 6. -/
def execTcmax (f : VR) (s : State) : Host.Outcome State Fault Refusal :=
  s.issue (.tcmax f) (fun s => s.reduceColumns (.tcmax f) f (maxLanes f.fmt.toNat true))

end Sys2Proof.Machine
end

