-- ==== Sys2Proof/Machine/VectorMove.lean ====
section
/-! DEFINITION. Moves, fills and permutations of rows, and VCRC (17 R385, R386, R391, R398, R399). -/

namespace Sys2Proof.Machine

/-- VMOV (17 R385): the 64 bytes and the tag of each source row. -/
def execVmov (f : VR) (s : State) : Host.Outcome State Fault Refusal :=
  s.issue (.vmov f) (fun s => s.landRows (.vmov f) f.d f.cnt 4 (fun j => ⟨s.u.srcRow f.a j, 0⟩))

/-- The element width of VFILL: e(f) for the number tags, 8 for the BSE, RAW and IDX tags (17 R386). -/
def fillWidth (t : Nat) : Nat := if isFp t || isInt t then tagBytes t else 8

/-- VFILL (17 R386): the low bytes of S(s) repeated over the row. -/
def execVfill (f : VS) (s : State) : Host.Outcome State Fault Refusal :=
  s.issue (.vfill f) (fun s =>
    let t := f.imm.toNat % 16
    s.landRows (.vfill f) f.d f.cnt 4 (fun _ => ⟨⟨fillRow ((wordBytes (s.S f.s)).take (fillWidth t)), t⟩, 0⟩))

/-- VBCS (17 R386): element k of 2^z bytes repeated over the row. -/
def execVbcs (f : VS) (s : State) : Host.Outcome State Fault Refusal :=
  s.issue (.vbcs f) (fun s =>
    let z := f.imm.toNat % 4
    let k := f.imm.toNat / 4 % 64
    s.landRows (.vbcs f) f.d f.cnt 4 (fun j =>
      let a := s.u.srcRow f.a j
      ⟨⟨fillRow (((rowBytes a.data).drop (k * 2 ^ z)).take (2 ^ z)), a.tag⟩, 0⟩))

/-- VPERM (17 R398): byte k is 0 where bit 7 of the index is set, else the byte of a that its low six bits name. -/
def execVperm (f : VR) (s : State) : Host.Outcome State Fault Refusal :=
  s.issue (.vperm f) (fun s => s.landRows (.vperm f) f.d f.cnt 4 (fun j =>
    let a := s.u.srcRow f.a j
    let b := s.u.srcRow f.b j
    ⟨⟨ofElems 1 ((elems 1 b.data).map (fun x => if 128 ≤ x then 0 else elem 1 a.data (x % 64))), a.tag⟩, 0⟩))

/-- VSLD (17 R398): the row moved by n bytes, zeros in. -/
def execVsld (f : VS) (s : State) : Host.Outcome State Fault Refusal :=
  s.issue (.vsld f) (fun s =>
    let n := f.imm.toNat % 128
    s.landRows (.vsld f) f.d f.cnt 4 (fun j =>
      let a := s.u.srcRow f.a j
      ⟨⟨if f.imm.toNat / 128 % 2 = 0 then a.data >>> (8 * n) else a.data <<< (8 * n), a.tag⟩, 0⟩))

/-- VZIP (17 R398, R399): the low halves interleaved in lanes of a's tag. -/
def execVzip (f : VR) (s : State) : Host.Outcome State Fault Refusal :=
  s.issue (.vzip f) (fun s => s.landRows (.vzip f) f.d f.cnt 4 (fun j =>
    let a := s.u.srcRow f.a j
    let b := s.u.srcRow f.b j
    let e := tagBytes a.tag
    ⟨⟨ofElems e ((List.range (64 / e)).map (fun i =>
      if i % 2 = 0 then elem e a.data (i / 2) else elem e b.data (i / 2))), a.tag⟩, 0⟩))

/-- VUNZ (17 R398, R399): the even elements of a, then those of b. -/
def execVunz (f : VR) (s : State) : Host.Outcome State Fault Refusal :=
  s.issue (.vunz f) (fun s => s.landRows (.vunz f) f.d f.cnt 4 (fun j =>
    let a := s.u.srcRow f.a j
    let b := s.u.srcRow f.b j
    let e := tagBytes a.tag
    let n := 64 / e
    ⟨⟨ofElems e ((List.range n).map (fun i =>
      if i < n / 2 then elem e a.data (2 * i) else elem e b.data (2 * (i - n / 2)))), a.tag⟩, 0⟩))

/-- VCRC (17 R391): the CRC state of d advanced over the rows a to a + cnt; only d is written. -/
def execVcrc (f : VR) (s : State) : Host.Outcome State Fault Refusal :=
  s.issue (.vcrc f) (fun s =>
    let c : BitVec 32 := (s.u.vreg f.d.toNat).data.setWidth 32
    let bs := (rangeOf f.a f.cnt).flatMap s.u.payload
    s.landRows (.vcrc f) f.d 0 4 (fun _ => ⟨⟨(crcBytes c bs).setWidth 512, tagRaw⟩, 0⟩))

end Sys2Proof.Machine
end

