-- ==== Sys2Proof/Machine/VectorConv.lean ====
section
/-! DEFINITION. Conversions, quantisation and 2-of-4 compression (17 R390, R392 to R394). -/

namespace Sys2Proof.Machine

/-- VCVT (17 R392, 06 R138): each row from its own tag to fmt. -/
def execVcvt (f : VR) (s : State) : Host.Outcome State Fault Refusal :=
  s.issue (.vcvt f) (fun s => s.landRows (.vcvt f) f.d f.cnt 6 (fun j =>
    let a := s.u.srcRow f.a j
    let k := min (64 / tagBytes a.tag) (64 / tagBytes f.fmt.toNat)
    laneRow f.fmt.toNat f.fmt.toNat (((elems (tagBytes a.tag) a.data).take k).map
      (convert a.tag f.fmt.toNat f.rnd.toNat f.sat.toNat))))

/-- The values of a row in a floating-point format. -/
def fpValues (f : Nat) (r : Row) : List Fp := (elems (tagBytes f) r).map (readFp f)

/-- Groups of 16 values quantised to blocks (06 R141). -/
def quantRow (f rnd sat : Nat) (xs : List Fp) : List Quantised :=
  (List.range (xs.length / 16)).map (fun k => quantise f rnd sat ((xs.drop (16 * k)).take 16))

def quantFlags (qs : List Quantised) : Nat := qs.foldl (fun a q => a ||| q.flags) 0

/-- VQNT (17 R393): the rows of blocks, then the trailer in register d + cnt + 1. -/
def execVqnt (f : VR) (s : State) : Host.Outcome State Fault Refusal :=
  s.issue (.vqnt f) (fun s =>
    let fs := (s.u.vreg f.a.toNat).tag
    let xss := (List.range (f.cnt.toNat + 1)).map (fun j => fpValues fs (s.u.srcRow f.a j).data)
    let qss := xss.map (quantRow f.fmt.toNat f.rnd.toNat f.sat.toNat)
    let rows := qss.map (fun qs => ofBlocks f.fmt.toNat (qs.map Quantised.block))
    let p := 64 / tagBytes fs / 16 * bseBlock f.fmt.toNat
    let payload := rows.flatMap (fun r => (rowBytes r).take p)
    let sats := (qss.flatMap (fun qs => qs.map Quantised.satcount)).sum
    let tr := bytesRow (trailerBytes (amaxBits xss.flatten) sats payload f.fmt.toNat (f.cnt.toNat + 1) p)
    s.landV (s.slotFor (.vqnt f)) f.d.toNat 6 (rows.map (fun r => ⟨r, f.fmt.toNat⟩) ++ [⟨tr, tagRaw⟩])
      (qss.map quantFlags))

/-- VDQN (17 R394): the values of the whole blocks, rounded to fmt. -/
def execVdqn (f : VR) (s : State) : Host.Outcome State Fault Refusal :=
  s.issue (.vdqn f) (fun s => s.landRows (.vdqn f) f.d f.cnt 6 (fun j =>
    let a := s.u.srcRow f.a j
    let vs := (rowBlocks a.tag (s.u.rowb (f.a.toNat + j)) a.data).flatMap (bseValues a.tag)
    laneRow f.fmt.toNat f.fmt.toNat ((vs.take (64 / tagBytes f.fmt.toNat)).map (roundFmt f.fmt.toNat f.rnd.toNat 0))))

/-- The first value ranks above the second: NaN highest, then magnitude (17 R390). -/
def ranksAbove (x y : Fp) : Bool :=
  if y.isNan then false else if x.isNan then true
  else match x, y with
    | .inf _, .inf _ => false
    | .inf _, _ => true
    | _, .inf _ => false
    | .num _ m e, .num _ n g => maxMag (n, g) (m, e) = (m, e) && maxMag (m, e) (n, g) ≠ (n, g)
    | _, _ => false

/-- The two kept indices of a group of four, ascending; equal keys rank the lower index first. -/
def keptPair (xs : List Fp) : List Nat :=
  let v (i : Nat) : Fp := xs.getD i (.num false 0 0)
  (List.range 4).filter (fun i =>
    ((List.range 4).filter (fun k => k ≠ i && (ranksAbove (v k) (v i) || (!ranksAbove (v i) (v k) && decide (k < i))))).length < 2)

def nibbleOf (ks : List Nat) : Nat := ks.foldl (fun a k => a + 2 ^ k) 0

/-- The groups of four values of a list. -/
def quads (xs : List Fp) : List (List Fp) := pieces 4 (xs.length / 4) xs

/-- The values of a row as VCMPR reads them: elements, or the values of its whole blocks. -/
def sparseValues (f rowb : Nat) (r : Row) : List Fp :=
  if isBse f then (rowBlocks f rowb r).flatMap (bseValues f)
  else if isFp f then fpValues f r
  else (elems 1 r).map (fun x => ofInt (signedAt 8 x))

/-- A kept element as it is stored (17 R390): a NaN becomes canonical. -/
def storeKept (f : Nat) (x : Fp) : Flagged :=
  if isFp f then roundFmt f 0 0 x
  else match x with | .num neg m _ => plain (truncInt 8 (if neg then -(m : Int) else m)) | _ => plain 0

/-- One row of VCMPR: the kept values, and the masks. A signalling NaN of the row sets invalid, kept or not (06 R129). -/
def compressRow (f rowb : Nat) (r : Row) : RowOut × VReg :=
  let xs := sparseValues f rowb r
  let qs := quads xs
  let kept := qs.flatMap (fun q => (keptPair q).map (fun i => q.getD i (.num false 0 0)))
  let masks : VReg := ⟨BitVec.ofNat 512 ((qs.map (fun q => nibbleOf (keptPair q))).foldr (fun n a => n + 16 * a) 0), tagIdx⟩
  if isBse f then
    let nb := (xs.length / 16 + 1) / 2
    let bq := quantRow f 0 0 (takePad (.num false 0 0) (16 * nb) kept)
    (⟨⟨ofBlocks f (bq.map Quantised.block), f⟩, quantFlags bq⟩, masks)
  else
    let out := laneRow f f (kept.map (storeKept f))
    ({ out with flags := out.flags ||| snanFlag xs }, masks)

/-- VCMPR (17 R390): the kept values land from d, the masks from b, both rows j at issue + 6 + j. -/
def execVcmpr (f : VR) (s : State) : Host.Outcome State Fault Refusal :=
  s.issue (.vcmpr f) (fun s =>
    let out := (List.range (f.cnt.toNat + 1)).map (fun j =>
      compressRow f.fmt.toNat (s.u.rowb (f.a.toNat + j)) (s.u.srcRow f.a j).data)
    let slot := s.slotFor (.vcmpr f)
    let s1 := s.landV slot f.d.toNat 6 (out.map (fun x => x.1.row)) (out.map (fun x => x.1.flags))
    let s2 := s1.landV slot f.b.toNat 6 (out.map Prod.snd) []
    s2.modU (fun u => { u with
      flights := u.flights.dropLast ++ (u.flights.drop (u.flights.length - 1)).map (fun x => { x with pair := true }) }))

end Sys2Proof.Machine
end

