-- ==== Sys2Proof/Machine/Tile.lean ====
section
/-! DEFINITION. Tile groups: TCFG, TREL (16 R372, 05 R114), TCRD, TCWR (16 R373), TTRN (16 R379). -/

namespace Sys2Proof.Machine

/-- A DIRTY group held for another unit is saved before this unit's first use of it (05 R125). -/
def State.claimGroup (s : State) (t : Nat) : State :=
  let g := s.u.group t
  if g.conf && g.dirty && g.holder ≠ s.u.who then s.saveGroup t else s

/-- A write of several rows of a group that all land in one cycle (05 R124, SAME). -/
def State.landTile (s : State) (slot t lat : Nat) (rows : List VReg) : State :=
  s.sched slot (.vector (16 * t)) lat rows true 0 (16 * t)

/-- The latency-1 change of a group's shape. -/
def State.landShape (s : State) (slot t : Nat) (g : TGroup) : State :=
  s.sched slot (.shape t g) 1 [⟨0, 0⟩] true 0 0

/-- TCFG (05 R114): from the next cycle on the group has its new shape, and its sixteen rows are zero with tag fmt. -/
def execTcfg (t : BitVec 7) (rows : BitVec 4) (rowb : BitVec 5) (fmt : BitVec 4) (s : State) :
    Host.Outcome State Fault Refusal :=
  s.issue (.tcfg t rows rowb fmt) (fun s =>
    let slot := s.slotFor (.tcfg t rows rowb fmt)
    let g : TGroup := ⟨true, rows.toNat + 1, (rowb.toNat + 1) * 4, fmt.toNat, true, s.u.who⟩
    ((s.claimGroup t.toNat).landShape slot t.toNat g).landTile slot t.toNat 1 (List.replicate 16 ⟨0, fmt.toNat⟩))

/-- TREL (05 R114): clears CONF and DIRTY from the next cycle on; it saves nothing. -/
def execTrel (t : BitVec 7) (s : State) : Host.Outcome State Fault Refusal :=
  s.issue (.trel t) (fun s =>
    s.landShape (s.slotFor (.trel t)) t.toNat { s.u.group t.toNat with conf := false, dirty := false })

/-- TCRD (16 R373): one 4-byte column of the group's rows, gathered into v. -/
def execTcrd (t : BitVec 7) (v : BitVec 11) (idx : BitVec 4) (s : State) : Host.Outcome State Fault Refusal :=
  s.issue (.tcrd t v idx) (fun s =>
    let r := s.u.tileRows t.toNat
    s.landRows (.tcrd t v idx) v 0 6 (fun _ =>
      ⟨⟨ofElems 4 ((List.range r).map (fun j => elem 4 (s.u.vreg (16 * t.toNat + j)).data idx.toNat)),
        (s.u.group t.toNat).gfmt⟩, 0⟩))

/-- TCWR (16 R373): one 4-byte column of the group's rows, written from v; whole rows land together. -/
def execTcwr (t : BitVec 7) (v : BitVec 11) (idx : BitVec 4) (s : State) : Host.Outcome State Fault Refusal :=
  s.issue (.tcwr t v idx) (fun s =>
    let src := (s.u.vreg v.toNat).data
    s.landTile (s.slotFor (.tcwr t v idx)) t.toNat 6 ((List.range (s.u.tileRows t.toNat)).map (fun j =>
      ⟨ofElems 4 ((elems 4 (s.u.vreg (16 * t.toNat + j)).data).set idx.toNat (elem 4 src j)), (s.u.group t.toNat).gfmt⟩)))

/-- TTRN (16 R379): the new shape from the next cycle on, the transposed rows at issue + 20. -/
def execTtrn (t ta : BitVec 7) (s : State) : Host.Outcome State Fault Refusal :=
  s.issue (.ttrn t ta) (fun s =>
    let slot := s.slotFor (.ttrn t ta)
    let ga := s.u.group ta.toNat
    let e := if ga.gfmt = 11 then 4 else tagBytes ga.gfmt
    let c := ga.rowb / e
    let g : TGroup := ⟨true, c, 4 * ((ga.rows * e + 3) / 4), ga.gfmt, true, s.u.who⟩
    let row (i : Nat) : VReg :=
      if i < c then ⟨ofElems e ((List.range ga.rows).map (fun j => elem e (s.u.vreg (16 * ta.toNat + j)).data i)), ga.gfmt⟩
      else ⟨0, ga.gfmt⟩
    ((s.claimGroup t.toNat).landShape slot t.toNat g).landTile slot t.toNat 20 ((List.range 16).map row))

end Sys2Proof.Machine
end

