-- ==== Sys2Proof/Machine/Load.lean ====
section
/-! DEFINITION. Loads of the L slot (15 R341 to R343; 16 R359, R360, R375, R377; 17 R396, R397). -/

namespace Sys2Proof.Machine

/-- The register that an outstanding access will write: class 0 scalar, 1 vector (02 R53). -/
def Act.dest (a : Act) : Nat × List Nat :=
  match a with
  | .load r _ _ | .atomic _ _ _ r | .peek r | .ldb r _ _ _ | .value r _ | .granted r _ | .hibq r _ =>
    (0, [r])
  | .vload v _ _ _ => (1, [v])
  | .tld t _ rows _ _ _ => (1, rowsOf t rows)
  | _ => (2, [])

/-- The relative deadline of an L-slot or W-slot access, in units of 64 cycles; 0 for none (07 R170). -/
def State.deadlineLeft (s : State) : Nat :=
  if s.u.own.deadline = 0 then 0 else min 65535 ((s.u.own.deadline - s.now) / 64)

/-- Adds an outstanding access of the bundle at PC, last in program order (09 R196). -/
def State.addAcc (s : State) (slot : Nat) (act : Act) (cls : Nat) (spans : List Span) (svc : Nat) (dl : Nat) : State :=
  let (c, rs) := act.dest
  s.modU (fun u =>
    let v := u.overtake c rs
    { v with accs := v.accs ++ [{ act := act, cls := cls, spans := spans, slot := slot, epc := u.pc, svc := svc,
                                  issued := s.now, deadline := dl, aged := false,
                                  blks := s.blocksAt (spans.flatMap Span.homes), part := [] }] })

/-- An access of a MEM instruction. -/
def State.memAcc (s : State) (slot : Nat) (f : MemF) (act : Act) (spans : List Span) : State :=
  s.addAcc slot act f.oc.toNat spans f.svc.toNat s.deadlineLeft

/-- What a LOC load that lands in six cycles finds (15 R343, 13 R283): its result lands, with the errors it counts; or, where a
bad granule is STRICT, nothing is written and MEM_UE is raised in the landing cycle (log 38). -/
def State.locLands (s : State) (sps : List Span) (rowFmt errs : Nat) : State :=
  let homes := sps.flatMap Span.homes
  let t := sps.findSome? (fun sp => s.readFault [] sp (rowHomes rowFmt sp.homes) 4)
  (s.lastFlight (fun f => { f with fault := t, errs := if t.isSome then 0 else errs })).noteRead homes

/-- A scalar load of 2^log bytes (15 R343): six cycles from LOC, scoreboarded elsewhere. -/
def State.loadScalar (s : State) (f : MemF) (log : Nat) (sg : Bool) : State :=
  match s.memSpan 4 f log kRead true with
  | .error t => s.trapBefore t
  | .ok sp =>
    if sp.space = 0 then
      let x := bytesNat (zeroBad (s.readMarked [] sp.homes))
      let v : Word := if sg then BitVec.ofInt 64 (signedAt (8 * 2 ^ log) x) else BitVec.ofNat 64 x
      (s.landS 4 (f.r.setWidth 6) v 6).locLands [sp] 0 (s.badOf [] sp.homes).length
    else s.memAcc 4 f (.load (memR f) (2 ^ log) sg) [sp]

/-- A vector load (17 R397): mode 0 the row, 1 strided elements, 2 one element repeated. -/
def State.loadRow (s : State) (f : MemF) (mode : Nat) : State :=
  let sh := s.u.rowShape f.r.toNat
  match s.rowSpans 4 f mode false with
  | .error t => s.trapBefore t
  | .ok sps =>
    let homes := sps.flatMap Span.homes
    if f.sp = 0 then
      let marked := s.readMarked [] homes
      let (bs, n) := if isBse sh.fmt then readBseRow sh.fmt marked else (zeroBad marked, (s.badOf [] homes).length)
      let full := if mode = 2 then repeatTo (sh.k * sh.u) bs else bs
      (s.landV 4 f.r.toNat 6 [⟨bytesRow (full.take sh.width), sh.fmt⟩] []).locLands sps sh.fmt n
    else s.memAcc 4 f (.vload f.r.toNat sh.width sh.fmt (mode = 2)) sps

/-- LD.B (15 R342, R343). -/
def execLdB (f : MemF) (s : State) : Host.Outcome State Fault Refusal := s.issue (.ldB f) (fun s => s.loadScalar f 0 true)
/-- LD.BU. -/
def execLdBu (f : MemF) (s : State) : Host.Outcome State Fault Refusal := s.issue (.ldBu f) (fun s => s.loadScalar f 0 false)
/-- LD.H. -/
def execLdH (f : MemF) (s : State) : Host.Outcome State Fault Refusal := s.issue (.ldH f) (fun s => s.loadScalar f 1 true)
/-- LD.HU. -/
def execLdHu (f : MemF) (s : State) : Host.Outcome State Fault Refusal := s.issue (.ldHu f) (fun s => s.loadScalar f 1 false)
/-- LD.W. -/
def execLdW (f : MemF) (s : State) : Host.Outcome State Fault Refusal := s.issue (.ldW f) (fun s => s.loadScalar f 2 true)
/-- LD.WU. -/
def execLdWu (f : MemF) (s : State) : Host.Outcome State Fault Refusal := s.issue (.ldWu f) (fun s => s.loadScalar f 2 false)
/-- LD.D. -/
def execLdD (f : MemF) (s : State) : Host.Outcome State Fault Refusal := s.issue (.ldD f) (fun s => s.loadScalar f 3 false)

/-- VLD (17 R396, R397). -/
def execVld (f : MemF) (s : State) : Host.Outcome State Fault Refusal := s.issue (.vld f) (fun s => s.loadRow f 0)
/-- VLDS: element i from EffAddr + i × S(o). -/
def execVlds (f : MemF) (s : State) : Host.Outcome State Fault Refusal := s.issue (.vlds f) (fun s => s.loadRow f 1)
/-- VLDB: one element in every position below ROWB. -/
def execVldb (f : MemF) (s : State) : Host.Outcome State Fault Refusal := s.issue (.vldb f) (fun s => s.loadRow f 2)

/-- TLD (16 R377): the rows pend until the whole tile has performed and its trailer passed. -/
def execTld (f : MemT) (s : State) : Host.Outcome State Fault Refusal :=
  s.issue (.tld f) (fun s =>
    let h := readHandle (s.u.handle f.h.toNat)
    match s.tilePlan 4 f false with
    | .error t => s.trapBefore t
    | .ok sps => s.addAcc 4 (.tld f.t.toNat h.fmt h.rows h.rowb f.h.toNat h.trl) f.oc.toNat sps f.svc.toNat s.deadlineLeft)

/-- THDL (16 R375): 32 bytes into a handle register, scoreboarded. -/
def execThdl (f : MemF) (s : State) : Host.Outcome State Fault Refusal :=
  s.issue (.thdl f) (fun s => match s.memSpan 4 f 5 kRead true with
    | .error t => s.trapBefore t
    | .ok sp => s.memAcc 4 f (.thdl (f.r.toNat % 32)) [sp])

/-- Lines of the block cache in use (07 R165). -/
def Core.liveBlocks (c : Core) : List Block := c.blocks.filter (fun b => !b.leaving)
def Core.linesUsed (c : Core) : Nat := (c.liveBlocks.map Block.lines).sum

/-- Two ranges of 64-byte lines overlap. -/
def Block.meets (b : Block) (base n : Nat) : Bool := b.base < base + 64 * n && base < b.base + 64 * b.lines

/-- LDB (15 R341, 07 R165): the status word lands in the token, and a block that is granted is filled. -/
def execLdb (f : MemF) (s : State) : Host.Outcome State Fault Refusal :=
  s.issue (.ldb f) (fun s =>
    let n := (s.S f.o).toNat
    let r := memR f
    if n = 0 || 64 < n then s.memAcc 4 f (.value r 4) []
    else match s.check 4 (s.effAddr f) (64 * n) kRead 6 with
      | .error t => s.trapBefore t
      | .ok sp =>
        let base := sp.homes.headD 0
        if Config.blockTags ≤ s.core.liveBlocks.length then s.memAcc 4 f (.value r 1) []
        else if Config.blockLines < s.core.linesUsed + n then s.memAcc 4 f (.value r 2) []
        else if s.core.liveBlocks.any (fun b => decide (b.who = s.u.who) && b.meets base n) then s.memAcc 4 f (.value r 3) []
        else
          let b : Block := { who := s.u.who, base := base, lines := n, filled := 0, data := zeros (64 * n), dirty := [],
                             cover := sp.cover, id := s.core.nextBlock, leaving := false }
          (s.memAcc 4 f (.ldb r n base b.id) [sp]).modCore (fun c =>
            { c with blocks := c.blocks ++ [b], nextBlock := c.nextBlock + 1 }))

/-- PLD (16 R360): the line of EffAddr read into the LLC; one that would fail R162 is dropped. -/
def execPld (f : MemF) (s : State) : Host.Outcome State Fault Refusal :=
  s.issue (.pld f) (fun s => match s.check 4 (s.effAddr f) 1 kRead 0 with
    | .error _ => s
    | .ok sp =>
      let line := sp.homes.headD 0 / 64 * 64
      s.addAcc 4 .pld 16 [{ sp with homes := List.range' line 64, size := 64 }] f.svc.toNat s.deadlineLeft)

/-- PEEK (16 R359): read at the home, never from a block. -/
def execPeek (f : MemF) (s : State) : Host.Outcome State Fault Refusal :=
  s.issue (.peek f) (fun s => match s.memSpan 4 f 3 kRead true with
    | .error t => s.trapBefore t
    | .ok sp => s.memAcc 4 f (.peek (memR f)) [sp])

end Sys2Proof.Machine
end

