-- ==== Sys2Proof/Machine/Store.lean ====
section
/-! DEFINITION. Stores and atomics of the W slot (15 R318 to R320, R341; 16 R371, R377; 17 R396, R397). -/

namespace Sys2Proof.Machine

/-- A scalar store of 2^log bytes (16 R371). -/
def State.storeScalar (s : State) (f : MemF) (log : Nat) : State :=
  match s.memSpan 5 f log kWrite false with
  | .error t => s.trapBefore t
  | .ok sp => s.memAcc 5 f (.store [(wordBytes (s.u.scalar (memR f))).take (2 ^ log)]) [sp]

/-- ST.B (16 R371). -/
def execStB (f : MemF) (s : State) : Host.Outcome State Fault Refusal := s.issue (.stB f) (fun s => s.storeScalar f 0)
/-- ST.H. -/
def execStH (f : MemF) (s : State) : Host.Outcome State Fault Refusal := s.issue (.stH f) (fun s => s.storeScalar f 1)
/-- ST.W. -/
def execStW (f : MemF) (s : State) : Host.Outcome State Fault Refusal := s.issue (.stW f) (fun s => s.storeScalar f 2)
/-- ST.D. -/
def execStD (f : MemF) (s : State) : Host.Outcome State Fault Refusal := s.issue (.stD f) (fun s => s.storeScalar f 3)

/-- VST (17 R397): the row's bytes below ROWB, as they stand at issue. -/
def execVst (f : MemF) (s : State) : Host.Outcome State Fault Refusal :=
  s.issue (.vst f) (fun s =>
    let sh := s.u.rowShape f.r.toNat
    match s.rowSpans 5 f 0 true with
    | .error t => s.trapBefore t
    | .ok sps => s.memAcc 5 f (.store [(rowBytes (s.u.vreg f.r.toNat).data).take sh.width]) sps)

/-- VSTS (17 R397): element i to EffAddr + i × S(o), in ascending i. -/
def execVsts (f : MemF) (s : State) : Host.Outcome State Fault Refusal :=
  s.issue (.vsts f) (fun s =>
    let sh := s.u.rowShape f.r.toNat
    match s.rowSpans 5 f 1 true with
    | .error t => s.trapBefore t
    | .ok sps => s.memAcc 5 f (.store (pieces sh.u sh.k (rowBytes (s.u.vreg f.r.toNat).data))) sps)

/-- TST (16 R377): the rows, and a trailer where TRL is set. -/
def execTst (f : MemT) (s : State) : Host.Outcome State Fault Refusal :=
  s.issue (.tst f) (fun s =>
    let h := readHandle (s.u.handle f.h.toNat)
    match s.tilePlan 5 f true with
    | .error t => s.trapBefore t
    | .ok sps =>
      let regs := (rowsOf f.t.toNat h.rows).map s.u.vreg
      let rows := regs.map (fun r => (rowBytes r.data).take h.rowb)
      let vals := regs.flatMap (fun r => (rowBlocks h.fmt h.rowb r.data).flatMap (bseValues h.fmt))
      let tr := trailerBytes (amaxBits vals) 0 rows.flatten h.fmt h.rows h.rowb
      s.addAcc 5 (.store (rows ++ if h.trl then [tr] else [])) f.oc.toNat sps f.svc.toNat s.deadlineLeft)

/-- LBF (15 R341, 07 R167): the dirty bytes of the block at EffAddr are written as stores of class oc, after the unit's earlier
accesses to them; tag and lines become free. One that names no block of the unit does nothing. -/
def execLbf (f : MemF) (s : State) : Host.Outcome State Fault Refusal :=
  s.issue (.lbf f) (fun s =>
    let a := s.effAddr f
    let base := extBase (s.u.ext (pXi a)) + pOff a
    match s.core.liveBlocks.find? (fun b => decide (b.who = s.u.who) && b.base = base) with
    | none => s
    | some b =>
      let n := 64 * b.lines
      let sp : Span := ⟨3, pXi a, pOff a, n, List.range' b.base n, none, b.cover.tol, b.cover.fmap, b.cover.base⟩
      (s.memAcc 5 f (.lbf b.id) [sp]).modCore (fun c => c.modBlock b.id (fun b => { b with leaving := true })))

/-- An atomic (15 R319): performed at the home, the old value scoreboarded in d. -/
def State.atomic (s : State) (f : MemF) (op : AtomOp) (cmp : Word) : State :=
  match s.memSpan 5 f 3 kBoth true with
  | .error t => s.trapBefore t
  | .ok sp => s.memAcc 5 f (.atomic op (s.S f.o) cmp (memR f)) [sp]

/-- AADD (15 R318, R319). -/
def execAadd (f : MemF) (s : State) : Host.Outcome State Fault Refusal := s.issue (.aadd f) (fun s => s.atomic f .add 0)
/-- AMIN.S. -/
def execAminS (f : MemF) (s : State) : Host.Outcome State Fault Refusal := s.issue (.aminS f) (fun s => s.atomic f .minS 0)
/-- AMIN.U. -/
def execAminU (f : MemF) (s : State) : Host.Outcome State Fault Refusal := s.issue (.aminU f) (fun s => s.atomic f .minU 0)
/-- AMAX.S. -/
def execAmaxS (f : MemF) (s : State) : Host.Outcome State Fault Refusal := s.issue (.amaxS f) (fun s => s.atomic f .maxS 0)
/-- AMAX.U. -/
def execAmaxU (f : MemF) (s : State) : Host.Outcome State Fault Refusal := s.issue (.amaxU f) (fun s => s.atomic f .maxU 0)
/-- AAND. -/
def execAand (f : MemF) (s : State) : Host.Outcome State Fault Refusal := s.issue (.aand f) (fun s => s.atomic f .and 0)
/-- AOR. -/
def execAor (f : MemF) (s : State) : Host.Outcome State Fault Refusal := s.issue (.aor f) (fun s => s.atomic f .or 0)
/-- AXOR. -/
def execAxor (f : MemF) (s : State) : Host.Outcome State Fault Refusal := s.issue (.axor f) (fun s => s.atomic f .xor 0)
/-- ASWP. -/
def execAswp (f : MemF) (s : State) : Host.Outcome State Fault Refusal := s.issue (.aswp f) (fun s => s.atomic f .swp 0)
/-- ACAS: the comparison value is S(d), zero for s0. -/
def execAcas (f : MemF) (s : State) : Host.Outcome State Fault Refusal :=
  s.issue (.acas f) (fun s => s.atomic f .cas (s.u.scalar (memR f)))
/-- AFADD (15 R320). -/
def execAfadd (f : MemF) (s : State) : Host.Outcome State Fault Refusal := s.issue (.afadd f) (fun s => s.atomic f .fadd 0)
/-- AFMIN. -/
def execAfmin (f : MemF) (s : State) : Host.Outcome State Fault Refusal := s.issue (.afmin f) (fun s => s.atomic f .fmin 0)
/-- AFMAX. -/
def execAfmax (f : MemF) (s : State) : Host.Outcome State Fault Refusal := s.issue (.afmax f) (fun s => s.atomic f .fmax 0)

end Sys2Proof.Machine
end

