-- ==== Sys2Proof/Machine/Sync.lean ====
section
/-! DEFINITION. The Y slot and the blocking instructions (09 R198 to R211; 15 R322, R323, R336, R337, R339, R340; 16 R347,
R358, R359, R362 to R364, R368, R376; 17 R402 to R404, R406; 07 R155, R159, R160). -/

namespace Sys2Proof.Machine

/-- FENCE (09 R198): later covered accesses wait behind it; the strand does not stall. -/
def execFence (cmask : BitVec 16) (scope : BitVec 3) (s : State) : Host.Outcome State Fault Refusal :=
  s.issue (.fence cmask scope) (fun s => s.addAcc 7 (.fence cmask.toNat scope.toNat) 16 [] 1 0)

/-- OWN.E (16 R358): the chunks become PINNED after the unit's earlier accesses to them. -/
def execOwnE (sa sl : BitVec 6) (s : State) : Host.Outcome State Fault Refusal :=
  s.issue (.ownE sa sl) (fun s => match s.ownSpan (s.S sa) (s.S sl) with
    | .error t => s.trapBefore t
    | .ok sp => if sp.homes = [] then s else s.addAcc 7 .pin 16 [sp] 1 0)

/-- A pending flip loses the chunks that a later OWN.P names. -/
def unpinAcc (cs : List Nat) (a : Access) : Access :=
  match a.act with
  | .pin => { a with spans := a.spans.map (fun sp => { sp with homes := sp.homes.filter (fun h => !cs.contains (chunkOf h)) }) }
  | _ => a

/-- OWN.P (16 R358): each PINNED chunk of the range becomes HELD or FREE. -/
def execOwnP (sa sl : BitVec 6) (s : State) : Host.Outcome State Fault Refusal :=
  s.issue (.ownP sa sl) (fun s => match s.ownSpan (s.S sa) (s.S sl) with
    | .error t => s.trapBefore t
    | .ok sp =>
      let cs := chunksOf sp.homes
      (s.modCore (fun c => { c with pinned := c.pinned.filter (fun k => !cs.contains k) })).modU (fun u =>
        { u with accs := u.accs.map (unpinAcc cs) }))

/-- WCHK (17 R402): the bundle waits, before it issues, for the mask bits; passing changes nothing. -/
def execWchk (m : BitVec 3) (sm : BitVec 6) (s : State) : Host.Outcome State Fault Refusal :=
  s.issue (.wchk m sm) (fun s => s)

/-- WENG (17 R403): the bundle waits, before it issues, for the engines; passing changes nothing. -/
def execWeng (eng : BitVec 2) (s : State) : Host.Outcome State Fault Refusal := s.issue (.weng eng) (fun s => s)

/-- SIG (16 R368): an add at the home, the old value scoreboarded. Accesses of the Y slot have service class 1 and no deadline: 07 R170's
table does not list them. DESIGN CHOICE (log 98). -/
def execSig (sa sv : BitVec 6) (oc : BitVec 4) (d : BitVec 6) (s : State) : Host.Outcome State Fault Refusal :=
  s.issue (.sig sa sv oc d) (fun s => match s.sigSpan (s.S sa) kBoth with
    | .error t => s.trapBefore t
    | .ok sp => s.addAcc 7 (.atomic .add (s.S sv) 0 d.toNat) oc.toNat [sp] 1 0)

/-! Blocking instructions. -/

/-- The modes of WSIG (03 R85): ge, eq, ne, all, any. -/
def sigMode (mode : Nat) (v x : Word) : Bool :=
  match mode with
  | 0 => x.ule v
  | 1 => v = x
  | 2 => v ≠ x
  | 3 => v &&& x = x
  | _ => v &&& x ≠ 0

/-- Where a blocking instruction stands: it may go with a value, its effect at the home done already or not; it waits,
with a request to leave at the home or none; or a cause is raised before issue. -/
inductive Try where
  | go (v : Word) (done : Bool)
  | wait (req : Option Waiter)
  | trap (t : Trap)
  deriving DecidableEq, Repr

/-- The home of the operand of a blocking instruction; a bad word raises MEM_UE with KIND 3 (13 R283). -/
def State.blockHome (s : State) (sp : Span) (slot : Nat) (wr : Bool) : Except Trap Nat :=
  match s.resolve sp slot wr true with
  | .error t => .error t
  | .ok hs =>
    let h := hs.headD 0
    if Memory.bad (s.mem.eccOf h) then .error ⟨cMEM_UE, ueInfo sp hs 0 3 slot wr⟩ else .ok h

/-- The request of the unit in front at a home. -/
def State.myRequest (s : State) (h : Nat) : Option Waiter :=
  s.waiters.find? (fun x => decide (x.who = s.u.who) && x.addr = h)

/-- A request of another unit of the same kind stands before this one at the home (09 R208). -/
def State.queued (s : State) (h : Nat) (same : Wait → Bool) : Bool :=
  (s.waiters.takeWhile (fun x => !(decide (x.who = s.u.who) && x.addr = h))).any (fun x =>
    x.addr = h && x.served.isNone && same x.wait)

def isTake (w : Wait) : Bool := match w with | .take => true | _ => false
def isPutf (w : Wait) : Bool := match w with | .putf _ => true | _ => false

/-- A request that is not at its home yet is left there; one that is stays in its place. -/
def State.leave (s : State) (h : Nat) (w : Wait) : Try :=
  .wait (if (s.myRequest h).isSome then none else some ⟨s.u.who, h, w, none⟩)

/-- The accesses of the bundles before the one at PC. A bundle's own accesses begin when it issues, so they hold back no blocking
instruction of the bundle, whose condition comes before its issue: DEDUCED (log 79). -/
def State.olderAccs (s : State) : List Access := s.u.accs.filter (fun a => a.issued ≠ s.now)

/-- The access of a blocking instruction to some homes may be made: earlier accesses of its class, and to its word, have performed (09
R196), for BARC every earlier access (09 R211), and no command holds their chunk (08 R188). -/
def State.blockOrder (s : State) (cls : Nat) (homes : List Nat) (allCls : Bool) : Bool :=
  let ws := (homes.map (· / 8)).eraseDups
  !s.core.addsTo s.u.who s.now 0 ws && !(chunksOf homes).any s.heldChunk &&
    (if allCls then s.olderAccs.all (fun a => a.cls = 16) else s.mayPerform s.olderAccs cls ws)

/-- What a blocking instruction meets at its operand's home, once its access may be made (09 R196, R205, R208): a cause, or its condition
`k` at the home. -/
def State.atHome (s : State) (sp : Except Trap Span) (slot : Nat) (wr : Bool) (cls : BitVec 4) (allCls : Bool) (k : Nat → Try) : Try :=
  match sp with
  | .error t => .trap t
  | .ok sp =>
    if !s.blockOrder cls.toNat (s.spanHomes sp) allCls then .wait none
    else match s.blockHome sp slot wr with
      | .error t => .trap t
      | .ok h => k h

def mailTry (s : State) (f : MemF) (slot : Nat) (k : Nat → Try) : Try :=
  s.atHome (s.memSpan slot f 3 kBoth true) slot true f.oc false k

def sigTry (s : State) (sa sv : BitVec 6) (oc : BitVec 4) (mode : BitVec 4) : Try :=
  s.atHome (s.sigSpan (s.S sa) kRead) 7 false oc false (fun h =>
    if sigMode mode.toNat (s.mem.word h) (s.S sv) then .go (s.mem.word h) false else .wait none)

def barTry (s : State) (sa sn : BitVec 6) (oc : BitVec 4) (allCls : Bool) : Try :=
  s.atHome (s.sigSpan (s.S sa) kBoth) 7 true oc allCls (fun h =>
    match s.myRequest h with
    | some _ => .wait none
    | none =>
      let n := max 1 ((s.S sn).toNat % 2 ^ 32)
      let w := s.mem.word h
      if n ≤ w.toNat % 2 ^ 32 + 1 then .go 0 false else s.leave h (.bar (w.toNat / 2 ^ 32) n))

/-- What a blocking instruction that waits at no home meets (09 R206 to R211, 16 R376). -/
def State.tryFresh (s : State) (i : Instr) : Try :=
  match i with
  | .take f => mailTry s f 4 (fun h =>
      if s.mem.isFull h && !s.queued h isTake then .go (s.mem.word h) false else s.leave h .take)
  | .putf f => mailTry s f 5 (fun h =>
      if !s.mem.isFull h && !s.queued h isPutf then .go (s.S f.o) false else s.leave h (.putf (s.S f.o)))
  | .wsig sa sv oc _ mode | .wsiga sa sv oc _ mode => sigTry s sa sv oc mode
  | .bar sa sn oc => barTry s sa sn oc false
  | .barc sa sn oc => barTry s sa sn oc true
  | .tickw sv => if BitVec.ofNat 64 s.window.tick < s.S sv then .wait none else .go 0 false
  | _ => .go 0 false

/-- The value of the request of the unit in front that its home has served (09 R208, R211). -/
def State.servedValue (s : State) : Option Word :=
  (s.waiters.find? (fun x => decide (x.who = s.u.who) && (x.served.isSome || s.released x))).map (fun x => x.served.getD 0)

/-- Whether a blocking instruction may go: its request has been served, or its condition holds. -/
def State.tryBlock (s : State) (i : Instr) : Try :=
  match s.servedValue with
  | some v => .go v true
  | none => s.tryFresh i

/-- The unit is BLOCKED; a request is left at the home, and a barrier arrival is counted there (01 R20, 09 R211). -/
def State.blocked (s : State) (req : Option Waiter) : State :=
  let s1 := s.modU (fun u => { u with st := .blocked })
  match req with
  | none => s1
  | some r =>
    let s2 := { s1 with waiters := s1.waiters ++ [r] }
    match r.wait with
    | .bar _ _ => (s2.noteRead [r.addr]).writeWord r.addr (s2.mem.word r.addr + 1) (s2.mem.modeOf r.addr)
    | _ => s2

/-- Takes the request of the unit in front off the list. -/
def State.dropRequest (s : State) : State :=
  { s with waiters := s.waiters.filter (fun x => decide (x.who ≠ s.u.who)) }

/-- The homes of the word that a blocking instruction reads. -/
def State.blockHomes (s : State) (i : Instr) : List Nat :=
  let at' (sp : Except Trap Span) : List Nat := match sp with | .ok x => s.spanHomes x | .error _ => []
  match i with
  | .take f => at' (s.memSpan 4 f 3 kBoth true)
  | .putf f => at' (s.memSpan 5 f 3 kBoth true)
  | .wsig sa _ _ _ _ | .wsiga sa _ _ _ _ => at' (s.sigSpan (s.S sa) kRead)
  | .bar sa _ _ | .barc sa _ _ => at' (s.sigSpan (s.S sa) kBoth)
  | _ => []

/-- A blocking instruction raises a cause before issue: what its read found at the home is noted (13 R283, R286, R287). -/
def State.blockTrap (s : State) (i : Instr) (t : Trap) : State :=
  (if t.cause = cMEM_UE then s.noteRead (s.blockHomes i) else s).trapBefore t

/-- A blocking instruction: it goes, waits, or raises its cause before issue. `home` is its effect at the home, `land`
what it does with its value. -/
def State.blocking (s : State) (i : Instr) (home land : Word → State → State) : State :=
  match s.tryBlock i with
  | .trap t => s.blockTrap i t
  | .wait r => s.blocked r
  | .go v done => land v (if done then s.dropRequest else home v (s.noteRead (s.blockHomes i)).dropRequest)

/-- A value scoreboarded in d (02 R53). -/
def State.landSoon (s : State) (slot d : Nat) (v : Word) : State := s.addAcc slot (.value d v) 16 [] 1 0

/-- TAKE's value, scoreboarded in r, with the service class and the deadline of the request (07 R170). -/
def State.landTaken (s : State) (f : MemF) (v : Word) : State :=
  s.addAcc 4 (.value (memR f) v) 16 [] f.svc.toNat s.deadlineLeft

/-- The home word of a MEM operand, for a home effect. -/
def State.memHome (s : State) (f : MemF) (slot : Nat) : Nat :=
  match s.memSpan slot f 3 kBoth true with | .ok sp => (s.spanHomes sp).headD 0 | .error _ => 0

/-- A mailbox word emptied by TAKE, filled by PUTF (09 R207). -/
def State.takeWord (s : State) (h : Nat) : State := s.modMem (fun m => m.setFull h false)
def State.putWord (s : State) (h : Nat) (v : Word) : State :=
  (s.writeWord h v (s.mem.modeOf h)).modMem (fun m => m.setFull h true)

/-- The new word of a barrier that releases (09 R211). -/
def nextGen (w : Word) : Word := BitVec.ofNat 64 ((w.toNat / 2 ^ 32 + 1) % 2 ^ 32 * 2 ^ 32)

def State.sigHome (s : State) (sa : BitVec 6) : Nat :=
  match s.sigSpan (s.S sa) kBoth with | .ok sp => (s.spanHomes sp).headD 0 | .error _ => 0

def State.releaseBar (s : State) (sa : BitVec 6) : State :=
  let h := s.sigHome sa
  s.writeWord h (nextGen (s.mem.word h)) (s.mem.modeOf h)

/-- TAKE (16 R359, 09 R207, R208). -/
def execTake (f : MemF) (s : State) : Host.Outcome State Fault Refusal :=
  s.issue (.take f) (fun s => s.blocking (.take f) (fun _ s => s.takeWord (s.memHome f 4))
    (fun v s => s.landTaken f v))

/-- PUTF (16 R359, 09 R207, R208). -/
def execPutf (f : MemF) (s : State) : Host.Outcome State Fault Refusal :=
  s.issue (.putf f) (fun s => s.blocking (.putf f) (fun v s => s.putWord (s.memHome f 5) v) (fun _ s => s))

/-- BAR (15 R323, 09 R211). -/
def execBar (sa sn : BitVec 6) (oc : BitVec 4) (s : State) : Host.Outcome State Fault Refusal :=
  s.issue (.bar sa sn oc) (fun s => s.blocking (.bar sa sn oc) (fun _ s => s.releaseBar sa) (fun _ s => s))

/-- BARC (15 R323, 09 R211). -/
def execBarc (sa sn : BitVec 6) (oc : BitVec 4) (s : State) : Host.Outcome State Fault Refusal :=
  s.issue (.barc sa sn oc) (fun s => s.blocking (.barc sa sn oc) (fun _ s => s.releaseBar sa) (fun _ s => s))

/-- WSIG (17 R404, 09 R206). -/
def execWsig (sa sv : BitVec 6) (oc : BitVec 4) (d : BitVec 6) (mode : BitVec 4) (s : State) :
    Host.Outcome State Fault Refusal :=
  s.issue (.wsig sa sv oc d mode) (fun s => s.blocking (.wsig sa sv oc d mode) (fun _ s => s)
    (fun v s => s.landSoon 7 d.toNat v))

/-- WSIGA (17 R404, 09 R205): every later access performs after its read, which has been made when it issues. -/
def execWsiga (sa sv : BitVec 6) (oc : BitVec 4) (d : BitVec 6) (mode : BitVec 4) (s : State) :
    Host.Outcome State Fault Refusal :=
  s.issue (.wsiga sa sv oc d mode) (fun s => s.blocking (.wsiga sa sv oc d mode) (fun _ s => s)
    (fun v s => s.landSoon 7 d.toNat v))

/-- TICKW (16 R376): the bundle does not issue while TICK is below the target. -/
def execTickw (sv : BitVec 6) (s : State) : Host.Outcome State Fault Refusal :=
  s.issue (.tickw sv) (fun s => s.blocking (.tickw sv) (fun _ s => s) (fun _ s => s))

/-- One request at a home served if it can be (09 R208, R211). -/
def State.serveOne (s : State) (x : Waiter) : State :=
  let mark (v : Word) (s : State) : State :=
    { s with waiters := updFirst (fun y => decide (y = x)) (fun y => { y with served := some v }) s.waiters }
  if x.served.isSome || Memory.bad (s.mem.eccOf x.addr) then s
  else match x.wait with
    | .take => if s.mem.isFull x.addr then mark (s.mem.word x.addr) ((s.noteRead [x.addr]).takeWord x.addr) else s
    | .putf v => if s.mem.isFull x.addr then s else mark 0 ((s.noteRead [x.addr]).putWord x.addr v)
    | .bar _ _ => if s.released x then mark 0 s else s
    | _ => s

/-- YIELD (17 R406): the hold on issue counts as a full quantum. -/
def execYield (s : State) : Host.Outcome State Fault Refusal :=
  s.issue .yield (fun s => s.modCore (fun c => { c with yielded := true }))

/-! Allocations (07 R155 to R160). -/

/-- The lowest granule from which z granules overlap no allocation of the unit. -/
def Core.lowestBase (c : Core) (w : UnitId) (z : Nat) : Option Nat :=
  (List.range (321 - z)).find? (fun g => (c.allocs.filter (fun a => decide (a.who = w))).all
    (fun a => g + z ≤ a.base || a.base + a.size ≤ g))

/-- A failure value of ALLOC. -/
def allocFail (k : Nat) : Word := 0x3C00000000000000 ||| BitVec.ofNat 64 k

/-- ALLOC's grant, and its result (07 R155). -/
def State.grant (s : State) (z life : Nat) (h st k : Bool) : State × Word :=
  if z = 0 || 320 < z then (s, allocFail 1)
  else if life = 0 then (s, allocFail 2)
  else if Config.maxRecords ≤ s.core.allocs.length then (s, allocFail 3)
  else if s.core.freeFor s.u.who < 2 * z then (s, allocFail 4)
  else match s.core.lowestBase s.u.who z with
    | none => (s, allocFail 5)
    | some g =>
      let cs := s.core.freeChunks.take (2 * z)
      let a : Alloc := { who := s.u.who, base := g, size := z, h := h, stg := st, k := k, expired := false, life := life,
                         expiry := s.now + min life s.die.retn, lastren := s.now, chunks := cs }
      ((s.freshChunks s.core.index cs).modCore (fun c => { c with allocs := c.allocs ++ [a] }),
        BitVec.ofNat 64 (g * 1024))

/-- ALLOC (15 R322). -/
def execAlloc (d sz lf : BitVec 6) (h st k : Bool) (s : State) : Host.Outcome State Fault Refusal :=
  s.issue (.alloc d sz lf h st k) (fun s =>
    let r := s.grant (s.S sz).toNat (s.S lf).toNat h st k
    r.1.addAcc 7 (.granted d.toNat r.2) 16 [] 1 0)

/-- FREE (15 R337, 07 R160): the record, its chunks and their pins are given back. What the unit has outstanding in them performs first:
DEDUCED (log 100). -/
def execFree (sa : BitVec 6) (s : State) : Host.Outcome State Fault Refusal :=
  s.issue (.free sa) (fun s => match s.core.allocBase s.u.who (s.S sa) with
    | none => s
    | some a =>
      let cs := a.chunks.map (fun k => s.core.index * 1024 + k)
      let p := s.performIn cs
      (p.st.modU (fun u => u.hold p.fault)).modCore (fun c => { c with
        allocs := dropFirst (fun b => decide (b = a)) c.allocs,
        pinned := c.pinned.filter (fun k => !cs.contains k) }))

/-- RENEW (16 R364, 07 R159): the rewrite keeps the contents. -/
def execRenew (sa : BitVec 6) (s : State) : Host.Outcome State Fault Refusal :=
  s.issue (.renew sa) (fun s => match s.core.allocBase s.u.who (s.S sa) with
    | none => s
    | some a => s.modCore (fun c => { c with allocs := updFirst (fun b => decide (b = a)) (fun b =>
        { b with lastren := s.now, expiry := s.now + min b.life s.die.retn }) c.allocs }))

/-- MARK (16 R347, 12 R268): the entry is written after every earlier access of the unit. -/
def execMark (sa : BitVec 6) (tag : BitVec 16) (s : State) : Host.Outcome State Fault Refusal :=
  s.issue (.mark sa tag) (fun s => s.addAcc 7 (.mark tag.toNat (s.S sa)) 16 [] 1 0)

/-- HINT (15 R340): ESTIMATE, latency 1. -/
def execHint (sa : BitVec 6) (s : State) : Host.Outcome State Fault Refusal :=
  s.issue (.hint sa) (fun s => s.sched 7 (.special 0x13) 1 [⟨(s.S sa).setWidth 512, 0⟩] false 0 0)

/-- HIBQ (15 R339): the value is taken when the request is served. -/
def execHibq (d : BitVec 6) (which : BitVec 2) (s : State) : Host.Outcome State Fault Refusal :=
  s.issue (.hibq d which) (fun s => s.addAcc 7 (.hibq d.toNat which.toNat) 16 [] 1 0)

/-- QBIND (16 R363): the previous binding ends; with s0 the latch is unbound, else its channel's header is read, as an
access of class 0. -/
def execQbind (q : BitVec 3) (sc : BitVec 6) (fmt : BitVec 4) (s : State) : Host.Outcome State Fault Refusal :=
  s.issue (.qbind q sc fmt) (fun s =>
    let keep (a : Access) : Bool := match a.act with | .qhead p => p ≠ q.toNat | _ => true
    let s1 := s.modU (fun u => { u.setLatch q.toNat Latch.none with accs := u.accs.filter keep })
    if sc = 0 then s1
    else
      let l : Latch := { bound := true, chan := s.S sc, fmt := fmt.toNat, pos := 0, head := none, cause := none, logn := none }
      let spans := match s.check 7 (s.S sc) 64 kRead 0 with | .ok sp => [sp] | .error _ => []
      (s1.modU (fun u => u.setLatch q.toNat l)).addAcc 7 (.qhead q.toNat) 0 spans 1 0)

end Sys2Proof.Machine
end

