-- ==== Sys2Proof/Machine/Array.lean ====
section
/-! DEFINITION. The arithmetic of the matrix array: plane layout (08 R173, R177, R178), accumulation (06 R145 to R147), and
the operands that its commands read (08 R179, 16 R352 to R354). -/

namespace Sys2Proof.Machine

/-- The fields of an M-slot word (03 R77). -/
def mAcc (w : Word) : Nat := bitsAt w.toNat 51 5
def mHnd (w : Word) : Nat := bitsAt w.toNat 46 5
def mOc (w : Word) : Nat := bitsAt w.toNat 30 4
def mZ (w : Word) : Bool := bitOf w.toNat 28
def mFmt (w : Word) : Nat := bitsAt w.toNat 24 4

/-- Streams are MSTR, MSTR.T, MSTRH, MGRP and MSPS; they and MSWP may exchange the planes (08 R176). -/
def isStreamOp (op : Nat) : Bool := 8 ≤ op && op ≤ 12
def swapsOp (op : Nat) : Bool := isStreamOp op || op = 7
/-- MLDSH and MSTRH fetch through a handle. -/
def isHandleOp (op : Nat) : Bool := op = 5 || op = 10

/-- The depth K of a format (08 R173), and Kactive under a band mask. -/
def depthOf (f : Nat) : Nat := match f with | 8 => 256 | 9 => 512 | 10 => 1024 | _ => 128
def kDense (f mask : Nat) : Nat := depthOf f * popCount 4 mask / 4

/-- The bytes that k consecutive elements take (08 R177). -/
def kBytes (f k : Nat) : Nat := if isBse f then k / 16 * bseBlock f else k * tagBytes f

def isArrayFmt (f : Nat) : Bool := isFp f || isBse f

/-- The stored depth of a plane: half of kact when it is sparse. -/
def Plane.stored (p : Plane) : Nat := if p.sparse then p.kact / 2 else p.kact
def Plane.colBytes (p : Plane) : Nat := kBytes p.fmt p.stored

/-- Bytes of column n. -/
def Plane.column (p : Plane) (n : Nat) : List Byte :=
  (List.range p.colBytes).map (fun i => lookup 0 p.data (n * p.colBytes + i))

/-- The masks of column n, one nibble for each group of four k (08 R178). -/
def Plane.columnMasks (p : Plane) (n : Nat) : List Nat :=
  (List.range (p.kact / 4)).map (fun q => bitsAt (lookup 0 p.masks (n * (p.kact / 8) + q / 2)).toNat (4 * (q % 2)) 4)

/-- Where the stored values of 2-of-4 data go: for each k, the index of the stored value, or none (08 R178). -/
def spread : Nat → List Nat → List (Option Nat)
  | _, [] => []
  | i, m :: r =>
    let a := (if m.testBit 0 then 1 else 0) + (if m.testBit 1 then 1 else 0)
    [if m.testBit 0 then some i else none, if m.testBit 1 then some (i + (if m.testBit 0 then 1 else 0)) else none,
     if m.testBit 2 then some (i + a) else none,
     if m.testBit 3 then some (i + a + (if m.testBit 2 then 1 else 0)) else none] ++ spread (i + 2) r

/-- Elements of a byte string in a floating-point format. -/
def bytesFp (f : Nat) (bs : List Byte) : List Fp :=
  (pieces (tagBytes f) (bs.length / tagBytes f) bs).map (fun b => readFp f (bytesNat b))

def fpZero : Fp := .num false 0 0

/-- An element of a BSE block with its quad's micro-exponent (06 R146). -/
structure BseElt where
  neg : Bool
  mag : Nat
  mu : Nat
  deriving DecidableEq, Repr

/-- A block as the array meets it: the shared exponent and sixteen elements. -/
structure ArrayBlock where
  e : Nat
  elts : List BseElt
  deriving DecidableEq, Repr

def toArrayBlock (b : BseBlock) : ArrayBlock :=
  ⟨b.e, b.elts.mapIdx (fun i x => ⟨x.1, x.2, b.mu.getD (i / 4) 0⟩)⟩

def bytesBlocks (f : Nat) (bs : List Byte) : List ArrayBlock :=
  (pieces (bseBlock f) (bs.length / bseBlock f) bs).map (fun b => toArrayBlock (readBlock f (bytesNat b)))

/-- Sparse blocks expanded: block p of sixteen k takes the exponent of the stored block that holds its values. -/
def expandBlocks (bs : List ArrayBlock) (masks : List Nat) : List ArrayBlock :=
  let at' := spread 0 masks
  (List.range (at'.length / 16)).map (fun p =>
    ⟨(bs.getD (p / 2) ⟨0, []⟩).e, ((at'.drop (16 * p)).take 16).map (fun o => match o with
      | none => ⟨false, 0, 0⟩
      | some i => ((bs.getD (i / 16) ⟨0, []⟩).elts.getD (i % 16) ⟨false, 0, 0⟩))⟩)

/-- A column of a plane as values along k, in the FP formats and in the BSE formats. -/
def Plane.fpColumn (p : Plane) (n : Nat) : List Fp :=
  let vs := bytesFp p.fmt (p.column n)
  if p.sparse then (spread 0 (p.columnMasks n)).map (fun o => (o.map (fun i => vs.getD i fpZero)).getD fpZero)
  else vs
def Plane.bseColumn (p : Plane) (n : Nat) : List ArrayBlock :=
  let bs := bytesBlocks p.fmt (p.column n)
  if p.sparse then expandBlocks bs (p.columnMasks n) else bs

/-- What accumulation leaves: the FP32 word, the flags by 06 R133, and the saturations of the inner accumulator. -/
structure AccOut where
  val : Nat
  flags : Nat
  sat : Nat
  deriving DecidableEq, Repr

/-- The flags that matrix commands set (06 R133). -/
def mFlags (fl : Nat) : Nat := Nat.land fl (flInvalid + flOverflow)

/-- acc := RoundFP32(acc + a × b) for k ascending (06 R145). -/
def accFp (acc : AccOut) (as bs : List Fp) : AccOut :=
  (as.zip bs).foldl (fun c (a, b) =>
    let r := fpFma 1 0 0 a b (readFp 1 c.val)
    ⟨r.val, Nat.lor c.flags (mFlags r.flags), c.sat⟩) acc

/-- X(p) and P(p) of a block pair (06 R146). -/
def pairExp (m : Nat) (a b : ArrayBlock) : Int := (a.e : Int) + b.e - 254 - 2 * (m - 1 : Nat) - 6
def pairSum (a b : ArrayBlock) : Int :=
  ((a.elts.zip b.elts).map (fun (x, y) =>
    (if x.neg = y.neg then (1 : Int) else -1) * ((x.mag * y.mag * 2 ^ (6 - x.mu - y.mu) : Nat) : Int))).sum

/-- One promotion window (06 R147): the inner accumulator, whether a NaN pair was met, and its saturations. -/
def windowSum (m : Nat) (x0 : Int) (ps : List (ArrayBlock × ArrayBlock)) : Int × Bool × Nat :=
  ps.foldl (fun (acc : Int × Bool × Nat) (a, b) =>
    let (i, nan, sat) := acc
    let d := pairExp m a b - x0
    let p := pairSum a b
    let t : Int := if 0 ≤ d then p * (2 ^ d.toNat : Nat) else p.tdiv (2 ^ (-d).toNat : Nat)
    let i1 := i + t
    let nan1 := nan || a.e = 0xFF || b.e = 0xFF
    if 2 ^ 31 - 1 < i1 then (2 ^ 31 - 1, nan1, sat + 1)
    else if i1 < -(2 ^ 31 - 1) then (-(2 ^ 31 - 1), nan1, sat + 1)
    else (i1, nan1, sat)) (0, false, 0)

/-- The windows of 2^PROM pairs taken in turn (06 R147). -/
def accBse (m prom : Nat) : Nat → AccOut → List (ArrayBlock × ArrayBlock) → AccOut
  | 0, c, _ => c
  | n + 1, c, ps =>
    match ps with
    | [] => c
    | (a, b) :: _ =>
      let x0 := pairExp m a b
      let (i, nan, sat) := windowSum m x0 (ps.take (2 ^ prom))
      let c1 : AccOut :=
        if nan then ⟨nanOf 1, c.flags, c.sat + sat⟩
        else
          let v := roundFmt 1 0 0 (.num (i < 0) i.natAbs x0)
          let r := fpAdd 1 0 0 (readFp 1 c.val) (readFp 1 v.val)
          ⟨r.val, Nat.lor c.flags (Nat.lor (mFlags v.flags) (mFlags r.flags)), c.sat + sat⟩
      accBse m prom n c1 (ps.drop (2 ^ prom))

/-- A streamed row as values (08 R179): bytes, with masks for sparse activation rows. -/
structure StreamRow where
  bytes : List Byte
  masks : Option (List Nat)
  deriving DecidableEq, Repr

def StreamRow.fp (r : StreamRow) (f : Nat) : List Fp :=
  let vs := bytesFp f r.bytes
  match r.masks with
  | none => vs
  | some ms => (spread 0 ms).map (fun o => match o with | none => fpZero | some i => vs.getD i fpZero)
def StreamRow.blocks (r : StreamRow) (f : Nat) : List ArrayBlock :=
  let bs := bytesBlocks f r.bytes
  match r.masks with
  | none => bs
  | some ms => expandBlocks bs ms

/-- One output element: the row against column n of the active plane; through an INVALID plane +0 is added (08 R176). -/
def arrayElt (p : Plane) (f prom : Nat) (row : StreamRow) (n acc : Nat) : AccOut :=
  if p.st ≠ .valid then ⟨if acc = 2 ^ 31 then 0 else acc, 0, 0⟩
  else if isBse f then
    accBse (bseM f) prom 1024 ⟨acc, 0, 0⟩ ((row.blocks f).zip (p.bseColumn n))
  else accFp ⟨acc, 0, 0⟩ (row.fp f) (p.fpColumn n)

/-- An accumulator word: a tile that is not live reads zero (05 R115). -/
def Matrix.accAt (m : Matrix) (t r c : Nat) : BitVec 32 :=
  if m.live.contains t then lookup 0 m.acc (16384 * t + 128 * r + c) else 0

/-- Writes accumulator words (row, column, value) of a tile and sets its live bit. -/
def Matrix.writeAcc (m : Matrix) (t : Nat) (xs : List (Nat × Nat × Nat)) : Matrix :=
  { m with
    acc := xs.foldl (fun a (r, c, v) => put 0 a (16384 * t + 128 * r + c) (BitVec.ofNat 32 v)) m.acc,
    live := if m.live.contains t then m.live else insertBy id t m.live }

/-- MZA: the live bit cleared, and with it the words (05 R115). -/
def Matrix.clearAcc (m : Matrix) (t : Nat) : Matrix :=
  { m with
    acc := m.acc.filter (fun (k, _) => k / 16384 ≠ t),
    live := m.live.filter (fun n => n ≠ t) }

/-- R176's exchange when the shadow plane is VALID. -/
def Matrix.exchange (m : Matrix) : Matrix :=
  if m.shadow.st = .valid then { m with active := m.shadow, shadow := Plane.none } else m

/-- The live bit alone set, the words of the tile as they are. -/
def Matrix.isLive (m : Matrix) (t : Nat) : Bool := m.live.contains t

end Sys2Proof.Machine
end

