-- ==== Sys2Proof/Machine/Matrix.lean ====
section
/-! DEFINITION. The matrix commands (08 R173 to R184; 16 R349 to R355): issue, acceptance, steps, completion and faults, and
the gating of bands (08 R175). -/

namespace Sys2Proof.Machine

/-! What a command names. -/

/-- The handle of MLDSH and MSTRH, captured at issue. -/
def MCmd.hdl (c : MCmd) : Handle := readHandle c.hnd

/-- The format of a command: flags[3:0], or the handle's (16 R353). -/
def MCmd.fmt (c : MCmd) : Nat := if isHandleOp (mOp c.word) then c.hdl.fmt else mFmt c.word

/-- The depth a load gives its plane: doubled when sparse (08 R178). -/
def MCmd.loadDepth (c : MCmd) : Nat := kDense c.fmt c.mask * (if mOp c.word = 6 then 2 else 1)

/-- Elements of a staged row (16 R353). -/
def Handle.rowElts (h : Handle) : Nat := if isBse h.fmt then h.rowb / bseBlock h.fmt * 16 else h.rowb / tagBytes h.fmt

/-- The k-rows that a load reads, as stored. -/
def MCmd.loadRows (c : MCmd) : Nat :=
  match mOp c.word with
  | 5 => c.hdl.rows * c.hdl.rowElts
  | 6 => c.loadDepth / 2
  | _ => c.snv.toNat

/-- The rows of a stream or of MWRA. -/
def MCmd.rows (c : MCmd) : Nat := if mOp c.word = 10 then c.hdl.rows else bitsAt c.snv.toNat 0 8

/-- The steps of a command (08 R183), the fetch of a handle apart. -/
def MCmd.steps (c : MCmd) : Nat :=
  if isLoadOp (mOp c.word) then 2 else if isStreamOp (mOp c.word) then (c.rows + 15) / 16 else 1

/-- The least cycles of a command (08 R424). -/
def MCmd.minCycles (c : MCmd) : Nat :=
  let slow := if c.fmt = 1 then 4 else 1
  let op := mOp c.word
  if isLoadOp op then c.loadRows * slow
  else if isStreamOp op then c.rows * slow
  else match op with
    | 15 | 16 => c.snv.toNat
    | 14 => c.rows
    | 2 => 128
    | _ => 1

/-- The bytes of one k-row, row or block that errors take together: a BSE block, else single granules (07 R172). -/
def blockOfFmt (f : Nat) : Nat := if isBse f then bseBlock f else 0

/-- The alignment of array elements as a logarithm (16 R350). -/
def eltLog (f : Nat) : Nat := match f with | 1 => 2 | 2 => 1 | 3 => 1 | 8 => 1 | _ => 2

/-- A byte of an operand n bytes on. -/
def addOff (a : Word) (n : Nat) : Word := mkPaddr (pSpace a) (pXi a) (pOff a + n)

/-- The bytes that staging takes: rows × STRIDE, or the rows themselves where more, and the trailer (08 R180). -/
def Handle.stageRows (h : Handle) : Nat := max (h.rows * h.stride) ((h.rows - 1) * h.stride + h.rowb)
def Handle.stageBytes (h : Handle) : Nat := h.stageRows + (if h.trl then 16 else 0)

/-- The memory operands of a command at depth `kact`: PADDR, bytes and alignment (08 R177, R179; 16 R352, R353). The rows of
a staged tile come first, then its trailer. -/
def MCmd.ranges (c : MCmd) (kact : Nat) : List (Word × Nat × Nat) :=
  let f := c.fmt
  let rb := kBytes f kact
  match mOp c.word with
  | 3 => [(c.sav, 128 * kBytes f c.snv.toNat, eltLog f)]
  | 4 => [(c.sav, c.snv.toNat * 128 * tagBytes f, eltLog f)]
  | 5 | 10 =>
    (List.range c.hdl.rows).map (fun j => (addOff c.hdl.addr (j * c.hdl.stride), c.hdl.rowb, eltLog f)) ++
      (if c.hdl.trl then [(mkPaddr (pSpace c.hdl.addr) (pXi c.hdl.addr) (trailerOff c.hdl), 16, 0)] else [])
  | 6 => [(c.sav, 128 * kBytes f (kact / 2), eltLog f), (c.snv, 128 * (kact / 8), 0)]
  | 8 | 11 => [(c.sav, c.rows * rb, eltLog f)]
  | 9 => [(c.sav, kact * c.rows * tagBytes f, eltLog f)]
  | 12 =>
    let moff := bitsAt c.snv.toNat 16 16
    let stride := bitsAt c.snv.toNat 32 32
    (List.range c.rows).flatMap (fun j =>
      [(addOff c.sav (j * stride), kBytes f (kact / 2), eltLog f), (addOff c.sav (j * stride + moff), kact / 8, 0)])
  | 14 => [(c.sav, c.rows * 512, 2)]
  | _ => []

/-! Memory as an engine reaches it: at the homes, and OWNER does not apply (08 R188). -/

/-- The span of an operand, a PEER offset found in the target's allocations (08 R184). One of a gated cluster is judged at its step, by the
gate (13 R294). -/
def State.engineSpan (s : State) (slot : Nat) (a : Word) (n : Nat) (k : AccKind) : Except Trap Span :=
  if n = 0 then .ok ⟨pSpace a, pXi a, pOff a, 0, [], none, false, 0, 0⟩
  else match s.check slot a n k 0 with
    | .error t => .error t
    | .ok sp => match sp.peer with
      | none => .ok sp
      | some (ci, w) =>
        match s.coreAt ci with
        | none => .error ⟨cSPAD_BOUNDS, memInfo sp.xi 0 slot k.wr sp.off⟩
        | some c => match c.locate w sp.off sp.size with
          | .error o => if s.gatedCore ci then .ok sp else .error ⟨cSPAD_BOUNDS, memInfo sp.xi 0 slot k.wr o⟩
          | .ok (_, hs) => .ok { sp with homes := hs }

/-- Whether a span lies in an expired allocation (07 R157). -/
def State.spanStale (s : State) (sp : Span) : Bool :=
  let old (c : Core) (w : UnitId) : Bool := match c.allocAt w sp.off with | some a => a.isExpired s.now | none => false
  match sp.space, sp.peer with
  | 0, _ => old s.core s.u.who
  | _, some (ci, w) => match s.coreAt ci with | some c => old c w | none => false
  | _, none => false

/-- The span at the step that reads or writes it: a gated target and, for reads, an expired allocation stop it (08
R184). -/
def State.engineAt (s : State) (slot : Nat) (a : Word) (n : Nat) (k : AccKind) : Except Trap Span :=
  match s.engineSpan slot a n k with
  | .error t => .error t
  | .ok sp =>
    let gate := match sp.peer with | some (ci, _) => s.gatedCore ci | none => false
    if gate then .error ⟨cPEER_GATED, memInfo sp.xi 0 slot k.wr sp.off⟩
    else if k.rd && s.spanStale sp then .error ⟨cSTALE, memInfo sp.xi 0 slot k.wr sp.off⟩
    else .ok sp

/-- MEM_UE of an engine's read of a bad granule under STRICT (13 R283). -/
def State.engineFault (s : State) (sp : Span) (slot : Nat) : Option Trap :=
  match sp.homes.findIdx? (fun a => Memory.bad (s.mem.eccOf a) && s.strictAt a) with
  | none => none
  | some i => some ⟨cMEM_UE, ueInfo sp sp.homes i (if s.mem.eccOf (sp.homes.getD i 0) = .poisoned then 1 else 0) slot false⟩

/-- The bytes an engine reads from one operand, with the errors delivered as zeros and their number (07 R172, 13
R283). -/
def State.engineBytes (s : State) (sp : Span) (blk : Nat) : List Byte × Nat :=
  let marked := sp.homes.map (fun a => (s.mem.byte a, Memory.bad (s.mem.eccOf a)))
  if blk = 0 then (zeroBad marked, (s.mem.badGranules sp.homes).length) else zeroBadBlocks blk marked

/-- What reading gives: the bytes of each operand, or the cause, and the errors delivered as zeros, still to be counted. -/
structure EngineRead where
  st : State
  data : Except Trap (List (List Byte))
  errs : Nat

/-- Operands read in order (PADDR, bytes, block size). -/
def State.engineFetch (s : State) (slot : Nat) : List (Word × Nat × Nat) → EngineRead
  | [] => ⟨s, .ok [], 0⟩
  | (a, n, blk) :: r =>
    match s.engineAt slot a n kRead with
    | .error t => ⟨s, .error t, 0⟩
    | .ok sp =>
      match s.engineFault sp slot with
      | some t => ⟨s.noteRead sp.homes, .error t, 0⟩
      | none =>
        let (bs, e) := s.engineBytes sp blk
        let rest := State.engineFetch (s.noteRead sp.homes) slot r
        ⟨rest.st, (match rest.data with | .error t => .error t | .ok l => .ok (bs :: l)), e + rest.errs⟩

/-- Operands read, their errors counted in ERRCNT. -/
def State.engineReads (s : State) (slot : Nat) (l : List (Word × Nat × Nat)) : EngineRead :=
  let r := s.engineFetch slot l
  { r with st := r.st.modU (fun u => u.addErr r.errs) }

/-! Issue (16 R350). -/

def Core.nextM (c : Core) : Nat := c.matrix.buf.foldl (fun m x => max m (x.seq + 1)) 0

/-- The depth of a stream, fixed at issue (08 R174). -/
def Matrix.streamDepth (m : Matrix) (f mask : Nat) : Nat :=
  match (m.buf.filter (fun x => isLoadOp (mOp x.word))).getLast? with
  | some c => c.loadDepth
  | none =>
    let p := if m.shadow.st = .valid then m.shadow else m.active
    if p.st = .valid then p.kact else kDense f mask

def State.rangeChunks (s : State) (slot : Nat) (rs : List (Word × Nat)) (k : AccKind) : List Nat :=
  (rs.flatMap (fun (a, n) => match s.engineSpan slot a n k with | .ok sp => chunksOf sp.homes | .error _ => [])).eraseDups

/-- The operands of one step of a load, each with its place in the plane: data, or masks (08 R177, R178, R183). -/
structure LoadPart where
  addr : Word
  size : Nat
  pos : Nat
  inMasks : Bool
  deriving DecidableEq, Repr

/-- Step `st` of a load reads the stored k-rows lo to hi − 1. -/
def MCmd.loadParts (c : MCmd) (st : Nat) : List LoadPart :=
  let f := c.fmt
  let d := c.loadDepth
  let op := mOp c.word
  let stored := if op = 6 then d / 2 else d
  let n := c.loadRows
  let lo := min n (st * (stored / 2))
  let hi := if st = 0 then min n (stored / 2) else n
  let col := kBytes f stored
  match op with
  | 4 => ((List.range' lo (hi - lo)).flatMap (fun k => (List.range 128).map (fun x =>
      ⟨addOff c.sav ((k * 128 + x) * tagBytes f), tagBytes f, x * col + k * tagBytes f, false⟩)))
  | 6 =>
    let mh := d / 16
    (List.range 128).flatMap (fun x =>
      [⟨addOff c.sav (x * col + kBytes f lo), kBytes f (hi - lo), x * col + kBytes f lo, false⟩,
       ⟨addOff c.snv (x * (d / 8) + st * mh), mh, x * (d / 8) + st * mh, true⟩])
  | _ => (List.range 128).map (fun x =>
      ⟨addOff c.sav (x * kBytes f n + kBytes f lo), kBytes f (hi - lo), x * col + kBytes f lo, false⟩)

/-- The rows j0 to j0 + cnt − 1 of a stream: their operands and how the bytes make rows (08 R179, 16 R352, R353). -/
def MCmd.rowParts (c : MCmd) (kact j0 cnt : Nat) : List (Word × Nat × Nat) :=
  let f := c.fmt
  let rb := kBytes f kact
  let blk := blockOfFmt f
  match mOp c.word with
  | 9 => (List.range kact).map (fun k => (addOff c.sav ((k * c.rows + j0) * tagBytes f), cnt * tagBytes f, 0))
  | 10 => []
  | 12 =>
    let moff := bitsAt c.snv.toNat 16 16
    let stride := bitsAt c.snv.toNat 32 32
    (List.range' j0 cnt).flatMap (fun j =>
      [(addOff c.sav (j * stride), kBytes f (kact / 2), blk), (addOff c.sav (j * stride + moff), kact / 8, 0)])
  | _ => (List.range' j0 cnt).map (fun j => (addOff c.sav (j * rb), rb, blk))

/-- The operands that a command has still to read: all of them, and after a step those of the later ones. -/
def MCmd.unread (c : MCmd) : List (Word × Nat) :=
  let op := mOp c.word
  if isHandleOp op then (if c.fetched then [] else (c.ranges c.depth).map (fun (a, n, _) => (a, n)))
  else if c.next = 0 then (c.ranges c.depth).map (fun (a, n, _) => (a, n))
  else if isLoadOp op then (if c.next = 1 then (c.loadParts 1).map (fun x => (x.addr, x.size)) else [])
  else if isStreamOp op then (c.rowParts c.depth (16 * c.next) (c.rows - 16 * c.next)).map (fun (a, n, _) => (a, n))
  else []

/-- The staging allocation of MLDSH and MSTRH, until the last step has read it. -/
def MCmd.staging (c : MCmd) : List (Word × Nat) :=
  if isHandleOp (mOp c.word) && c.next < c.steps then [(c.sav, c.hdl.stageBytes)] else []

/-- The chunks a command holds: those that it has still to read, each until its last byte is read, and its staging allocation (08
R188). -/
def State.cmdChunks (s : State) (c : MCmd) : List Nat :=
  (s.rangeChunks 3 c.unread kRead ++ s.rangeChunks 3 c.staging kWrite).eraseDups

/-- The chunks of a command's LOC operands, locked from its issue to its completion (08 R191). -/
def State.cmdLocks (s : State) (c : MCmd) : List Nat :=
  (s.rangeChunks 3 ((c.unread.filter (fun (a, _) => pSpace a = 0))) kRead ++ s.rangeChunks 3 c.staging kWrite).eraseDups

/-- The start of an engine command as an access, issued now (09 R196, R200). -/
def startOf (matrix : Bool) (cls slot now : Nat) : Access :=
  { act := .start matrix, cls := cls, spans := [], slot := slot, epc := 0, svc := 0, issued := now, deadline := 0, aged := false,
    blks := [], part := [] }

/-- A command enters the M buffer with what its issue captured (16 R350). MCFG writes the configuration word in its own
issue cycle (16 R351). Its slack is the strand's M slack as it enters (log 94). The start of the command is an access of its class (09 R196, R200), and the rows that a read-out is to write
have a later write than those still to land (02 R55). -/
def State.enterM (s : State) (word sav snv : Word) (hnd : BitVec 256) (epc : Word) : State :=
  let c0 : MCmd :=
    { who := s.u.who, word := word, sav := sav, snv := snv, hnd := hnd, hreg := mHnd word,
      mask := s.u.regs.sr.ashape.toNat % 16, prom := s.u.regs.sr.prom.toNat % 8, ovf := s.u.cfg.getLsbD 0, epc := epc,
      entered := s.now, seq := s.core.nextM, running := false, began := 0, next := 0, fetched := false, stage := [],
      sat := 0, flags := 0, chunks := [], locks := [], depth := 0, aged := false, slack := s.u.time.mslack }
  let depth := if isLoadOp (mOp word) then c0.loadDepth else s.core.matrix.streamDepth c0.fmt c0.mask
  let c1 := { c0 with depth := depth }
  let c2 := { c1 with chunks := s.cmdChunks c1, locks := s.cmdLocks c1 }
  let s1 := if mOp word = 1 then s.modU (fun u => { u with cfg := snv &&& 1 }) else s
  let rows := match mOp word with
    | 15 => readOutRows sav snv
    | 16 => readOutRows sav snv ++ [bitsAt sav.toNat 21 11]
    | _ => []
  (s1.modMatrix (fun m => { m with buf := m.buf ++ [c2] })).modU (fun u =>
    { u.overtake 1 rows with accs := u.accs ++ [{ startOf true (mOc word) 3 s.now with epc := epc }] })

/-- An M-slot instruction issued by the strand in front. -/
def State.issueM (s : State) (i : Instr) (f : MA) : State :=
  s.enterM (encode i) (s.S f.sa) (s.S f.sn) (s.u.handle f.h.toNat) s.u.pc

/-- MCFG (16 R351). -/
def execMcfg (f : MA) (s : State) : Host.Outcome State Fault Refusal := s.issue (.mcfg f) (fun s => s.issueM (.mcfg f) f)
/-- MSCL (08 R182). -/
def execMscl (f : MA) (s : State) : Host.Outcome State Fault Refusal := s.issue (.mscl f) (fun s => s.issueM (.mscl f) f)
/-- MLDS (08 R177). -/
def execMlds (f : MA) (s : State) : Host.Outcome State Fault Refusal := s.issue (.mlds f) (fun s => s.issueM (.mlds f) f)
/-- MLDS.T (08 R177). -/
def execMldsT (f : MA) (s : State) : Host.Outcome State Fault Refusal := s.issue (.mldsT f) (fun s => s.issueM (.mldsT f) f)
/-- MLDSH (08 R177, R180). -/
def execMldsh (f : MA) (s : State) : Host.Outcome State Fault Refusal := s.issue (.mldsh f) (fun s => s.issueM (.mldsh f) f)
/-- MLDSP (08 R177, R178). -/
def execMldsp (f : MA) (s : State) : Host.Outcome State Fault Refusal := s.issue (.mldsp f) (fun s => s.issueM (.mldsp f) f)
/-- MSWP (08 R176). -/
def execMswp (f : MA) (s : State) : Host.Outcome State Fault Refusal := s.issue (.mswp f) (fun s => s.issueM (.mswp f) f)
/-- MSTR (08 R179). -/
def execMstr (f : MA) (s : State) : Host.Outcome State Fault Refusal := s.issue (.mstr f) (fun s => s.issueM (.mstr f) f)
/-- MSTR.T (08 R179). -/
def execMstrT (f : MA) (s : State) : Host.Outcome State Fault Refusal := s.issue (.mstrT f) (fun s => s.issueM (.mstrT f) f)
/-- MSTRH (08 R179, R180). -/
def execMstrh (f : MA) (s : State) : Host.Outcome State Fault Refusal := s.issue (.mstrh f) (fun s => s.issueM (.mstrh f) f)
/-- MGRP (08 R179). -/
def execMgrp (f : MA) (s : State) : Host.Outcome State Fault Refusal := s.issue (.mgrp f) (fun s => s.issueM (.mgrp f) f)
/-- MSPS (08 R179). -/
def execMsps (f : MA) (s : State) : Host.Outcome State Fault Refusal := s.issue (.msps f) (fun s => s.issueM (.msps f) f)
/-- MZA (08 R182). -/
def execMza (f : MA) (s : State) : Host.Outcome State Fault Refusal := s.issue (.mza f) (fun s => s.issueM (.mza f) f)
/-- MWRA (08 R182). -/
def execMwra (f : MA) (s : State) : Host.Outcome State Fault Refusal := s.issue (.mwra f) (fun s => s.issueM (.mwra f) f)
/-- MRDA (08 R182, 16 R354). -/
def execMrda (f : MA) (s : State) : Host.Outcome State Fault Refusal := s.issue (.mrda f) (fun s => s.issueM (.mrda f) f)
/-- MRDS (08 R182, 16 R354). -/
def execMrds (f : MA) (s : State) : Host.Outcome State Fault Refusal := s.issue (.mrds f) (fun s => s.issueM (.mrds f) f)
/-- MCAN (16 R355): acts at its issue and enters no buffer. -/
def execMcan (f : MA) (s : State) : Host.Outcome State Fault Refusal :=
  s.issue (.mcan f) (fun s => s.modCore (fun c => c.cancelMatrix s.u.who))

/-! Acceptance. -/

/-- A packed field out of range, a space that is not allowed, or an invalid handle (16 R350, R352 to R354). -/
def MCmd.badShape (c : MCmd) (u : Strand) (kact : Nat) : Bool :=
  let sn := c.snv.toNat
  let okRows := 1 ≤ c.rows && c.rows ≤ 128
  let handleBad := !c.hdl.valid || !isArrayFmt c.hdl.fmt || pSpace c.sav ≠ 0
  match mOp c.word with
  | 2 => sn / 2 ^ 32 ≠ 0
  | 3 | 4 => !(1 ≤ sn && sn ≤ c.loadDepth && (!isBse c.fmt || sn % 16 = 0))
  | 5 => handleBad || c.loadDepth < c.loadRows
  | 8 | 9 => !okRows || sn / 256 ≠ 0 || pSpace c.sav ≠ 0
  | 10 => !c.hdl.valid || pSpace c.sav ≠ 0
  | 11 => !okRows || sn / 2 ^ 32 ≠ 0 || pSpace c.sav ≠ 0 ||
      (List.range 8).any (fun b => (c.rows + 15) / 16 ≤ b && bitsAt sn (8 + 3 * b) 3 ≠ 0)
  | 12 =>
    let moff := bitsAt sn 16 16
    !okRows || bitsAt sn 8 8 ≠ 0 || pSpace c.sav ≠ 0 || moff < kBytes c.fmt (kact / 2) ||
      bitsAt sn 32 32 < moff + kact / 8
  | 14 => !okRows || 128 < bitsAt sn 8 7 + c.rows || sn / 2 ^ 15 ≠ 0 || pSpace c.sav ≠ 0
  | 15 | 16 =>
    let sa := c.sav.toNat
    let t := bitsAt sa 0 7
    let rowb := (u.group t).rowb
    let w := if mOp c.word = 15 then rowb / tagBytes c.fmt else rowb / bseBlock c.fmt * 16
    let trv := bitsAt sa 21 11
    !(1 ≤ sn && sn ≤ 16) || 128 < bitsAt sa 7 7 + sn || 128 < bitsAt sa 14 7 + w || sa / 2 ^ 32 ≠ 0 ||
      (if mOp c.word = 15 then trv ≠ 0 else (16 * t ≤ trv && trv < 16 * t + sn) || (u.group (trv / 16)).rowb < 16)
  | _ => false

def shapeFault : Trap := ⟨cILLEGAL, 0x33⟩

/-- The bounds of the staging allocation at sa: LOC, with its S flag, large enough (08 R180). -/
def State.stageTrap (s : State) (c : MCmd) : Option Trap :=
  let off := pOff c.sav
  let bounds (kind o : Nat) : Option Trap := some ⟨cSPAD_BOUNDS, memInfo 0 kind 3 true o⟩
  if pXi c.sav ≠ 0 then bounds 1 off
  else match s.core.allocAt c.who off with
    | none => bounds 0 off
    | some a =>
      if !a.stg then bounds 0 off
      else if a.hi < off + c.hdl.stageBytes then bounds 0 a.hi
      else none

/-- The traps of a list of one cause. -/
def ofCause (cause : Nat) (l : List (Option Trap)) : Option Trap :=
  firstTrap (l.filter (fun o => match o with | some t => t.cause = cause | none => false))

/-- Bounds, leases and then alignment of every byte a command reads or writes (16 R350). The staging allocation's bounds come before
those of the tile: DEDUCED (log 28). -/
def State.rangeTrap (s : State) (c : MCmd) (kact : Nat) : Option Trap :=
  let rs := c.ranges kact
  let spans := rs.map (fun (a, n, _) => trapOf (s.engineSpan 3 a n kRead))
  let staged := isHandleOp (mOp c.word)
  firstTrap [
    if staged then s.stageTrap c else none,
    ofCause cSPAD_BOUNDS spans,
    firstTrap spans,
    firstTrap (rs.map (fun (a, _, log) => alignFault 3 (infoXi a) (pOff a) log false)),
    if staged then alignFault 3 0 (pOff c.sav) 6 true else none]

/-- The depth a command runs at, once planes have been exchanged (08 R174). -/
def Matrix.depthFor (m : Matrix) (c : MCmd) : Nat :=
  if isLoadOp (mOp c.word) then c.loadDepth
  else if m.active.st = .valid then m.active.kact else kDense c.fmt c.mask

/-- The cause found at acceptance, in the order of 16 R350. A tile that is in no array format is SHAPE where no active plane's format says
FORMAT: DEDUCED (log 29). -/
def State.acceptTrap (s : State) (c : MCmd) : Option Trap :=
  let m := s.core.matrix
  let kact := m.depthFor c
  if c.badShape s.u kact then some shapeFault
  else if isStreamOp (mOp c.word) && m.active.st = .valid && m.active.fmt ≠ c.fmt then
    some ⟨cFORMAT, formatInfo 0 m.active.fmt c.fmt 3⟩
  else if mOp c.word = 10 && !isArrayFmt c.fmt then some shapeFault
  else s.rangeTrap c kact

/-- A fault of a command (08 R184): it and the strand's later commands leave the buffer, a fault in a plane load and a load that is
discarded leave the shadow plane INVALID, and the cause is raised at the issuer, whose strand stands in front. A unit that is ENDING is counted
abandoned. -/
def State.matrixFault (s : State) (c : MCmd) (t : Trap) : State :=
  let gone (x : MCmd) : Bool := decide (x.who = c.who) && c.seq ≤ x.seq
  let s1 := s.modMatrix (fun m =>
    let loading := isLoadOp (mOp c.word) || m.buf.any (fun x => gone x && x.running && isLoadOp (mOp x.word))
    let m1 := if loading then { m.noteHeld s.now with shadow := Plane.none } else m
    { m1 with buf := m.buf.filter (fun x => !gone x), waking := none })
  if s.u.st = .ending then s1.modU (fun u => { u with own := { u.own with abandoned := true } })
  else s1.raiseMatrix (orderKey c.entered 3) ⟨t, c.epc⟩

def Matrix.setCmd (m : Matrix) (c : MCmd) : Matrix :=
  { m with buf := updFirst (fun x => x.seq = c.seq) (fun _ => c) m.buf }

/-- The oldest waiting command, and whether the array has room for its kind (02 R61, 08 R176). -/
def Matrix.waiting (m : Matrix) : Option MCmd := m.buf.find? (fun c => !c.running)
def Matrix.room (m : Matrix) (c : MCmd) : Bool :=
  let load := isLoadOp (mOp c.word)
  !m.buf.any (fun x => x.running && (isLoadOp (mOp x.word) == load)) && !(swapsOp (mOp c.word) && m.shadow.st = .loading)

/-- The gated bands that a load needs (08 R175). -/
def Matrix.gatedFor (m : Matrix) (c : MCmd) : Bool := m.gated.any (fun b => c.mask.testBit b)

/-- A command accepted, its issuer's strand in front: the planes are exchanged (08 R176), the checks are made, and it
runs. -/
def State.acceptM (s : State) (c : MCmd) : State :=
  let s1 := s.modMatrix (fun m => if swapsOp (mOp c.word) then (m.noteHeld s.now).exchange else m)
  match s1.acceptTrap c with
  | some t => s1.matrixFault c t
  | none =>
    s1.modMatrix (fun m =>
      let m1 := m.setCmd { c with running := true, began := s.now }
      if isLoadOp (mOp c.word) then
        { m1.noteHeld s.now with shadow :=
            { st := .loading, fmt := c.fmt, mask := c.mask, sparse := mOp c.word = 6, kact := c.loadDepth, data := [],
              masks := [] } }
      else m1)

/-- Engines stop at a step boundary while the issuer waits to be checkpointed (11 R256). -/
def Strand.engineStops (u : Strand) : Bool := u.trap.settle.isSome

/-- The oldest waiting command loads bands that are gated. -/
def Matrix.mustWake (m : Matrix) (c : MCmd) : Bool := isLoadOp (mOp c.word) && m.gatedFor c

/-- MATRIX_ACCEPT (02 R61, 08 R175): the oldest waiting command is accepted once the array has room; one that loads gated
bands begins to wake them when it comes to stand at the head of the commands waiting. -/
def State.matrixAccept (s : State) : State :=
  match s.core.matrix.waiting with
  | none => s
  | some c =>
    s.atUnit c.who (fun s =>
      if s.u.engineStops || s.core.matrix.waking.isSome then s
      else if s.core.matrix.mustWake c then s.modMatrix (fun m => { m with waking := some (s.now + Config.bandWake) })
      else if s.core.matrix.room c then s.acceptM c
      else s)

/-- MATRIX_ACCEPT has something to do now (02 R61: as soon as the array has room). -/
def State.mAccepts (s : State) : Bool :=
  match s.core.matrix.waiting with
  | none => false
  | some c => (match s.strandOf c.who with | some u => !u.engineStops | none => false) &&
      s.core.matrix.waking.isNone && (s.core.matrix.mustWake c || s.core.matrix.room c)

def execMatrixAccept (s : State) : Host.Outcome State Fault Refusal := .next s.matrixAccept

/-- BAND_WAKE (08 R175): the bands are awake 200 cycles later, and the load is accepted, or waits on for room. -/
def State.bandWake (s : State) : State :=
  match s.core.matrix.waking, s.core.matrix.waiting with
  | some t, some c =>
    if t ≤ s.now then
      s.atUnit c.who (fun s =>
        let s1 := s.modMatrix (fun m => { m with waking := none, gated := m.gated.filter (fun b => !c.mask.testBit b) })
        if s1.u.engineStops || !s1.core.matrix.room c then s1 else s1.acceptM c)
    else s
  | _, _ => s

def execBandWake (s : State) : Host.Outcome State Fault Refusal := .next s.bandWake

/-- A band that a load fills, or that the load at the head of the commands waiting is to fill. -/
def Matrix.wanted (m : Matrix) (b : Nat) : Bool :=
  (m.shadow.st = .loading && m.shadow.mask.testBit b) ||
  (match m.waiting with | some c => isLoadOp (mOp c.word) && c.mask.testBit b | none => false)

/-- BAND_GATE (08 R175): 64 cycles after the last in which the band held a valid row. A band that a load is filling, or that the load
at the head waits for, does not gate: DEDUCED (log 80). -/
def State.bandGate (s : State) (b : Nat) : State :=
  let m := s.core.matrix
  if b < 4 && !m.gated.contains b && !m.bandHeld b && !m.wanted b && lookup 0 m.heldAt b + Config.bandIdle ≤ s.now then
    s.modMatrix (fun m => { m with gated := insertBy id b m.gated })
  else s

def execBandGate (band : Nat) (s : State) : Host.Outcome State Fault Refusal := .next (s.bandGate band)

/-! Steps. -/

/-- A command of the unit in front that entered in cycle `entered` has begun its accesses: its start, which waits for the accesses
before it, has performed (09 R200). -/
def State.engineMay (s : State) (matrix : Bool) (entered : Nat) : Bool :=
  !s.u.accs.any (fun a => a.issued = entered && decide (a.act = .start matrix))

/-- A step of the command has performed. -/
def MCmd.begun (x : MCmd) : Bool := x.running && (x.fetched || 0 < x.next)

/-- A CPYT entered earlier locks its destination until it completes (08 R191). A command that has begun is past it. -/
def Core.lockedForM (c : Core) (x : MCmd) : Bool :=
  !x.begun && c.cbuf.any (fun y => y.entered < x.entered && meet y.locks x.locks)

/-- Whether a step may begin. -/
def State.stepMay (s : State) (c : MCmd) : Bool :=
  !s.u.engineStops && c.next < c.steps && s.engineMay true c.entered && !s.core.lockedForM c

/-- A command after a step: its least time counts from now (08 R424), and the chunks read to their last byte are released (08 R188). -/
def State.stepped (s : State) (c : MCmd) : State :=
  s.modMatrix (fun m => m.setCmd { c with began := s.now, chunks := s.cmdChunks c })

/-- The handle fetch (08 R180): its checks, made again where a resumed command fetches again (R183), and then the rows and the trailer are
read, checked and staged. A staged byte that a bad word does not take is reported or counted (13 R284, R285). -/
def State.fetchStage (s : State) (c : MCmd) : State :=
  let h := c.hdl
  let spans := (c.ranges 0).map (fun (a, n, _) => s.engineAt 3 a n kRead)
  let handle := if h.valid then none else some shapeFault
  match firstTrap (handle :: s.stageTrap c :: spans.map trapOf) with
  | some t => s.matrixFault c t
  | none =>
    let sps := spans.filterMap Except.toOption
    let homes := sps.flatMap Span.homes
    match sps.findSome? (fun sp => s.engineFault sp 3) with
    | some t => (s.noteRead homes).matrixFault c t
    | none =>
      let raw := sps.map (fun sp => (s.engineBytes sp (if sp.size = 16 && h.trl then 0 else blockOfFmt h.fmt)))
      let bad := (s.mem.badGranules homes).length
      let rows := (raw.take h.rows).map Prod.fst
      let payload := rows.flatten
      let tr := ((raw.drop h.rows).map Prod.fst).flatten
      let kind := if h.trl then trailerFault tr payload h.fmt h.rows h.rowb else 0
      let tol := sps.any Span.tol
      let done (s : State) (zero : Bool) : State :=
        match s.engineSpan 3 c.sav h.stageBytes kWrite with
        | .error t => s.matrixFault c t
        | .ok sp =>
          let place := (List.range h.rows).flatMap (fun j => (List.range h.rowb).map (fun i => j * h.stride + i)) ++
            List.range' h.stageRows tr.length
          let (m, dropped) := s.mem.write (place.map (fun i => sp.homes.getD i 0)) (payload ++ tr) sp.cover s.writerTag
          let s1 := (({ s with mem := m }).logPoison dropped).modU (fun u => u.addErr (if sp.tol then dropped.length else 0))
          match (if sp.tol then [] else dropped) with
          | g :: _ => s1.matrixFault c ⟨cMEM_UE, ueInfo sp sp.homes ((sp.homes.findIdx? (fun x => granOf x = g)).getD 0) 2 3 true⟩
          | [] => s1.stepped { c with fetched := true, stage := if zero then zeros payload.length else payload }
      let s1 := s.noteRead homes
      if h.trl && bad ≠ 0 then done (s1.modU (fun u => (u.addTrail 1).addErr 1)) true
      else if kind ≠ 0 then
        (if tol then done (s1.modU (fun u => u.addTrail 1)) true
         else s1.matrixFault c ⟨cTRAILER, kind + 4 * (c.hreg % 32) + 128⟩)
      else done (s1.modU (fun u => u.addErr ((raw.map Prod.snd).sum))) false

/-- Bytes laid into a plane's table at a position. -/
def putBytes (t : Tab Byte) (pos : Nat) (bs : List Byte) : Tab Byte :=
  (bs.zipIdx).foldl (fun t (b, i) => put 0 t (pos + i) b) t

/-- A metadata byte whose nibbles do not each have two bits set (08 R178). -/
def badMasks (bs : List Byte) : Bool := bs.any (fun b => popCount 4 b.toNat ≠ 2 || popCount 4 (b.toNat / 16) ≠ 2)

def maskFault : Trap := ⟨cFORMAT, formatInfo 0 12 12 3⟩

/-- One step of a plane load; the second leaves the shadow plane VALID. -/
def State.loadStep (s : State) (c : MCmd) : State :=
  let fin (st : State) (data masks : Tab Byte) : State := (st.stepped { c with next := c.next + 1 }).modMatrix (fun m =>
    { m with shadow := { m.shadow with data := data, masks := masks, st := if c.next = 1 then .valid else .loading } })
  let p := s.core.matrix.shadow
  if mOp c.word = 5 then
    let half := kBytes c.fmt (c.loadDepth / 2)
    fin s (if c.next = 0 then putBytes [] 0 (c.stage.take half) else putBytes p.data half (c.stage.drop half)) p.masks
  else
    let parts := c.loadParts c.next
    let r := s.engineReads 3 (parts.map (fun x => (x.addr, x.size, if x.inMasks then 0 else blockOfFmt c.fmt)))
    match r.data with
    | .error t => r.st.matrixFault c t
    | .ok l =>
      let got := parts.zip l
      if (got.filter (fun (x, _) => x.inMasks)).any (fun (_, bs) => badMasks bs) then r.st.matrixFault c maskFault
      else fin r.st
        ((got.filter (fun (x, _) => !x.inMasks)).foldl (fun t (x, bs) => putBytes t x.pos bs) p.data)
        ((got.filter (fun (x, _) => x.inMasks)).foldl (fun t (x, bs) => putBytes t x.pos bs) p.masks)

/-- Bytes cut or extended with zeros. -/
def fitBytes (n : Nat) (bs : List Byte) : List Byte := takePad 0 n bs

def byteNibbles (bs : List Byte) : List Nat := bs.flatMap (fun b => [b.toNat % 16, b.toNat / 16])

def MCmd.streamRows (c : MCmd) (kact j0 cnt : Nat) (l : List (List Byte)) : List StreamRow :=
  let f := c.fmt
  let e := tagBytes f
  match mOp c.word with
  | 9 => (List.range cnt).map (fun j => ⟨l.flatMap (fun bs => (bs.drop (j * e)).take e), none⟩)
  | 10 => (List.range' j0 cnt).map (fun j =>
      ⟨fitBytes (kBytes f kact) ((c.stage.drop (j * c.hdl.rowb)).take c.hdl.rowb), none⟩)
  | 12 => (List.range cnt).map (fun j => ⟨l.getD (2 * j) [], some (byteNibbles (l.getD (2 * j + 1) []))⟩)
  | _ => l.map (fun bs => ⟨bs, none⟩)

/-- The columns that row j writes: those of the row block's selector for MGRP. -/
def MCmd.columns (c : MCmd) (j : Nat) : List Nat :=
  if mOp c.word = 11 then List.range' (16 * bitsAt c.snv.toNat (8 + 3 * (j / 16)) 3) 16 else List.range 128

/-- MEM_UE of any row of a stream, found before the first step writes an accumulator row (07 R172, 08 R184). -/
def State.streamFault (s : State) (c : MCmd) (kact : Nat) : Option (Span × Trap) :=
  if c.next ≠ 0 then none
  else (c.rowParts kact 0 c.rows).findSome? (fun (a, n, _) => match s.engineSpan 3 a n kRead with
    | .ok sp => (s.engineFault sp 3).map (fun t => (sp, t))
    | .error _ => none)

/-- One step of a stream: up to 16 rows against the active plane. -/
def State.streamStep (s : State) (c : MCmd) : State :=
  let kact := s.core.matrix.depthFor c
  let j0 := 16 * c.next
  let cnt := min 16 (c.rows - j0)
  let r := s.engineReads 3 (c.rowParts kact j0 cnt)
  match s.streamFault c kact, r.data with
  | some (sp, t), .ok _ => (s.noteRead sp.homes).matrixFault c t
  | _, .error t => r.st.matrixFault c t
  | none, .ok l =>
    let rows := c.streamRows kact j0 cnt l
    if rows.any (fun x => match x.masks with | some ms => ms.any (fun n => popCount 4 n ≠ 2) | none => false) then
      r.st.matrixFault c maskFault
    else
      let m := s.core.matrix
      let t := mAcc c.word
      let outs := (rows.zipIdx).flatMap (fun (row, i) => (c.columns (j0 + i)).map (fun n =>
        let old := if mZ c.word then 0 else (m.accAt t (j0 + i) n).toNat
        (j0 + i, n, arrayElt m.active c.fmt c.prom row n old)))
      let sat := (outs.map (fun (_, _, o) => o.sat)).sum
      let fl := outs.foldl (fun a (_, _, o) => Nat.lor a o.flags) 0
      ((r.st.modMatrix (fun m => m.writeAcc t (outs.map (fun (j, n, o) => (j, n, o.val))))).stepped
        { c with next := c.next + 1, sat := c.sat + sat, flags := Nat.lor c.flags fl }).modU (fun u => u.addOvf sat)

/-- MRDA and MRDS (16 R354): rows of the accumulator into a tile group, and for MRDS the trailer. -/
def readOut (m : Matrix) (c : MCmd) (u : Strand) : Strand × Nat :=
  let sa := c.sav.toNat
  let f := c.fmt
  let n := c.snv.toNat
  let t := bitsAt sa 0 7
  let rowb := (u.group t).rowb
  let q := mOp c.word = 16
  let w := if q then rowb / bseBlock f * 16 else rowb / tagBytes f
  let src (j : Nat) : List Nat := (List.range w).map (fun x =>
    (m.accAt (mAcc c.word) (bitsAt sa 7 7 + j) (bitsAt sa 14 7 + x)).toNat)
  if q then
    let xs := (List.range n).map (fun j => (src j).map (readFp 1))
    let qs := xs.map (quantRow f 0 0)
    let rows := qs.map (fun l => ofBlocks f (l.map Quantised.block))
    let p := rowb / bseBlock f * bseBlock f
    let tr := trailerBytes (amaxBits xs.flatten) ((qs.flatten.map Quantised.satcount).sum)
      (rows.flatMap (fun r => (rowBytes r).take p)) f n p
    (((rows.zipIdx).foldl (fun u (r, j) => u.setVreg (16 * t + j) ⟨r, f⟩) u).setVreg (bitsAt sa 21 11) ⟨bytesRow tr, tagRaw⟩,
      Nat.land (quantFlags qs.flatten) flInvalid)
  else
    let rows := (List.range n).map (fun j => (src j).map (convert 1 f 0 0))
    (((rows.zipIdx).foldl (fun u (r, j) =>
        u.setVreg (16 * t + j) ⟨ofElems (tagBytes f) (r.map Flagged.val), f⟩) u),
      if isFp f then mFlags (rows.flatten.foldl (fun a x => Nat.lor a x.flags) 0) else 0)

/-- The single step of the other commands (08 R182). -/
def State.otherStep (s : State) (c : MCmd) : State :=
  let next (s : State) (fl : Nat) : State := s.stepped { c with next := c.next + 1, flags := Nat.lor c.flags fl }
  let t := mAcc c.word
  match mOp c.word with
  | 2 =>
    let m := s.core.matrix
    if m.live.contains t then
      let outs := (List.range 16384).map (fun i =>
        (i / 128, i % 128, fpMul 1 0 0 (readFp 1 (m.accAt t (i / 128) (i % 128)).toNat) (readFp 1 (c.snv.toNat % 2 ^ 32))))
      next (s.modMatrix (fun m => m.writeAcc t (outs.map (fun (j, n, o) => (j, n, o.val)))))
        (mFlags (outs.foldl (fun a (_, _, o) => Nat.lor a o.flags) 0))
    else next s 0
  | 13 => next (s.modMatrix (fun m => m.clearAcc t)) 0
  | 14 =>
    let r := s.engineReads 3 ((List.range c.rows).map (fun j => (addOff c.sav (512 * j), 512, 0)))
    match r.data with
    | .error e => r.st.matrixFault c e
    | .ok l =>
      let row0 := bitsAt c.snv.toNat 8 7
      next (r.st.modMatrix (fun m => m.writeAcc t ((l.zipIdx).flatMap (fun (bs, j) => (List.range 128).map (fun n =>
        (row0 + j, n, bytesNat ((bs.drop (4 * n)).take 4))))))) 0
  | 15 | 16 =>
    let (u, fl) := readOut s.core.matrix c s.u
    next { s with u := u } fl
  | _ => next s 0

/-- The command of a kind that the array runs. -/
def Matrix.runningOf (m : Matrix) (load : Bool) : Option MCmd :=
  m.buf.find? (fun c => c.running && (isLoadOp (mOp c.word) == load))

/-- The step of a command that may begin. -/
def State.runStep (s : State) (c : MCmd) : State :=
  if isHandleOp (mOp c.word) && !c.fetched then s.fetchStage c
  else if isLoadOp (mOp c.word) then s.loadStep c
  else if isStreamOp (mOp c.word) then s.streamStep c
  else s.otherStep c

/-- A checker error of a step (13 R279, R280): PIPE_ERR in a STRICT launch; in a TOLERANT one the elements of the cell's
column become NaN in the rows of the step, and ERRCNT counts it. -/
def State.stepMismatch (s : State) (c : MCmd) (m : Mismatch) : State :=
  let s1 := s.logFault 0 7
  if m.control || !s.u.own.tolerant then
    s1.matrixFault c ⟨cPIPE_ERR, pipeInfo 3 (if m.control then 6 else 2) m.kind (mAcc c.word) 0 c.next⟩
  else
    let op := mOp c.word
    let rows := if isStreamOp op then List.range' (16 * c.next) (min 16 (c.rows - 16 * c.next))
      else if op = 2 then List.range 128 else []
    let s2 := (s1.runStep c).modU (fun u => u.addErr 1)
    if rows = [] || s2.core.matrix.buf.all (fun x => x.seq ≠ c.seq) then s2
    else s2.modMatrix (fun mx => mx.writeAcc (mAcc c.word) (rows.map (fun j => (j, m.column % 128, nanOf 1))))

/-- MATRIX_STEP (08 R183): one indivisible step of the running load, or of the other running command, with the checker error
it met, if any. -/
def State.matrixStep (s : State) (load : Bool) (err : Option Mismatch) : State :=
  match s.core.matrix.runningOf load with
  | none => s
  | some c => s.atUnit c.who (fun s =>
      if !s.stepMay c then s
      else match err with
        | none => s.runStep c
        | some m => s.stepMismatch c m)

def execMatrixStep (load : Bool) (err : Option Mismatch) (s : State) : Host.Outcome State Fault Refusal :=
  .next (s.matrixStep load err)

/-- MATRIX_COMPLETE (08 R181, 06 R133, R148): all steps done and the least cycles passed, the command leaves the buffer, its
flags are set, and a saturation may raise ACC_OVF. -/
def State.matrixComplete (s : State) (load : Bool) : State :=
  match s.core.matrix.runningOf load with
  | none => s
  | some c => s.atUnit c.who (fun s =>
      if c.next < c.steps || s.now < c.began + c.minCycles then s
      else
        let s1 := s.modU (fun u => u.raiseFlags c.flags)
        if c.ovf && c.sat ≠ 0 then
          s1.matrixFault c ⟨cACC_OVF, mAcc c.word + 2 ^ 32 * min c.sat (2 ^ 32 - 1)⟩
        else s1.modMatrix (fun m => { m with buf := m.buf.filter (fun x => x.seq ≠ c.seq) }))

def execMatrixComplete (load : Bool) (s : State) : Host.Outcome State Fault Refusal := .next (s.matrixComplete load)

end Sys2Proof.Machine
end

