-- ==== Sys2Proof/Machine/Copy.lean ====
section
/-! DEFINITION. The copy engine (08 R185 to R191, R193; 15 R326, R330 to R332; 16 R361, R370; 17 R407): issue, acceptance,
chunks and completion. -/

namespace Sys2Proof.Machine

/-! What a command moves. -/

def copyIsColl (op : Nat) : Bool := 0xC ≤ op && op ≤ 0xF

/-- The row or element bytes, the row or element count, and the strides (08 R186, 15 R332). -/
def CCmd.rowBytes (c : CCmd) : Nat := bitsAt c.sl.toNat 0 16
def CCmd.count (c : CCmd) : Nat := if c.op = 8 then bitsAt c.sl.toNat 16 32 else bitsAt c.sl.toNat 16 16
def CCmd.srcStride (c : CCmd) : Nat := if c.op = 2 then bitsAt c.md.toNat 0 32 else bitsAt c.sl.toNat 32 31
def CCmd.dstStride (c : CCmd) : Nat := bitsAt c.md.toNat 32 32

/-- The destination bytes of a command; `z` granules for SPILL and FILL. -/
def CCmd.bytes (c : CCmd) (z : Nat) : Nat :=
  match c.op with
  | 2 | 3 | 8 => c.rowBytes * c.count
  | 5 => if c.md.getLsbD 32 then c.sl.toNat % 2 ^ 32 else c.sl.toNat
  | 0x10 | 0x11 => 1024 * z
  | _ => c.sl.toNat

/-- [0, n) cut where the destination offset crosses a multiple of 512: start and length of each chunk (08 R185). -/
def cuts (off n : Nat) : List (Nat × Nat) :=
  (List.range ((off % 512 + n + 511) / 512)).map (fun k =>
    let lo := 512 * k - off % 512
    (lo, min n (512 * (k + 1) - off % 512) - lo))

/-- The chunks of a command: positions in the bytes it moves, in order. -/
def CCmd.chunkList (c : CCmd) (z : Nat) : List (Nat × Nat) :=
  let n := c.bytes z
  match c.op with
  | 2 => (List.range c.count).flatMap (fun r =>
      (cuts (pOff c.sd + r * c.dstStride) c.rowBytes).map (fun (a, l) => (r * c.rowBytes + a, l)))
  | 0xB => if c.mreg % 4 = 0 then cuts (pOff c.sa) n else cuts (pOff c.sd) n
  | 9 => cuts c.sd.toNat n
  | 0x10 | 0x11 => cuts 0 n
  | _ => cuts (pOff c.sd) n

/-- [b, b + n) cut at multiples of w: row, offset in it, and length. -/
def splitRows (w b n : Nat) : List (Nat × Nat × Nat) :=
  if w = 0 then []
  else (List.range' (b / w) ((b + n + w - 1) / w - b / w)).map (fun r =>
    let lo := max b (r * w)
    (r, lo - r * w, min (b + n) ((r + 1) * w) - lo))

/-- Index i of a gather list, as it stands in memory (08 R186); one in a bad granule reads as zero (08 R185). -/
def State.gatherIndex (s : State) (c : CCmd) (i : Nat) : Nat :=
  match s.engineSpan 6 (addOff c.sa (4 * i)) 4 kRead with
  | .ok sp => bytesNat (s.engineBytes sp 0).1
  | .error _ => 0

/-- The homes of indices of a gather list. -/
def State.listHomes (s : State) (c : CCmd) (rs : List Nat) : List Nat :=
  rs.flatMap (fun i => match s.engineSpan 6 (addOff c.sa (4 * i)) 4 kRead with | .ok sp => sp.homes | .error _ => [])

/-- The indices of a gather list read for the rows in `rs`: an expired allocation or a bad granule under STRICT is an error (08
R185, 13 R283). -/
def State.readList (s : State) (c : CCmd) (rs : List Nat) : State × Option Trap :=
  let bad (i : Nat) : Option Trap := match s.engineAt 6 (addOff c.sa (4 * i)) 4 kRead with
    | .ok sp => s.engineFault sp 6
    | .error t => some t
  (s.noteRead (s.listHomes c rs), rs.findSome? bad)

/-- The source operands of bytes b to b + n − 1. SCM, save areas and zeros have none. -/
def State.copySrc (s : State) (c : CCmd) (b n : Nat) : List (Word × Nat) :=
  match c.op with
  | 2 => (splitRows c.rowBytes b n).map (fun (r, o, l) => (addOff c.sa (r * c.srcStride + o), l))
  | 3 => (splitRows c.rowBytes b n).map (fun (r, o, l) => (addOff c.sa (r * c.srcStride + o), l))
  | 8 => (splitRows c.rowBytes b n).map (fun (r, o, l) => (addOff c.md (s.gatherIndex c r * c.rowBytes + o), l))
  | 0xA | 0x11 | 0x12 => []
  | _ => [(addOff c.sa b, n)]

/-- The destination operand of a chunk; none for SCM, PREF into the LLC and SPILL. -/
def CCmd.dst (c : CCmd) (b n : Nat) : Option (Word × Nat) :=
  match c.op with
  | 2 => some (addOff c.sd (b / (max 1 c.rowBytes) * c.dstStride + b % (max 1 c.rowBytes)), n)
  | 9 | 0x10 => none
  | 0x11 => some (addOff c.sa b, n)
  | 0xB => if c.mreg % 4 = 0 then none else some (addOff c.sd b, n)
  | _ => some (addOff c.sd b, n)

/-- The allocation that SPILL and FILL name (16 R370). -/
def State.copyAlloc (s : State) (c : CCmd) : Option Alloc := s.core.allocBase c.who c.sa
def State.copyGranules (s : State) (c : CCmd) : Nat :=
  if c.op = 0x10 || c.op = 0x11 then (match s.copyAlloc c with | some a => a.size | none => 0) else 0

def chunkAt (l : List (Nat × Nat)) (k : Nat) : Nat × Nat := l.getD k (0, 0)

/-- LOC and PEER operands only: they alone have chunks. -/
def chunkOperands (l : List (Word × Nat)) : List (Word × Nat) := l.filter (fun (a, _) => pSpace a < 2)

/-- The entries of a gather list that bytes b to b + n − 1 need. -/
def CCmd.listOps (c : CCmd) (b n : Nat) : List (Word × Nat) :=
  if c.op = 8 then (splitRows c.rowBytes b n).map (fun (r, _, _) => (addOff c.sa (4 * r), 4)) else []

/-- The chunks that the work still to do holds, the gather list's and those of CPYC's signal among them (08 R188). -/
def State.copyHolds (s : State) (c : CCmd) (todo : List Nat) : List Nat :=
  let l := c.chunkList (s.copyGranules c)
  ((todo.flatMap (fun k =>
      let (b, n) := chunkAt l k
      s.rangeChunks 6 (chunkOperands (s.copySrc c b n ++ c.listOps b n)) kRead ++
        s.rangeChunks 6 (chunkOperands (c.dst b n).toList) kWrite)) ++
    (if c.op = 6 then s.rangeChunks 6 (chunkOperands [(c.md, 8)]) kWrite else [])).eraseDups

/-! Issue (15 R331). -/

def Core.nextC (c : Core) : Nat := c.cbuf.foldl (fun m x => max m (x.seq + 1)) 0

/-- Whether the mod field names a scalar that the command reads (03 R83). -/
def modIsScalar (op : Nat) : Bool := op = 2 || op = 4 || op = 5 || op = 6 || op = 8 || copyIsColl op

/-- A C-slot command enters the buffer with what its issue read; CPYT clears its mask unless RESUME (08 R187). Its start is an access
of its class (09 R196, R200), and its token is a later write than those still to land (02 R55). SPILL and FILL have no class (03
R83). -/
def State.issueC (s : State) (op : Nat) (f : CC) : State :=
  let md := if modIsScalar op then s.u.scalar (modScalar f) else 0
  let c0 : CCmd :=
    { who := s.u.who, op := op, tok := f.tok.toNat, sa := s.S f.sa, sd := s.S f.sd, sl := s.S f.sl, md := md,
      mreg := f.md.toNat, oc := f.oc.toNat, svc := f.svc.toNat, dl := f.dl.toNat, epc := s.u.pc, entered := s.now,
      seq := s.core.nextC, running := false, coll := copyIsColl op, todo := [], moved := 0,
      crc := BitVec.ofNat 32 md.toNat, flags := 0, code := none, xi := 0, wr := false, chunks := [], locks := [], sigw := [],
      seen := [], listed := false, aged := false, again := 0, mword := md,
      msa := s.u.scalar (bitsAt md.toNat 40 6), msn := s.u.scalar (bitsAt md.toNat 34 6),
      mhnd := s.u.handle (bitsAt md.toNat 46 5), sent := false, slack := s.u.time.cslack }
  let m := s.u.mask (f.md.toNat % 8)
  let resume := op = 3 && c0.sl.getLsbD 63
  let all := List.range (c0.chunkList (s.copyGranules c0)).length
  let todo := if resume then all.filter (fun k => !m.getLsbD k) else all
  let signal := if op = 6 then (match s.engineSpan 6 md 8 kWrite with | .ok sp => sp.homes | .error _ => []) else []
  let c1 := { c0 with
    todo := todo, chunks := s.copyHolds c0 todo, sigw := (signal.map (· / 8)).eraseDups,
    locks := if op = 3 && pSpace c0.sd = 0 then s.rangeChunks 6 [(c0.sd, c0.bytes 0)] kWrite else [] }
  let s1 := if op = 3 && !resume then s.modU (fun u => u.setMask (f.md.toNat % 8) 0) else s
  (s1.modCore (fun k => { k with cbuf := k.cbuf ++ [c1] })).modU (fun u =>
    { u.overtake 0 (f.tok.toNat :: (if op = 5 then [f.md.toNat % 64] else [])) with
      accs := u.accs ++ [{ startOf false (if op = 0x10 || op = 0x11 then 16 else f.oc.toNat) 6 s.now with epc := u.pc }] })

/-- The status word of a token (08 R185). -/
def copyStatus (code xi : Nat) (wr : Bool) (bytes : Nat) : Word :=
  BitVec.ofNat 64 (code + 256 * (xi % 16) + (if wr then 4096 else 0) + 65536 * (if code = 0 then 0 else bytes))

def Core.dropCopy (k : Core) (c : CCmd) : Core := { k with cbuf := k.cbuf.filter (fun x => x.seq ≠ c.seq) }
def Core.setCopy (k : Core) (c : CCmd) : Core := { k with cbuf := updFirst (fun x => x.seq = c.seq) (fun _ => c) k.cbuf }

/-- The step and the group that a COLL names (15 R328). -/
def CCmd.step (c : CCmd) : Nat := bitsAt c.md.toNat 0 32
def CCmd.group (c : CCmd) : Nat := bitsAt c.md.toNat 32 16

/-- Done(code, bytes): the token lands, the scalar of CPYK with it (with a code other than 0 and 5 the value it held at issue), and the
command's holds are released (15 R331, 08 R187). The issuer's strand stands in front. -/
def State.copyDone (s : State) (c : CCmd) (code : Nat) : State :=
  let late := c.dl ≠ 0 && c.entered + 64 * c.dl < s.now
  let s1 := s.modU (fun u =>
    let u1 := u.setScalar c.tok (copyStatus code c.xi c.wr c.moved)
    let u2 := if c.op = 5 then u1.setScalar (c.mreg % 64)
        (if code = 0 || code = 5 then BitVec.ofNat 64 (c.md.toNat / 2 ^ 32 * 2 ^ 32 + c.crc.toNat) else c.md) else u1
    let u3 := u2.raiseFlags c.flags
    if late then u3.addMiss 1 else u3)
  s1.modCore (fun k => k.dropCopy c)

/-- Later accepted commands of a group end with code 11 (08 R192). -/
def State.failGroup (s : State) (g step : Nat) : State :=
  let later := (s.allCores.flatMap Core.cbuf).filter (fun x => x.coll && x.running && x.group = g && step < x.step)
  later.foldl (fun s x => s.atUnit x.who (fun s => s.copyDone x 11)) s

/-- A command cancelled (08 R189): code 6 and the bytes moved; a cancelled COLL ends the later steps of its group. -/
def State.cancelCopy (s : State) (c : CCmd) : State :=
  let s1 := s.copyDone { c with xi := 0, wr := false } 6
  if c.coll && c.running then s1.failGroup c.group c.step else s1

/-- CPY (15 R330, 08 R186). -/
def execCpy (f : CC) (s : State) : Host.Outcome State Fault Refusal := s.issue (.cpy f) (fun s => s.issueC 0x01 f)
/-- CPY2 (08 R186). -/
def execCpy2 (f : CC) (s : State) : Host.Outcome State Fault Refusal := s.issue (.cpy2 f) (fun s => s.issueC 0x02 f)
/-- CPYT (08 R187). -/
def execCpyt (f : CC) (s : State) : Host.Outcome State Fault Refusal := s.issue (.cpyt f) (fun s => s.issueC 0x03 f)
/-- CPYM (08 R187). -/
def execCpym (f : CC) (s : State) : Host.Outcome State Fault Refusal := s.issue (.cpym f) (fun s => s.issueC 0x04 f)
/-- CPYK (08 R187). -/
def execCpyk (f : CC) (s : State) : Host.Outcome State Fault Refusal := s.issue (.cpyk f) (fun s => s.issueC 0x05 f)
/-- CPYC (08 R186). -/
def execCpyc (f : CC) (s : State) : Host.Outcome State Fault Refusal := s.issue (.cpyc f) (fun s => s.issueC 0x06 f)
/-- CPYA (08 R186). -/
def execCpya (f : CC) (s : State) : Host.Outcome State Fault Refusal := s.issue (.cpya f) (fun s => s.issueC 0x07 f)
/-- CPYG (08 R186). -/
def execCpyg (f : CC) (s : State) : Host.Outcome State Fault Refusal := s.issue (.cpyg f) (fun s => s.issueC 0x08 f)
/-- CPYS (08 R186). -/
def execCpys (f : CC) (s : State) : Host.Outcome State Fault Refusal := s.issue (.cpys f) (fun s => s.issueC 0x09 f)
/-- CPYF (08 R186). -/
def execCpyf (f : CC) (s : State) : Host.Outcome State Fault Refusal := s.issue (.cpyf f) (fun s => s.issueC 0x0A f)
/-- PREF (16 R361). -/
def execPref (f : CC) (s : State) : Host.Outcome State Fault Refusal := s.issue (.pref f) (fun s => s.issueC 0x0B f)
/-- COLL.RS (15 R328). -/
def execCollRs (f : CC) (s : State) : Host.Outcome State Fault Refusal := s.issue (.collRs f) (fun s => s.issueC 0x0C f)
/-- COLL.AG (15 R328). -/
def execCollAg (f : CC) (s : State) : Host.Outcome State Fault Refusal := s.issue (.collAg f) (fun s => s.issueC 0x0D f)
/-- COLL.AR (15 R328). -/
def execCollAr (f : CC) (s : State) : Host.Outcome State Fault Refusal := s.issue (.collAr f) (fun s => s.issueC 0x0E f)
/-- COLL.BC (15 R328). -/
def execCollBc (f : CC) (s : State) : Host.Outcome State Fault Refusal := s.issue (.collBc f) (fun s => s.issueC 0x0F f)
/-- SPILL (16 R370). -/
def execSpill (f : CC) (s : State) : Host.Outcome State Fault Refusal := s.issue (.spill f) (fun s => s.issueC 0x10 f)
/-- FILL (16 R370). -/
def execFill (f : CC) (s : State) : Host.Outcome State Fault Refusal := s.issue (.fill f) (fun s => s.issueC 0x11 f)
/-- ZFILL (17 R407). -/
def execZfill (f : CC) (s : State) : Host.Outcome State Fault Refusal := s.issue (.zfill f) (fun s => s.issueC 0x12 f)

/-- CCAN (15 R326, 08 R189): acts at its issue; nothing without a pending command of the token. -/
def execCcan (f : CC) (s : State) : Host.Outcome State Fault Refusal :=
  s.issue (.ccan f) (fun s => match s.core.cbuf.find? (fun c => decide (c.who = s.u.who) && c.tok = f.tok.toNat) with
    | none => s
    | some c => s.cancelCopy c)

/-! Acceptance. -/

/-- The element size of CPYA and of the reductions, from a tag. -/
def redBytes (f : Nat) : Nat := tagBytes f
def CCmd.redFmt (c : CCmd) : Nat := if c.coll then bitsAt c.mreg 6 4 else c.mreg % 16

/-- A value of sl or of the mod scalar out of range (15 R332): code 12. -/
def CCmd.badRange (c : CCmd) : Bool :=
  let sl := c.sl.toNat
  let okLen := 1 ≤ sl && sl < 2 ^ 32
  match c.op with
  | 2 => c.rowBytes = 0 || c.count = 0 || sl / 2 ^ 32 ≠ 0 || (1 < c.count && c.dstStride < c.rowBytes)
  | 3 => c.rowBytes = 0 || c.count = 0 || 32768 < c.rowBytes * c.count
  | 5 => if c.md.getLsbD 32 then sl % 2 ^ 32 = 0 else !okLen
  | 7 => !okLen || sl % redBytes c.redFmt ≠ 0
  | 8 => c.rowBytes = 0 || c.count = 0 || sl / 2 ^ 48 ≠ 0
  | 0x10 | 0x11 => false
  | _ => !okLen

/-- The operands that are checked at acceptance: PADDR, bytes, kind. CPYC's signal is one that can be written (15 R332). The elements of a gather are checked once its list may be read (`elemRanges`). -/
def CCmd.copyRanges (c : CCmd) : List (Word × Nat × AccKind) :=
  let n := c.bytes 0
  let rows (a : Word) (st w m : Nat) (k : AccKind) : List (Word × Nat × AccKind) :=
    (List.range m).map (fun r => (addOff a (r * st), w, k))
  match c.op with
  | 2 => rows c.sa c.srcStride c.rowBytes c.count kRead ++ rows c.sd c.dstStride c.rowBytes c.count kWrite
  | 3 => rows c.sa c.srcStride c.rowBytes c.count kRead ++ [(c.sd, n, kWrite)]
  | 6 => [(c.sa, n, kRead), (c.sd, n, kWrite), (c.md, 8, kWrite)]
  | 7 => [(c.sa, n, kRead), (c.sd, n, kBoth)]
  | 8 => [(c.sa, 4 * c.count, kRead), (c.sd, n, kWrite)]
  | 9 => [(c.sa, n, kRead)]
  | 0xA => [(c.sd, n, kWrite)]
  | 0xB => (c.sa, n, kRead) :: (if c.mreg % 4 = 0 then [] else [(c.sd, n, kWrite)])
  | 0xE => [(c.sa, n, kRead), (c.sd, n, kBoth)]
  | 0x10 | 0x11 => []
  | 0x12 => [(c.sd, n, kWrite)]
  | _ => [(c.sa, n, kRead), (c.sd, n, kWrite)]

/-- The elements of a gather, checked before any byte moves and after the accesses before the command (15 R332, 09 R200). -/
def State.elemRanges (s : State) (c : CCmd) : List (Word × Nat × AccKind) :=
  (List.range c.count).map (fun i => (addOff c.md (s.gatherIndex c i * c.rowBytes), c.rowBytes, kRead))

/-- The SCM window of the issuer's context (07 R164): base and length, which ends where the firmware store and the image areas begin (00 R6, 12 R272,
14 R312). -/
def State.scmWindow (s : State) : Nat × Nat :=
  match s.ctxOf s.u.own.ctx with
  | some c => (c.scmBase, min c.scmLen (Config.scmBytes - 2 * Config.imageRoom - Config.firmwareRoom - c.scmBase))
  | none => (0, 0)

/-- The first of the operands that fails, each with its test and its side: its XI, 0 for LOC and DIE (07 R152), and its side. -/
def firstOperand : List (Bool × Word × Bool) → Option (Nat × Bool)
  | [] => none
  | (bad, a, w) :: r => if bad then some (infoXi a, w) else firstOperand r

/-- A space that an operand may not lie in, or an SCM offset beyond the window: code 1 (15 R332, 16 R361). -/
def State.copySpaceBad (s : State) (c : CCmd) : Option (Nat × Bool) :=
  match c.op with
  | 3 => firstOperand [(pSpace c.sd ≠ 0, c.sd, true)]
  | 9 => firstOperand [(s.scmWindow.2 < c.sd.toNat + c.sl.toNat, 0, true)]
  | 0xA => firstOperand [(s.scmWindow.2 < c.sa.toNat + c.sl.toNat, 0, false)]
  | 0xB => firstOperand [(pSpace c.sa ≠ 3, c.sa, false), (c.mreg % 4 ≠ 0 && pSpace c.sd ≠ 2, c.sd, true)]
  | _ => none

/-- A broken alignment: code 8 (08 R190, 15 R332). -/
def CCmd.misaligned (c : CCmd) : Option (Nat × Bool) :=
  let off (a : Word) (n : Nat) (w : Bool) : Bool × Word × Bool := (pOff a % n ≠ 0, a, w)
  match c.op with
  | 3 => firstOperand [off c.sd 512 true]
  | 6 => firstOperand [off c.md 8 true]
  | 7 => firstOperand [off c.sa (redBytes c.redFmt) false, off c.sd (redBytes c.redFmt) true]
  | 8 => firstOperand [off c.sa 4 false]
  | _ => none

/-- The code of a cause that an engine meets (08 R185). -/
def codeOf (cause : Nat) : Nat :=
  if cause = cSPAD_BOUNDS then 1 else if cause = cSTALE then 2 else if cause = cLEASE then 3
  else if cause = cPEER_GATED then 9 else 4

/-- The first operand that fails with a given cause: its XI and side. -/
def State.firstBadRange (s : State) (cause : Nat) : List (Word × Nat × AccKind) → Option (Nat × Bool)
  | [] => none
  | (a, n, k) :: r =>
    match s.engineSpan 6 a n k with
    | .error t => if t.cause = cause then some (infoXi a, k.wr) else s.firstBadRange cause r
    | .ok _ => s.firstBadRange cause r

/-- Whether a saved copy of matching base and size stands in the record region. -/
def State.hasSaved (s : State) (a : Alloc) : Bool :=
  (areaRecords s.mem (areaOf s.u.regs.pr.savebase) s.u.who).any (fun r => r.base = a.base && r.size = a.size)

/-- What SPILL and FILL find before they move a byte (16 R370; an address that is no base is code 1, log 81). -/
def State.saveCode (s : State) (c : CCmd) : Option Nat :=
  match s.copyAlloc c with
  | none => some 1
  | some a =>
    if a.isExpired s.now then some 2
    else if c.op = 0x11 && !s.hasSaved a then some 13 else none

/-- The check at acceptance (15 R331): the code, XI and side. A gather's alignment is checked after its elements (log 25). -/
def State.copyCheck (s : State) (c : CCmd) : Option (Nat × Nat × Bool) :=
  if c.badRange then some (12, 0, false)
  else if c.op = 0x10 || c.op = 0x11 then (s.saveCode c).map (fun k => (k, 0, c.op = 0x11))
  else match (s.copySpaceBad c).orElse (fun _ => s.firstBadRange cSPAD_BOUNDS c.copyRanges) with
    | some (x, w) => some (1, x, w)
    | none => match s.firstBadRange cLEASE c.copyRanges with
      | some (x, w) => some (3, x, w)
      | none => if c.op = 8 then none else c.misaligned.map (fun (x, w) => (8, x, w))

def State.groupOf (s : State) (g : Nat) : Option Group := s.fabric.groups.find? (fun x => x.entry.group = g)

/-- The group's commands accepted and not completed (08 R192). -/
def State.groupPending (s : State) (g : Nat) : Nat :=
  ((s.allCores.flatMap Core.cbuf).filter (fun x => x.coll && x.running && x.group = g)).length

/-- The checks of a COLL at acceptance, in order (15 R329). -/
def State.collCheck (s : State) (c : CCmd) : Option (Nat × Nat × Bool) :=
  let sl := c.sl.toNat
  if c.md.toNat / 2 ^ (if c.op = 0xF then 49 else 48) ≠ 0 || sl = 0 || 2 ^ 32 ≤ sl then some (12, 0, false)
  else if c.sa.toNat % 64 ≠ 0 || c.sd.toNat % 64 ≠ 0 || sl % 64 ≠ 0 then
    some ((8, (firstOperand [(c.sa.toNat % 64 ≠ 0, c.sa, false), (c.sd.toNat % 64 ≠ 0, c.sd, true)]).getD (0, false)))
  else if (match s.groupOf c.group with
      | none => true
      | some g => g.entry.ctx ≠ s.u.own.ctx || c.step ≠ g.last + 1 + s.groupPending c.group) then some (11, 0, false)
  else match s.firstBadRange cSPAD_BOUNDS c.copyRanges with
    | some (x, w) => some (1, x, w)
    | none => (s.firstBadRange cLEASE c.copyRanges).map (fun (x, w) => (3, x, w))

/-- Commands held back at BL1 (14 R316). -/
def State.heldAtBl1 (s : State) (c : CCmd) : Bool := s.window.level = 1 && (c.coll || c.op = 9 || c.op = 0xA)

def Core.waitingCopy (k : Core) : Option CCmd := k.cbuf.find? (fun c => !c.running)
def Core.runningCopies (k : Core) : Nat := (k.cbuf.filter (fun c => c.running && !c.coll)).length

/-- A command ends at acceptance; an extent violation terminates the unit (07 R162). -/
def State.copyRefuse (s : State) (c : CCmd) (code xi : Nat) (wr : Bool) : State :=
  let s1 := s.copyDone { c with xi := xi, wr := wr, moved := 0 } code
  if code = 3 && s.u.st ≠ .ending then s1.stopEnd else s1

/-- COPY_ACCEPT (08 R185): the oldest waiting command, in the order of the buffer; at most 16 copies run. -/
def State.copyAccept (s : State) : State :=
  match s.core.waitingCopy with
  | none => s
  | some c =>
    if s.heldAtBl1 c || (!c.coll && Config.runningCopies ≤ s.core.runningCopies) then s
    else s.atUnit c.who (fun s =>
      match (if c.coll then s.collCheck c else s.copyCheck c) with
      | some (code, xi, wr) => s.copyRefuse c code xi wr
      | none => s.modCore (fun k => k.setCopy { c with running := true, chunks := s.copyHolds c c.todo }))

def execCopyAccept (s : State) : Host.Outcome State Fault Refusal := .next s.copyAccept

/-! Chunks. -/

/-- Element-wise sum in a reduction format, with the flags by 06 R133; INT32 wraps. -/
def reduceElt (f x y : Nat) : Flagged :=
  if f = 4 then ⟨(x + y) % 2 ^ 32, 0⟩
  else
    let r := fpAdd f 0 0 (readFp f x) (readFp f y)
    ⟨r.val, mFlags r.flags⟩

/-- Two byte strings added element by element: bytes and flags. -/
def reduceBytes (f : Nat) (xs ys : List Byte) : List Byte × Nat :=
  let e := redBytes f
  let n := xs.length / e
  let out := (List.range n).map (fun i =>
    reduceElt f (bytesNat ((xs.drop (e * i)).take e)) (bytesNat ((ys.drop (e * i)).take e)))
  (out.flatMap (fun r => natBytes e r.val), out.foldl (fun a r => Nat.lor a r.flags) 0)

/-- NaN (FP) or zero (INT32) elements, for a checker error under TOLERANT (13 R279). -/
def nanBytes (f n : Nat) : List Byte :=
  (List.range (n / redBytes f)).flatMap (fun _ => natBytes (redBytes f) (if isFp f then nanOf f else 0))

/-- What moving a chunk gives: the state and the failing code, XI and side. -/
structure Moved where
  st : State
  bad : Option (Nat × Nat × Bool)
  deriving DecidableEq, Repr

/-- Bytes an engine writes at homes (13 R284): a bad granule written in part is code 4 under STRICT, counted under
TOLERANT. -/
def State.engineWrite (s : State) (sp : Span) (data : List Byte) : Moved :=
  let (m, dropped) := s.mem.write sp.homes data sp.cover s.writerTag
  let s1 := ({ s with mem := m }).logPoison dropped
  if dropped = [] then ⟨s1, none⟩
  else if sp.tol then ⟨s1.modU (fun u => u.addErr dropped.length), none⟩
  else ⟨s1, some (4, sp.xi, true)⟩

/-- Bytes of SCM and of the save area are plain. -/
def State.plainWrite (s : State) (a : Nat) (data : List Byte) : State := s.modMem (fun m => m.lay a data)

/-- The homes of bytes of a SPILL slot (16 R370, 11 R258). -/
def State.slotHomes (s : State) (a : Alloc) (b n : Nat) : List Nat :=
  List.range' (areaOf s.u.regs.pr.savebase + offSpill + 1024 * a.base + b) n

/-- The source bytes of a chunk; the errors delivered as zeros are counted by `copyBad`. FILL reads its slot under the policy stored
with it (13 R283). -/
def State.copyRead (s : State) (c : CCmd) (b n : Nat) : EngineRead :=
  match c.op with
  | 0xA => ⟨s, .ok [s.mem.range (scmBase + s.scmWindow.1 + c.sa.toNat + b) n], 0⟩
  | 0x12 => ⟨s, .ok [zeros n], 0⟩
  | 0x11 => match s.copyAlloc c with
    | none => ⟨s, .ok [zeros n], 0⟩
    | some a =>
      let sp : Span := ⟨3, 0, 0, n, s.slotHomes a b n, none, false, 0, 0⟩
      match s.engineFault sp 6 with
      | some t => ⟨s.noteRead sp.homes, .error t, 0⟩
      | none => ⟨s.noteRead sp.homes, .ok [(s.engineBytes sp 0).1], 0⟩
  | 8 =>
    match s.readList c ((splitRows c.rowBytes b n).map (fun (r, _, _) => r)) with
    | (t, some e) => ⟨t, .error e, 0⟩
    | (t, none) => t.engineFetch 6 ((s.copySrc c b n).map (fun (a, l) => (a, l, 0)))
  | _ => s.engineFetch 6 ((s.copySrc c b n).map (fun (a, l) => (a, l, 0)))

/-- The bad granules that a chunk reads, each of which counts once for a command (08 R185). -/
def State.copyBad (s : State) (c : CCmd) (b n : Nat) : List Nat :=
  s.mem.badGranules ((s.copySrc c b n ++ c.listOps b n).flatMap (fun (a, l) => match s.engineSpan 6 a l kRead with
    | .ok sp => sp.homes
    | .error _ => []) ++ (match c.op, s.copyAlloc c with | 0x11, some a => s.slotHomes a b n | _, _ => []))

/-- The chunk performed at its destination. CPYA adds each element in a step of its own (15 R332): those in bad granules are not merged (13
R284). -/
def State.copyWrite (s : State) (c : CCmd) (b n : Nat) (data : List Byte) (err : Option Mismatch) : Moved × Nat :=
  match c.op with
  | 9 => (⟨s.plainWrite (scmBase + s.scmWindow.1 + c.sd.toNat + b) data, none⟩, 0)
  | 0x10 => match s.copyAlloc c with
    | none => (⟨s, none⟩, 0)
    | some a => (⟨s.plainWrite (areaOf s.u.regs.pr.savebase + offSpill + 1024 * a.base + b) data, none⟩, 0)
  | _ =>
    match c.dst b n with
    | none => (⟨s, none⟩, 0)
    | some (a, l) =>
      match s.engineAt 6 a l (if c.op = 7 then kBoth else kWrite) with
      | .error t => (⟨s, some (codeOf t.cause, infoXi a, true)⟩, 0)
      | .ok sp =>
        if c.op = 7 then
          let gs := s.mem.badGranules sp.homes
          let kept := (sp.homes.zip data).filter (fun (h, _) => !gs.contains (granOf h))
          let s1 := ({ s with mem := gs.foldl (fun m g => m.setEcc g .poisoned) s.mem } : State).logPoison gs
          let (bs, fl) := reduceBytes c.redFmt (kept.map (fun (h, _) => s.mem.byte h)) (kept.map Prod.snd)
          let w := s1.engineWrite { sp with homes := kept.map Prod.fst } (if err.isSome then nanBytes c.redFmt kept.length else bs)
          (if gs = [] then w else if sp.tol then ⟨w.st.modU (fun u => u.addErr gs.length), none⟩ else ⟨w.st, some (4, sp.xi, true)⟩,
            if err.isSome then 0 else fl)
        else (s.engineWrite sp data, 0)

/-- Whether another engine command of this core locks a chunk against this command (08 R191, R202): a matrix command its LOC operands, if
it entered earlier or has begun; a CPYT its destination, if it entered earlier; and a CPYT itself waits for the earlier copies that
still read or write its destination (log 31). -/
def State.lockedForC (s : State) (c : CCmd) (b n : Nat) : Bool :=
  let mine := s.rangeChunks 6 (chunkOperands (s.copySrc c b n ++ c.listOps b n)) kRead ++
    s.rangeChunks 6 (chunkOperands (c.dst b n).toList) kWrite
  s.core.matrix.buf.any (fun x => (x.entered ≤ c.entered || x.begun) && meet x.locks mine) ||
  s.core.cbuf.any (fun y => y.entered < c.entered && !y.coll && (meet y.locks mine || meet c.locks y.chunks))

/-- The accesses before a gather to the chunks of its elements have performed, by its list as it stands now (09 R200). -/
def State.gatherMay (s : State) (c : CCmd) : Bool :=
  c.op ≠ 8 || !s.u.accs.any (fun a => (a.issued < c.entered || (a.issued = c.entered && a.slot < 6)) &&
    meet (chunksOf (a.spans.flatMap s.spanHomes)) (s.copyHolds c c.todo))

/-- How long the port to another module's home has been down (14 R303): none while it is up, or where the home is this module's. -/
def State.portDown (s : State) (h : Nat) : Option Nat :=
  if isRemote h then (s.fabric.ports[Config.portOf (moduleOf h) % 32]?).bind (fun p => if p.up then none else some (s.clock - p.lostAt))
  else none

/-- A home on a module cut off from this one: fenced (10 R239), or behind a port that has been down for 10 ms (14 R303). -/
def State.away (s : State) (h : Nat) : Bool :=
  isRemote h && (s.fabric.fenced.contains (moduleOf h) || (match s.portDown h with | some n => decide (14000000 ≤ n) | none => false))

/-- The homes of a chunk's operands. -/
def State.chunkHomes (s : State) (c : CCmd) (b n : Nat) : List Nat :=
  let homes (l : List (Word × Nat)) (k : AccKind) : List Nat := l.flatMap (fun (a, m) => match s.engineSpan 6 a m k with
    | .ok sp => sp.homes
    | .error _ => [])
  homes (s.copySrc c b n ++ c.listOps b n) kRead ++ homes (c.dst b n).toList kWrite

/-- A chunk waits while a port that it uses retrains, 10 ms at most (14 R303). -/
def State.portMay (s : State) (c : CCmd) (b n : Nat) : Bool :=
  (s.chunkHomes c b n).all (fun h => (s.portDown h).isNone || s.away h)

/-- Whether a chunk may perform now: chunks of CPYK go in ascending order (08 R187), and a request that another module refused is
offered again no sooner than it asked (12 R264). -/
def State.chunkMay (s : State) (c : CCmd) (k : Nat) : Bool :=
  let (b, n) := chunkAt (c.chunkList (s.copyGranules c)) k
  c.running && !c.coll && c.code.isNone && c.todo.contains k && (c.op ≠ 5 || c.todo.head? = some k) &&
    s.engineMay false c.entered && c.again ≤ s.clock && !s.lockedForC c b n && s.gatherMay c && s.portMay c b n

/-- COPY_CHUNK (08 R185): chunk `k` of a running command, its issuer's strand in front. -/
def State.moveOne (s : State) (c : CCmd) (k : Nat) (err : Option Mismatch) : State :=
  let (b, n) := chunkAt (c.chunkList (s.copyGranules c)) k
  let fail (s : State) (fl code xi : Nat) (wr : Bool) : State :=
    let s1 := s.modCore (fun x => x.setCopy { c with flags := Nat.lor c.flags fl, todo := [], code := some code, xi := xi, wr := wr, chunks := [] })
    if code = 3 && s.u.st ≠ .ending then s1.stopEnd else s1
  let strictErr := c.op = 7 && err.isSome && !s.u.own.tolerant
  if strictErr then
    let s1 := (s.logFault 0 7).copyDone { c with xi := 0, wr := false } 6
    let t : Trap := ⟨cPIPE_ERR, pipeInfo 6 4 ((err.map Mismatch.kind).getD 0) 0 0 0⟩
    if s.u.st = .ending then s1.modU (fun u => { u with own := { u.own with abandoned := true } })
    else s1.raiseMatrix (orderKey c.entered 6) ⟨t, c.epc⟩
  else
    let s0 := if c.op = 7 && err.isSome then (s.logFault 0 7).modU (fun u => u.addErr 1) else s
    let fresh := (s0.copyBad c b n).filter (fun g => !c.seen.contains g)
    let r := s0.copyRead c b n
    match r.data with
    | .error t => fail r.st 0 (codeOf t.cause) (bitsAt t.einfo 0 4) false
    | .ok l =>
      let data := l.flatten
      let (m, fl) := (r.st.modU (fun u => u.addErr fresh.length)).copyWrite c b n data err
      match m.bad with
      | some (code, xi, wr) => fail m.st fl code xi wr
      | none =>
        let todo := c.todo.filter (fun x => x ≠ k)
        let s1 := if c.op = 3 then m.st.modU (fun u =>
            u.setMask (c.mreg % 8) (u.mask (c.mreg % 8) ||| BitVec.ofNat 64 (2 ^ k))) else m.st
        s1.modCore (fun x => x.setCopy { c with
          todo := todo, moved := c.moved + n, flags := Nat.lor c.flags fl, seen := c.seen ++ fresh,
          crc := if c.op = 5 then crcBytes c.crc data else c.crc, chunks := s1.copyHolds c todo })

/-- The operands of a chunk that lie on a module cut off from this one: the XI and side of the first (08 R185, code 10). -/
def State.unreachable (s : State) (c : CCmd) (b n : Nat) : Option (Nat × Bool) :=
  let away (l : List (Word × Nat)) (k : AccKind) : Option Nat := l.findSome? (fun (a, m) => match s.engineSpan 6 a m k with
    | .ok sp => if sp.homes.any s.away then some sp.xi else none
    | .error _ => none)
  match away (s.copySrc c b n ++ c.listOps b n) kRead with
  | some x => some (x, false)
  | none => (away (c.dst b n).toList kWrite).map (fun x => (x, true))

/-- A chunk of a running command. The first one of a gather checks its elements before any byte moves (15 R332). -/
def State.moveChunk (s : State) (c : CCmd) (k : Nat) (err : Option Mismatch) : State :=
  let (b, n) := chunkAt (c.chunkList (s.copyGranules c)) k
  let elems := if c.op = 8 && !c.listed then s.elemRanges c else []
  match s.unreachable c b n with
  | some (xi, wr) => s.modCore (fun x => x.setCopy { c with todo := [], code := some 10, xi := xi, wr := wr, chunks := [] })
  | none => match s.firstBadRange cSPAD_BOUNDS elems with
    | some (xi, wr) => s.copyRefuse c 1 xi wr
    | none => match s.firstBadRange cLEASE elems with
      | some (xi, wr) => s.copyRefuse c 3 xi wr
      | none => match (if c.op = 8 then c.misaligned else none) with
        | some (xi, wr) => s.copyRefuse c 8 xi wr
        | none => s.moveOne { c with listed := true } k err

def State.copyChunk (s : State) (k chunk : Nat) (err : Option Mismatch) : State :=
  match s.core.cbuf[k]? with
  | none => s
  | some c => s.atUnit c.who (fun s => if s.chunkMay c chunk then s.moveChunk c chunk err else s)

def execCopyChunk (k chunk : Nat) (err : Option Mismatch) (s : State) : Host.Outcome State Fault Refusal :=
  .next (s.copyChunk k chunk err)

/-! Completion. -/

/-- The follow-on word of CPYM checked as 03 R89 would, with 01 R22, by the values of its scalars at the CPYM's issue (08 R187). -/
def State.followBad (s : State) (c : CCmd) : Bool :=
  match decodeFields .M c.mword with
  | .error _ => true
  | .ok i =>
    let u := (s.u.setScalar (bitsAt c.mword.toNat 40 6) c.msa).setScalar (bitsAt c.mword.toNat 34 6) c.msn
    (slotTrap u.privileged 3 i).isSome || (ownerTrap s [i]).isSome || (latchTrap u [i]).isSome ||
      (shapeTrap u [(3, i)]).isSome || (formatTrap u [(3, i)]).isSome

/-- The unit's accesses before a CPYC to the word of its signal have performed (09 R196). -/
def State.signalMay (s : State) (c : CCmd) : Bool :=
  c.op ≠ 6 || c.code.isSome || !s.u.accs.any (fun a =>
    (a.issued < c.entered || (a.issued = c.entered && a.slot < 6)) && meet (s.accWords a) c.sigw)

/-- CPYC's add (08 R186): one update of the signal at its home, which can be written (15 R332), and which it reads as SIG does (16
R368): STALE in an allocation that has expired. -/
def State.signalAdd (s : State) (c : CCmd) : Moved :=
  match s.engineAt 6 c.md 8 kWrite with
  | .error t => ⟨s, some (codeOf t.cause, infoXi c.md, true)⟩
  | .ok sp =>
    let h := sp.homes.headD 0
    if s.spanStale sp then ⟨s, some (codeOf cSTALE, sp.xi, true)⟩
    else if Memory.bad (s.mem.eccOf h) then ⟨s.noteRead sp.homes, some (4, sp.xi, true)⟩
    else ⟨(s.noteRead sp.homes).writeWord h (s.mem.word h + 1) sp.cover, none⟩

/-- The record entry that SPILL writes and FILL looks for (16 R370). -/
def State.recordSlot (s : State) (a : Alloc) : Option Nat :=
  let at' (i : Nat) : Nat := areaOf s.u.regs.pr.savebase + offRecords + 32 * i
  match (List.range 64).find? (fun i => recordValid s.mem (at' i) && (readRecord s.mem (at' i) s.u.who).base = a.base) with
  | some i => some (at' i)
  | none => ((List.range 64).find? (fun i => !recordValid s.mem (at' i))).map at'

/-- FILL makes the allocation fresh at the completion cycle (07 R156). -/
def State.freshen (s : State) (a : Alloc) : State :=
  s.modCore (fun k => { k with allocs := updFirst (fun b => decide (b = a)) (fun b =>
    { b with expired := false, lastren := s.now, expiry := s.now + min b.life s.die.retn }) k.allocs })

/-- COPY_COMPLETE (08 R185, R187): nothing is left to move. CPYM waits for a place in the M buffer. -/
def State.finishCopy (s : State) (c : CCmd) : State :=
  match c.code with
  | some k => s.copyDone c k
  | none =>
    match c.op with
    | 4 =>
      if s.followBad c then s.copyDone c 7
      else if mOp c.mword = 0x11 then (s.modCore (fun k => k.cancelMatrix s.u.who)).copyDone c 0
      else if Config.bufferEntries ≤ s.core.matrix.buf.length then s
      else (s.enterM c.mword c.msa c.msn c.mhnd c.epc).copyDone c 0
    | 5 =>
      if c.md.getLsbD 32 && (c.crc ^^^ 0xFFFFFFFF#32).toNat ≠ c.sl.toNat / 2 ^ 32 then s.copyDone c 5 else s.copyDone c 0
    | 6 =>
      let m := s.signalAdd c
      match m.bad with
      | some (k, xi, wr) =>
        let s1 := m.st.copyDone { c with xi := xi, wr := wr } k
        if k = 3 && s.u.st ≠ .ending then s1.stopEnd else s1
      | none => m.st.copyDone c 0
    | 0x10 => match s.copyAlloc c with
      | none => s.copyDone c 1
      | some a => match s.recordSlot a with
        | none => s.copyDone c 0
        | some p => (s.plainWrite p (recordBytes a (a.isExpired s.now))).copyDone c 0
    | 0x11 => match s.copyAlloc c with
      | none => s.copyDone c 1
      | some a => (s.freshen a).copyDone c 0
    | _ => s.copyDone c 0

def State.copyComplete (s : State) (k : Nat) : State :=
  match s.core.cbuf[k]? with
  | none => s
  | some c =>
    if !c.running || c.coll || !c.todo.isEmpty then s
    else s.atUnit c.who (fun s => if s.signalMay c then s.finishCopy c else s)

def execCopyComplete (k : Nat) (s : State) : Host.Outcome State Fault Refusal := .next (s.copyComplete k)

/-- ENGINE_STOP_TIMEOUT (11 R256): the copies of a unit that wait for its stop are cancelled after 65,536 cycles. -/
def State.engineStopTimeout (s : State) : State :=
  match s.u.trap.settle with
  | none => s
  | some f =>
    if f + Config.engineStop ≤ s.now then (s.core.copiesOf s.u.who).foldl (fun s c => s.cancelCopy c) s else s

def execEngineStopTimeout (s : State) : Host.Outcome State Fault Refusal := .next s.engineStopTimeout

end Sys2Proof.Machine
end

