-- ==== Sys2Proof/Machine/Account.lean ====
section
/-! DEFINITION. The work hierarchy (01 R34 to R38): completion counters, cancel, the kill of a context (13 R291), and the
end of a unit (01 R21). -/

namespace Sys2Proof.Machine

/-- Bytes written at their homes for a context (13 R290), with the policy of the first granule; a bad granule written in part is queued as
a poison write (13 R284, R287). -/
def State.updateBytes (s : State) (ctx a : Nat) (l : List Byte) : State :=
  let (m, dropped) := s.mem.write (List.range' a l.length) l (s.mem.modeOf a) ctx
  dropped.foldl (fun s g => s.logEntry ⟨g, 3, ctx, placeWord s.u.place, s.die.cycle % 2 ^ 32⟩) { s with mem := m }

/-- An update of one word at its home, for a context (13 R290); the granule's policy stays, and one of a bad granule is queued as a
poison write (13 R284, R287). -/
def State.updateWord (s : State) (ctx a : Nat) (v : Word) : State :=
  s.updateBytes ctx a (wordBytes v)

/-- CYCLE of a die. -/
def State.cycleOf (s : State) (d : Nat) : Nat := match s.dieAt d with | some x => x.cycle | none => s.now

/-- A message to the host: function and vector (14 R299). -/
def State.msi (s : State) (vf vec : Nat) : State := { s with window := { s.window with msix := s.window.msix ++ [(vf, vec)] } }

/-- The NOTIFY message of a queue page (10 R217, 14 R299). -/
def State.notify (s : State) (on : Bool) (page : Nat) : State := if on then s.msi (page / 64) (page % 64) else s

/-! Counters (01 R35, R36). -/

/-- The add of n members. -/
def ctrInc (abandoned : Bool) (n : Nat) : Nat := n * (if abandoned then 2 ^ 28 else 1)

/-- The new word after an add: COMPLETE once DONE + ABANDONED is the member count. -/
def ctrNew (old : Word) (inc members : Nat) : Word :=
  let x := BitVec.ofNat 64 (old.toNat + inc)
  if bitsAt x.toNat 0 28 + bitsAt x.toNat 28 28 = members then x ||| 0x8000000000000000 else x

def ctrComplete (w : Word) : Bool := w.getLsbD 63
def ctrAbandoned (w : Word) : Nat := bitsAt w.toNat 28 28

def State.launchOf (s : State) (uid : Nat) : Option Launch := s.work.launches.find? (fun l => l.uid = uid)
def State.modLaunch (s : State) (uid : Nat) (f : Launch → Launch) : State :=
  s.modWork (fun w => { w with launches := updFirst (fun l => l.uid = uid) f w.launches })
def State.phaseOf (s : State) (ctx id : Nat) : Option Phase := s.work.phases.find? (fun p => p.ctx = ctx && p.id = id)
def State.modPhase (s : State) (ctx id : Nat) (f : Phase → Phase) : State :=
  s.modWork (fun w => { w with phases := updFirst (fun p => p.ctx = ctx && p.id = id) f w.phases })
def Phase.graph (p : Phase) (id : Nat) : Option Graph := p.graphs.find? (fun g => g.id = id)
def Phase.modGraph (p : Phase) (id : Nat) (f : Graph → Graph) : Phase :=
  { p with graphs := updFirst (fun g => g.id = id) f p.graphs }

/-- The home of a job's counter, an aligned word of this module's memory (01 R34; log 48). -/
def jobAddr (ctx : Nat) : Nat := 8 * (Config.jobWord ctx % (Config.hbmBytes / 8))

/-- A phase of a job accounted (01 R36); the count of the job's phases is not known until its context is released. -/
def State.jobAdd (s : State) (ctx : Nat) (ab : Bool) : State :=
  s.updateWord ctx (jobAddr ctx) (BitVec.ofNat 64 ((s.mem.word (jobAddr ctx)).toNat + ctrInc ab 1))

/-- A graph of a phase accounted. -/
def State.phaseAdd (s : State) (ctx pid : Nat) (ab : Bool) : State :=
  match s.phaseOf ctx pid with
  | none => s
  | some p =>
    let v := ctrNew (s.mem.word p.ctr) (ctrInc ab 1) p.graphs.length
    let s1 := s.updateWord ctx p.ctr v
    if ctrComplete v then
      ((s1.modPhase ctx pid (fun p => { p with done := true })).notify p.notify p.queue).jobAdd ctx (ctrAbandoned v ≠ 0)
    else s1

/-- A launch of a graph accounted. -/
def State.graphAdd (s : State) (ctx pid gid : Nat) (ab : Bool) : State :=
  match (s.phaseOf ctx pid).bind (fun p => p.graph gid) with
  | none => s
  | some g =>
    let v := ctrNew (s.mem.word g.ctr) (ctrInc ab 1) g.launches
    let s1 := s.updateWord ctx g.ctr v
    if ctrComplete v then
      (s1.modPhase ctx pid (fun p => p.modGraph gid (fun g => { g with done := true }))).phaseAdd ctx pid (ctrAbandoned v ≠ 0)
    else s1

/-- n units of a launch accounted (01 R36). The adds of units that end together without ever being placed are taken
as one. -/
def State.launchAdd (s : State) (uid n : Nat) (ab : Bool) : State :=
  if n = 0 then s
  else match s.launchOf uid with
    | none => s
    | some l =>
      let v := ctrNew (s.mem.word l.ctr) (ctrInc ab n) l.g
      let s1 := s.updateWord l.ctx l.ctr v
      if ctrComplete v then
        ((s1.modLaunch uid (fun l => { l with done := true, leased := [] })).notify l.notify l.queue).graphAdd l.ctx l.phase
          l.graph (ctrAbandoned v ≠ 0)
      else s1

/-- A unit ENDED (01 R20, R36): its bitmap bit when it ended normally (10 R232), then its counter add. -/
def State.accountUnit (s : State) (w : UnitId) (ab : Bool) : State :=
  match s.launchOf w.launch with
  | none => s
  | some l =>
    let s1 := match ab, l.bitmap with
      | false, some (a, _) =>
        let p := a + 8 * (w.rank / 64)
        s.updateWord l.ctx p (s.mem.word p ||| BitVec.ofNat 64 (2 ^ (w.rank % 64)))
      | _, _ => s
    s1.launchAdd w.launch 1 ab

/-! The end of a unit. -/

/-- The conditions of 01 R21: no command of the unit left, and every write performed. -/
def State.endDone (s : State) : Bool :=
  s.u.st = .ending && (s.core.commandsOf s.u.who).isEmpty && (s.core.copiesOf s.u.who).isEmpty && s.u.accs.isEmpty

/-- UNIT_ENDED (01 R21): everything the unit held on the core is freed, its strand is free, and it is accounted. -/
def State.unitEnded (s : State) : State :=
  if s.endDone then
    let w := s.u.who
    let ab := s.u.own.abandoned
    let s1 := s.modMatrix (fun m => m.noteHeld s.now)
    ({ s1 with
        core := s1.core.release w,
        u := { s1.u with st := .absent, target := none, flights := [], accs := [], loops := [], trap := Trapping.reset } }
      : State).accountUnit w ab
  else s

def execUnitEnded (s : State) : Host.Outcome State Fault Refusal := .next s.unitEnded

/-! Termination of a saved unit (11 R253). -/

/-- A saved unit is removed and counted abandoned; its team may resume without it (01 R24). -/
def State.removeSaved (s : State) (w : UnitId) : State :=
  (s.modWork (fun k => { k with saved := k.saved.filter (fun x => decide (x.who ≠ w)) })).accountUnit w true

/-- TERMINATION (11 R253): firmware ends a unit that a hard stop sent to it. -/
def execTermination (launch rank : Nat) (s : State) : Host.Outcome State Fault Refusal :=
  .next (match s.work.saved.find? (fun x => decide (x.who = ⟨launch, rank⟩) && x.firmware) with
    | none => s
    | some x => s.removeSaved x.who)

/-! Cancel (01 R37, R38). -/

/-- The units of a share that have not been placed. -/
def Share.pending (h : Share) : Nat := h.stop - h.next

/-- CANCELLED set in a counter. -/
def State.orCancel (s : State) (ctx a : Nat) : State := s.updateWord ctx a (s.mem.word a ||| 0x4000000000000000)

/-- The units of one launch, by their states (01 R37); before its release none has a share. One whose COMPLETE is set stays as it is
(01 R38). -/
def State.cancelLaunch (s : State) (uid : Nat) : State :=
  match s.launchOf uid with
  | none => s
  | some l =>
    if l.done then s else
    let pending := if l.shares.isEmpty && !l.cancelled then l.g else (l.shares.map Share.pending).sum
    let saved := (s.work.saved.filter (fun x => x.who.launch = uid)).length
    let s1 := s.modLaunch uid (fun l => { l with cancelled := true, shares := l.shares.map (fun h => { h with next := h.stop }) })
    let s2 := s1.modWork (fun k => { k with saved := k.saved.filter (fun x => x.who.launch ≠ uid) })
    let s3 := s2.mapStrands (fun u =>
      if u.st.onStrand && u.who.launch = uid && u.st ≠ .ending then u.requestSoft cCANCEL (s.cycleOf u.place.die) else u)
    s3.launchAdd uid (pending + saved) true

/-- What a CANCEL names: phases, graphs and launches (10 R233). -/
structure CancelSet where
  ctx : Nat
  phases : List Nat
  graphs : List (Nat × Nat)
  launches : List Nat
  deriving DecidableEq, Repr

/-- The instances at and below a level (10 R233): 1 launch, 2 graph, 3 phase, 4 job. None exists: none. -/
def State.cancelSet (s : State) (ctx level id : Nat) : Option CancelSet :=
  let mine := s.work.launches.filter (fun l => l.ctx = ctx)
  let phases := s.work.phases.filter (fun p => p.ctx = ctx)
  match level with
  | 1 => (mine.find? (fun l => l.id = id)).map (fun l => ⟨ctx, [], [], [l.uid]⟩)
  | 2 => (phases.find? (fun p => (p.graph id).isSome)).map (fun p =>
      ⟨ctx, [], [(p.id, id)], (mine.filter (fun l => l.phase = p.id && l.graph = id)).map Launch.uid⟩)
  | 3 => (phases.find? (fun p => p.id = id)).map (fun p =>
      ⟨ctx, [id], p.graphs.map (fun g => (id, g.id)), (mine.filter (fun l => l.phase = id)).map Launch.uid⟩)
  | 4 =>
    if id = ctx then some ⟨ctx, phases.map Phase.id, phases.flatMap (fun p => p.graphs.map (fun g => (p.id, g.id))),
      mine.map Launch.uid⟩
    else none
  | _ => none

/-- Bit 62 in the counters of every instance, and the instances that are not COMPLETE marked; then the units (01 R37, R38). -/
def State.applyCancel (s : State) (c : CancelSet) : State :=
  let gids := c.graphs
  let s1 := c.phases.foldl (fun s pid => match s.phaseOf c.ctx pid with
    | none => s
    | some p => (s.orCancel c.ctx p.ctr).modPhase c.ctx pid (fun p => { p with cancelled := p.cancelled || !p.done })) s
  let s2 := gids.foldl (fun s (pid, gid) => match (s.phaseOf c.ctx pid).bind (fun p => p.graph gid) with
    | none => s
    | some g => (s.orCancel c.ctx g.ctr).modPhase c.ctx pid (fun p => p.modGraph gid (fun g => { g with cancelled := g.cancelled || !g.done }))) s1
  let s3 := c.launches.foldl (fun s uid => match s.launchOf uid with
    | none => s
    | some l => s.orCancel c.ctx l.ctr) s2
  c.launches.foldl State.cancelLaunch s3

/-- CANCELLED in a job's counter, and the job marked so. -/
def State.orJob (s : State) (ctx : Nat) : State :=
  (s.orCancel ctx (jobAddr ctx)).modWork (fun w =>
    { w with ctxs := updFirst (fun x => x.id = ctx) (fun x => { x with cancelled := true }) w.ctxs })

/-- Work opened in the context is never created: the context is killed, or its job cancelled (01 R37, 13 R291). -/
def State.jobDead (s : State) (ctx : Nat) : Bool :=
  match s.ctxOf ctx with | some c => c.killed || c.cancelled | none => false

/-- A cancel applied at a level; none when no such instance exists in the context (01 R38). -/
def State.cancel (s : State) (ctx level id : Nat) : Option State :=
  (s.cancelSet ctx level id).map (fun c => (if level = 4 then s.orJob ctx else s).applyCancel c)

/-- The kill of a context (13 R291): its job is cancelled, its units end by hard stop, their copies
settling as at a checkpoint (11 R256), and the driver is told. -/
def State.killContext (s : State) (ctx : Nat) : State :=
  match s.ctxOf ctx with
  | none => s
  | some c =>
    if c.killed then s
    else
      let s1 := s.modWork (fun w => { w with ctxs := updFirst (fun x => x.id = ctx) (fun x => { x with killed := true }) w.ctxs })
      let s2 := (s1.cancel ctx 4 ctx).getD s1
      let here := (s2.allStrands.filter (fun u => u.st.onStrand && u.st ≠ .ending && u.own.ctx = ctx)).map Strand.place
      (here.foldl (fun s p => s.at p State.stopEnd) s2).msi c.vf 64

end Sys2Proof.Machine
end

