-- ==== Sys2Proof/Machine/Issue.lean ====
section
/-! DEFINITION. The issue of bundles (02 R47 to R65; 03 R88 to R91): fetch, the waits before the checks, the selector of a
core (01 R43, 02 R63), and the events of a strand: landings, stops, latches and timers. -/

namespace Sys2Proof.Machine

/-! Fetch (02 R47, R49; 07 R162). -/

/-- The bytes of the bundle at PC in x0, or LEASE. -/
def State.codeSpan (s : State) : Except Trap Span :=
  let x := s.u.ext 0
  let off := 64 * s.u.pc.toNat
  let lease (kind o : Nat) : Trap := ⟨cLEASE, memInfo 0 kind 0 false o⟩
  if extLen x = 0 then .error (lease 2 off)
  else if extLen x < off + 64 then .error (lease 0 (max off (extLen x)))
  else if !extExec x then .error (lease 1 off)
  else .ok ⟨3, 0, off, 64, List.range' (extBase x + off) 64, none, extTol x, extFmap x, extBase x⟩

/-- The 512 bits of the bundle at PC, or LEASE, or MEM_UE where a granule of code is bad (13 R283). -/
def State.fetch (s : State) : Except Trap Bundle :=
  match s.codeSpan with
  | .error t => .error t
  | .ok sp => match s.engineFault sp 0 with
    | some t => .error t
    | none => .ok (bytesRow (s.engineBytes sp 0).1)

/-- What the read of the bundle at PC leaves (13 R283, R286, R287): errors corrected, poisoned and logged, and those delivered as zeros
counted. It is noted once, as the bundle issues or raises a cause. -/
def State.noteFetch (s : State) : State :=
  match s.codeSpan with
  | .error _ => s
  | .ok sp =>
    let n := if (s.engineFault sp 0).isSome then 0 else (s.engineBytes sp 0).2
    (s.noteRead sp.homes).modU (fun u => u.addErr n)

/-- The header of a bundle (02 R48). -/
def Header.ofBundle (b : Bundle) : Header := ⟨b.period, b.wait.toNat, b.pop.toNat⟩
def Header.none : Header := ⟨false, 0, 0⟩

/-- The enabled slots that decode, with their slot numbers. A slot that fails its must-be-zero check is none of them, so the registers
that its fields would name hold back no bundle: 03 R88 does not say. DESIGN CHOICE (log 76). -/
def bundleSlots (b : Bundle) : List (Nat × Instr) :=
  b.slots.filterMap (fun (p, w) => match decodeFields p.kind w with | .ok i => some (p.num, i) | .error _ => Option.none)

/-- A slot's bits are all clear. -/
def slotClear (b : Bundle) (p : SlotPos) : Bool := b.word p = 0

/-- The checks of 03 R89 that the bundle's bits alone decide and those of each slot, slot by slot. -/
def State.bitsTrap (s : State) (b : Bundle) : Option Trap :=
  if b.reserved ≠ 0 then some ⟨cILLEGAL_BUNDLE, 5⟩
  else match slotPositions.find? (fun p => !b.enabled p.num && !slotClear b p) with
    | some p => some ⟨cILLEGAL_BUNDLE, 0x10 + p.num⟩
    | Option.none => firstTrap (b.slots.map (fun (p, w) => match decodeFields p.kind w with
      | .error .opcodeZero => some ⟨cILLEGAL, 0x18 + p.num⟩
      | .error .unassigned => some ⟨cILLEGAL, 0x20 + p.num⟩
      | .error _ => some ⟨cILLEGAL, 0x28 + p.num⟩
      | .ok i => slotTrap s.u.privileged p.num i))

/-! The waits before the checks (03 R88). -/

/-- Registers with a scoreboarded result outstanding (02 R53; 11 R243). -/
def State.pendingScalars (s : State) : List Nat :=
  s.u.accs.flatMap (fun a => if a.act.dest.1 = 0 then a.act.dest.2 else []) ++
    (s.core.copiesOf s.u.who).flatMap (fun c => c.tok :: (if c.op = 5 then [c.mreg % 64] else []))
def State.pendingVectors (s : State) : List Nat :=
  s.u.accs.flatMap (fun a => if a.act.dest.1 = 1 then a.act.dest.2 else []) ++
    (s.core.commandsOf s.u.who).flatMap (fun c =>
      match mOp c.word with
      | 15 => readOutRows c.sav c.snv
      | 16 => readOutRows c.sav c.snv ++ [bitsAt c.sav.toNat 21 11]
      | _ => [])
def State.pendingHandles (s : State) : List Nat :=
  s.u.accs.filterMap (fun a => match a.act with | .thdl h => some h | _ => Option.none)

/-- A slot reads or writes a pending register (02 R53). -/
def State.waitsScoreboard (s : State) (i : Instr) : Bool :=
  meet ((sReads s.u i ++ sDests i).filter (fun r => r ≠ 0)) s.pendingScalars ||
  meet ((vSources s.u i).filter (fun r => !s.u.isLatch r) ++ vWrites s.u i) s.pendingVectors ||
  meet (hReads s.u i) s.pendingHandles

/-- A fixed-latency result of the strand is still to land. -/
def State.unlandedAny (s : State) : Bool := s.u.flights.any (fun f => s.now < f.lastAt)

/-- A period waits for the fixed-latency results (02 R58). -/
def State.waitsLanding (s : State) (h : Header) : Bool := h.p && s.unlandedAny

/-- A handler's return waits for the fixed-latency results (11 R251). -/
def State.waitsReturn (s : State) (i : Instr) : Bool := s.u.trap.inHandler && decide (i = .trap 0) && s.unlandedAny

/-- Slack (02 R62): a command of the strand has not been accepted in time, by the slack that it entered with (16 R369). -/
def State.waitsSlack (s : State) : Bool :=
  (s.core.commandsOf s.u.who).any (fun c => !c.running && c.entered + c.slack + 1 ≤ s.now) ||
  (s.core.copiesOf s.u.who).any (fun c => !c.running && c.entered + c.slack + 1 ≤ s.now)

/-- CCAN is never held back by slack, nor is the bundle that holds it (15 R326). DEDUCED (log 94). -/
def isCcan (i : Instr) : Bool := match i with | .ccan _ => true | _ => false

/-- A latch read or popped has no head (02 R65); a recorded cause is raised by the checks instead. -/
def State.waitsLatch (s : State) (h : Header) (is : List Instr) : Bool :=
  (List.range 8).any (fun j =>
    let l := s.u.latch j
    l.bound && l.head.isNone && l.cause.isNone &&
      (h.pop.testBit j || is.any (fun i => (vSources s.u i).contains (2040 + j))))

/-- TCFG and TREL wait for the writes to the group (05 R114), TTRN for those to both of its groups (16 R379). -/
def State.waitsShape (s : State) (i : Instr) : Bool :=
  let rows : List Nat := match i with
    | .tcfg t _ _ _ => rowsOf t.toNat 16
    | .trel t => rowsOf t.toNat 16
    | .ttrn t ta => rowsOf t.toNat 16 ++ rowsOf ta.toNat 16
    | _ => []
  !rows.isEmpty && s.u.flights.any (fun f => match f.dest with
    | .vector r => (List.range (f.cnt + 1)).any (fun j => f.next ≤ j && s.now < f.rowAt j && rows.contains (r + j))
    | .shape t _ => s.now < f.land && (match i with | .ttrn _ _ => rows.contains (16 * t) | _ => false)
    | _ => false)

/-- An earlier CPYT of the strand on the same mask has not completed (05 R118). -/
def State.waitsMask (s : State) (i : Instr) : Bool :=
  match i with
  | .cpyt f => (s.core.copiesOf s.u.who).any (fun c => c.op = 3 && c.mreg % 8 = f.md.toNat % 8)
  | _ => false

/-- A load with fixed latency: from LOC space (02 R51). -/
def locLoad (i : Instr) : Option MemF :=
  match i with
  | .ldB f | .ldBu f | .ldH f | .ldHu f | .ldW f | .ldWu f | .ldD f | .vld f | .vlds f | .vldb f =>
    if f.sp = 0 then some f else none
  | _ => none

/-- In-flight entries that an instruction needs (05 R123). -/
def entriesOf (i : Instr) : Nat :=
  match i.slotKind with
  | some .S => (sDests i).length
  | some .V => match i with | .vcmpr _ => 2 | .trel _ => 0 | _ => 1
  | some .L => if (locLoad i).isSome then 1 else 0
  | _ => 0

/-- The in-flight queue has no room (05 R123). -/
def State.waitsQueue (s : State) (is : List Instr) : Bool :=
  let held := (s.u.flights.filter Flight.isEntry).length
  held ≠ 0 && Config.ifqEntries < held + (is.map entriesOf).sum

/-- Addresses and sizes that a program access of the L, W or Y slot reaches. -/
def State.accessList (s : State) (i : Instr) : List (Word × Nat) :=
  let one (f : MemF) (n : Nat) : List (Word × Nat) := [(s.effAddr f, n)]
  match i with
  | .ldB f | .ldBu f | .stB f => one f 1
  | .ldH f | .ldHu f | .stH f => one f 2
  | .ldW f | .ldWu f | .stW f => one f 4
  | .ldD f | .stD f | .take f | .putf f | .peek f => one f 8
  | .aadd f | .aminS f | .aminU f | .amaxS f | .amaxU f | .aand f | .aor f | .axor f | .aswp f | .acas f => one f 8
  | .afadd f | .afmin f | .afmax f => one f 8
  | .thdl f => one f 32
  | .vld f | .vst f => one f (s.u.rowShape f.r.toNat).width
  | .vldb f => one f (s.u.rowShape f.r.toNat).u
  | .vlds f | .vsts f => s.rowElems f
  | .tld f | .tst f =>
    let h := readHandle (s.u.handle f.h.toNat)
    if h.valid then tileSpans h else []
  | .bar sa _ _ | .barc sa _ _ | .sig sa _ _ _ | .wsig sa _ _ _ _ | .wsiga sa _ _ _ _ => [(s.S sa, 8)]
  | _ => []

/-- The homes in the unit's own scratchpad among them. -/
def State.locHomes (s : State) (i : Instr) : List Nat :=
  (s.accessList i).flatMap (fun (a, n) => if pSpace a = 0 then
    (match s.check 4 a n kRead 0 with | .ok sp => sp.homes | .error _ => []) else [])

/-- FREE of an allocation that a command holds (07 R160), and program accesses to HELD chunks (08 R188); one to a PINNED chunk is for
the checks. -/
def State.waitsHeld (s : State) (i : Instr) : Bool :=
  match i with
  | .free sa => match s.core.allocBase s.u.who (s.S sa) with
    | some a => a.chunks.any (fun k => s.heldChunk (s.core.index * 1024 + k))
    | none => false
  | _ =>
    let ks := chunksOf (s.locHomes i)
    !ks.any s.pinnedChunk && ks.any s.heldChunk

/-- A LOC load waits for the accesses before it (09 R199): those of the bundles before. An M command of its own bundle stands before it in 09
R196, but begins no sooner than the load issues: DESIGN CHOICE (log 102). -/
def State.waitsOrder (s : State) (i : Instr) : Bool :=
  match locLoad i with
  | some f => !s.mayPerform s.u.accs f.oc.toNat ((s.locHomes i).map (· / 8))
  | none => false

/-- The core's divider is taken (02 R51). -/
def State.waitsDivider (s : State) (i : Instr) : Bool :=
  match i with
  | .divS _ _ _ | .divU _ _ _ | .remS _ _ _ | .remU _ _ _ => s.now < s.core.divUntil
  | _ => false

/-- A full elastic buffer (02 R61); MCAN and CCAN enter none (16 R355, 15 R326). -/
def State.waitsBuffer (s : State) (i : Instr) : Bool :=
  match i with
  | .mcan _ => false
  | .ccan _ => false
  | _ => match i.slotKind with
    | some .M => Config.bufferEntries ≤ s.core.matrix.buf.length
    | some .C => Config.bufferEntries ≤ (s.core.cbuf.filter (fun c => !c.running)).length
    | _ => false

/-- WCHK and WENG (17 R402, R403). -/
def State.waitsEngine (s : State) (i : Instr) : Bool :=
  match i with
  | .wchk m sm => s.u.mask m.toNat &&& s.S sm ≠ s.S sm
  | .weng eng =>
    (eng ≠ 1 && !(s.core.commandsOf s.u.who).isEmpty) || (eng ≠ 0 && !(s.core.copiesOf s.u.who).isEmpty)
  | _ => false

/-- Whether the bundle must wait before its checks: each wait is a stall (02 R63). -/
def State.bundleWaits (s : State) (h : Header) (is : List Instr) : Bool :=
  s.waitsLanding h || (s.waitsSlack && !is.any isCcan) || s.waitsLatch h is || s.waitsQueue is ||
  is.any (fun i => s.waitsScoreboard i || s.waitsShape i || s.waitsMask i || s.waitsHeld i ||
    s.waitsDivider i || s.waitsBuffer i)

/-- The waits that 03 R88 does not list, which come after the checks: of a LOC load (09 R199), of a handler's return (11 R251), WCHK and
WENG. -/
def State.laterWaits (s : State) (is : List Instr) : Bool :=
  is.any (fun i => s.waitsOrder i || s.waitsEngine i || s.waitsReturn i)

/-- The WAIT count has run (02 R52, 11 R255); a period's counts from the later of the previous issue and the restore (02 R58). A
period may issue WAIT cycles after the first cycle that the restore allows: DEDUCED (log 49). -/
def State.waitOver (s : State) (h : Header) : Bool :=
  let t := s.u.time
  t.notBefore ≤ s.now && (if h.p then max (t.prevIssue + 1) t.restore else t.prevIssue + 1) + h.wait ≤ s.now

/-! What the next bundle can do in this cycle. -/

inductive Attempt where
  | hold
  | stall
  | block (req : Option Waiter)
  | trap (t : Trap)
  | go (h : Header) (slots : List (Nat × Instr))
  deriving DecidableEq, Repr

def Attempt.waits (a : Attempt) : Bool := match a with | .stall | .block none => true | _ => false

/-- A soft stop is due at this bundle, before it issues (02 R57). One whose request has been served at its home counts as issued: the
stop is taken at the next period (09 R209). -/
def State.stopsHere (s : State) (h : Header) : Bool := s.u.trap.soft ≠ 0 && (h.p || s.u.time.fresh) && !s.servedMine

/-- The bundle at PC: fetch, WAIT, stops, waits, checks, and the condition of a blocking instruction, in that order (03
R88, R89; 02 R60). -/
def State.attempt (s : State) : Attempt :=
  match s.fetch with
  | .error t => if max (s.u.time.prevIssue + 1) s.u.time.notBefore ≤ s.now then .trap t else .hold
  | .ok b =>
    let h := Header.ofBundle b
    let slots := bundleSlots b
    let s1 := { s with hdr := h }
    if !s.waitOver h then .hold
    else if s.stopsHere h then .stall
    else if s1.bundleWaits h (slots.map Prod.snd) then .stall
    else if s1.servedMine then .go h slots
    else match (s1.bitsTrap b).orElse (fun _ => s1.bundleTrap slots) with
      | some t => .trap t
      | none =>
        if s1.laterWaits (slots.map Prod.snd) then .stall
        else match slots.find? (fun (_, i) => isBlocking i) with
          | none => .go h slots
          | some (_, i) => match s1.tryBlock i with
            | .go _ _ => .go h slots
            | .wait r => .block r
            | .trap t => .trap t

/-! Issue. -/

/-- A clause begins at a period: both slacks are 0 (02 R62). -/
def State.beginClause (s : State) (h : Header) : State :=
  if h.p then s.modU (fun u => u.modTime (fun t => { t with mslack := 0, cslack := 0 })) else s

/-- EMPTY_BUNDLE (02 R48): no operation; P, WAIT and POP take effect. -/
def execEmptyBundle (p : Bool) (wait : BitVec 5) (pop : BitVec 8) (s : State) : Host.Outcome State Fault Refusal :=
  let h : Header := ⟨p, wait.toNat, pop.toNat⟩
  let s1 := { s with hdr := h }
  .next (match s1.bundleTrap [] with
    | some t => { s1.trapBefore t with hdr := Header.none }
    | none => { (s1.beginClause h).finish with hdr := Header.none })

/-- TRAP, END and RFT end their bundle themselves. -/
def endsBundle (i : Instr) : Bool := match i with | .trap _ => true | .endUnit => true | .rft => true | _ => false

/-- The slots of a bundle run one after another on what they all read: their writes land later (02 R50). -/
def runSlots (run : Instr → State → Host.Outcome State Fault Refusal) (s : State) :
    List (Nat × Instr) → Host.Outcome State Fault Refusal
  | [] => .next s
  | (k, i) :: r =>
    match run i { s with slot := k } with
    | .next t => runSlots run t r
    | .fault f => .fault f
    | .refused f => .refused f

/-- A fault that the bundle met as it issued, raised as it ends. -/
def State.raisePend (s : State) : State :=
  match s.u.trap.pend with
  | none => s
  | some h =>
    if s.u.trap.inHandler || s.u.trap.settle.isSome || s.u.trap.late.isSome then s
    else (s.modU (fun u => u.modTrap (fun t => { t with pend := none }))).trapAfter h

/-- What a checked bundle leaves: the end of the bundle, unless a slot has ended it, and the marks of issue cleared. -/
def State.closeBundle (s : State) (ended : Bool) : State :=
  let s1 := if ended then s else s.finish.raisePend
  { s1 with slot := 0, checked := false, hdr := Header.none }

/-- A bundle that passed its checks issues: its slots in order, TRAP last, as its bundle counts as issued (16 R378). -/
def State.issueBundle (run : Instr → State → Host.Outcome State Fault Refusal) (s0 : State) (h : Header)
    (slots : List (Nat × Instr)) : Host.Outcome State Fault Refusal :=
  let s := s0.noteFetch
  match slots with
  | [] => run (.emptyBundle h.p (BitVec.ofNat 5 h.wait) (BitVec.ofNat 8 h.pop)) s
  | _ =>
    let s1 := { (s.beginClause h) with hdr := h, checked := true }
    let last := slots.filter (fun (_, i) => endsBundle i)
    match runSlots run s1 (slots.filter (fun (_, i) => !endsBundle i) ++ last) with
    | .next t => .next (t.closeBundle (!last.isEmpty))
    | o => o

/-! The selector of a core (01 R43, 02 R63). -/

def Place.sameCore (p q : Place) : Bool := p.die = q.die && p.cluster = q.cluster && p.core = q.core

/-- The strands of the core in front. -/
def State.coreStrands (s : State) : List Strand := s.allStrands.filter (fun u => Place.sameCore u.place s.u.place)

def Strand.isReady (u : Strand) : Bool := (u.st = .ready || u.st = .running) && u.trap.settle.isNone

/-- The strand that holds issue is ready. -/
def State.holderReady (s : State) : Bool :=
  s.coreStrands.any (fun u => u.place.strand = s.core.holder && u.isReady)

/-- Strands ready beside the holder. -/
def State.otherReady (s : State) : List Strand :=
  s.coreStrands.filter (fun u => u.place.strand ≠ s.core.holder && u.isReady)

/-- a is chosen before b: higher priority, longer since it last issued (log 92), lower number. -/
def Strand.chosenBefore (a b : Strand) : Bool :=
  if a.own.prio ≠ b.own.prio then a.own.prio < b.own.prio
  else if a.time.lastIssue ≠ b.time.lastIssue then a.time.lastIssue < b.time.lastIssue
  else a.place.strand < b.place.strand

def pickBest : List Strand → Option Strand
  | [] => none
  | a :: r => some (r.foldl (fun m x => if x.chosenBefore m then x else m) a)

/-- Issue is handed to the best other ready strand, which may issue from the second cycle on; the old holder becomes READY
(01 R20). -/
def State.handOver (s : State) : State :=
  match pickBest s.otherReady with
  | none => s
  | some v =>
    let old := s.core.holder
    let s1 := s.mapStrands (fun u =>
      if Place.sameCore u.place s.u.place && u.place.strand = old && u.st = .running then { u with st := .ready } else u)
    s1.modCore (fun c => { c with holder := v.place.strand, switchUntil := s.now + Config.switchCycles,
                                  heldFor := 0, yielded := false })

/-- A strand of higher priority is ready. -/
def State.higherReady (s : State) : Bool :=
  match s.coreStrands.find? (fun u => u.place.strand = s.core.holder) with
  | none => false
  | some h => s.otherReady.any (fun u => u.own.prio < h.own.prio)

/-- A strand of the holder's priority is ready beside it. -/
def State.peerReady (s : State) : Bool :=
  match s.coreStrands.find? (fun u => u.place.strand = s.core.holder) with
  | none => false
  | some h => s.otherReady.any (fun u => u.own.prio = h.own.prio)

/-- The holder has had its quantum (01 R43): 256 cycles of its hold in which a strand of its priority was ready, of which one is
ready now. The cycles need not follow one another: DEDUCED (log 73). -/
def State.quantumOver (s : State) : Bool := (s.core.yielded || Config.quantum ≤ s.core.heldFor) && s.peerReady

/-- A cycle of the hold in which a strand of the holder's priority is ready (01 R43). -/
def State.countHold (s : State) : State :=
  if s.core.switchUntil ≤ s.now && s.peerReady then s.modCore (fun c => { c with heldFor := c.heldFor + 1 }) else s

/-- QUANTUM_EXPIRY (01 R43). -/
def execQuantumExpiry (s : State) : Host.Outcome State Fault Refusal :=
  .next (if s.holderReady && s.quantumOver then s.handOver else s)

/-- The slots of the bundle at PC. -/
def State.nextSlots (s : State) : List (Nat × Instr) := match s.fetch with | .ok b => bundleSlots b | .error _ => []

/-- SLACK_EXHAUSTED (02 R62): the strand stops issuing, and issue goes to another (02 R63). -/
def execSlackExhausted (s : State) : Host.Outcome State Fault Refusal :=
  .next (if s.u.st = .running && s.u.trap.settle.isNone && s.waitsSlack && !s.nextSlots.any (fun (_, i) => isCcan i) then
    (let s1 := s.modU (fun u => { u with st := .blocked })
     if s.core.holder = s.u.place.strand then s1.handOver else s1) else s)

/-- Issue in alternate cycles while the cluster is throttled (14 R307): the even ones (log 17). -/
def State.throttled (s : State) : Bool := s.die.throttled.getD s.u.place.cluster false && s.now % 2 = 1

/-- Every BLOCKED strand of the core whose condition is met becomes READY in this cycle, whichever turn it has (01 R20, R43). -/
def State.wakePeers (s : State) : State :=
  (s.coreStrands.filter (fun u => u.st = .blocked && u.trap.settle.isNone && decide (u.place ≠ s.u.place))).foldl (fun s u =>
    s.at u.place (fun s => if s.attempt.waits then s else s.modU (fun u => { u with st := .ready }))) s

/-- A cause raised before the bundle at PC issues; one of a blocking instruction notes what its read found. -/
def State.trapNext (s : State) (t : Trap) : State :=
  match s.nextSlots.find? (fun (_, i) => isBlocking i) with
  | some (_, i) => s.blockTrap i t
  | none => s.trapBefore t

/-- The turn of the strand in front in this cycle: BLOCKED becomes READY when its condition is met, and READY becomes RUNNING when the
selector has chosen it (01 R20). -/
def State.turnOn (run : Instr → State → Host.Outcome State Fault Refusal) (s : State) (a : Attempt) :
    Host.Outcome State Fault Refusal :=
  let s1 := (if s.u.st = .blocked && !a.waits then s.modU (fun u => { u with st := .ready }) else s).wakePeers
  if s1.core.holder ≠ s1.u.place.strand then .next (if s1.u.isReady && !s1.holderReady then s1.handOver else s1)
  else if s1.u.st = .blocked then .next s1.handOver
  else if s1.higherReady || s1.quantumOver then .next s1.handOver
  else if s1.now < s1.core.switchUntil || s1.throttled then .next s1.countHold
  else
    let s2 := s1.countHold.modU (fun u => { u with st := .running })
    match a with
    | .hold => .next s2
    | .stall => .next (s2.modU (fun u => { u with st := .blocked })).handOver
    | .block r => .next (s2.blocked r).handOver
    | .trap t => .next (s2.noteFetch.trapNext t)
    | .go h slots => s2.issueBundle run h slots

/-- Whether the unit in front can issue at all. -/
def State.mayIssue (s : State) : Bool :=
  (s.u.st = .ready || s.u.st = .running || s.u.st = .blocked) && s.u.trap.settle.isNone

def State.turn (run : Instr → State → Host.Outcome State Fault Refusal) (s : State) :
    Host.Outcome State Fault Refusal :=
  if s.mayIssue then s.turnOn run s.attempt else .next s

/-! Landing events. -/

/-- The canonical result row of a format after a checker error (13 R279). -/
def errorRow (f : Nat) : Row :=
  if isFp f then ofElems (tagBytes f) (List.replicate (64 / tagBytes f) (nanOf f))
  else if isBse f then ofBlocks f (List.replicate (64 / bseBlock f) (zeroBlock 0xFF)) else 0

/-- The unit of PIPE_ERR for a fixed-latency result (13 R280). -/
def errorUnit (slot : Nat) (control : Bool) : Nat :=
  if slot = 4 then 6 else if control then 3 else if slot = 0 then 0 else 1

/-- Two writes of one instruction: those of a paired entry (05 R124). -/
def Flight.sameInstr (f g : Flight) : Bool := f.issued = g.issued && f.slot = g.slot

/-- A result that a TOLERANT launch too stops on (13 R279): an address, a special register, an extent or a shape. -/
def Flight.strict (f : Flight) : Bool :=
  f.slot = 4 || (match f.dest with | .scalar _ => false | .vector _ => false | _ => true)

/-- A checker error in the row of flight `which` that lands now (13 R279, R280): PIPE_ERR, at its place in program order, with that row and
the later ones of its instruction discarded, or the canonical error row, which sets no flag, and one count for its instruction. -/
def State.rowMismatch (s : State) (m : Mismatch) : State × Option (Nat × Held) × Nat :=
  match s.u.flights[m.which]? with
  | none => (s, none, 0)
  | some f =>
    if s.now < f.land then (s, none, 0)
    else
      let s1 := s.logFault 0 7
      if m.control || !s.u.own.tolerant || f.strict then
        (s1.modU (fun u => { u with flights := u.flights.filter (fun g => !g.sameInstr f) }),
          some (orderKey f.issued f.slot,
            ⟨⟨cPIPE_ERR, pipeInfo f.slot (errorUnit f.slot m.control) m.kind f.reg f.next 0⟩, f.epc⟩), 0)
      else
        let bad (r : VReg) : VReg := match f.dest with | .vector _ => ⟨errorRow r.tag, r.tag⟩ | _ => ⟨0, r.tag⟩
        let rf := f.rowFlags.set f.next 0
        let g := { f with rows := (f.rows.zipIdx).map (fun (r, j) => if j = 0 || f.same then bad r else r),
                          rowFlags := rf, flags := orAll rf }
        (s1.modU (fun u => { u with flights := u.flights.map (fun x =>
          let y := if x = f then g else x
          if x.sameInstr f then { y with erred := true } else y) }), none, if f.erred then 0 else 1)

/-- A checker error of the strand (13 R279): in a row, or in the branch or loop target of the bundle that has just issued, or in a register
file, the in-flight queue or a save or restore path, which raise PIPE_ERR whatever the policy: DEDUCED (log 101). -/
def State.landMismatch (s : State) (m : Mismatch) : State × Option (Nat × Held) × Nat :=
  let pipe (unit key : Nat) (epc : Word) : State × Option (Nat × Held) × Nat :=
    (s.logFault 0 7, some (key, ⟨⟨cPIPE_ERR, pipeInfo 0 unit m.kind 0 0 0⟩, epc⟩), 0)
  match m.place with
  | .row => s.rowMismatch m
  | .target => if s.u.st = .running && s.now ≤ s.u.time.lastIssue + 1 then pipe 3 (orderKey s.u.time.lastIssue 0) s.u.time.lastPc
      else (s, none, 0)
  | .stored => if s.u.st.onStrand && s.u.st ≠ .ending && s.u.trap.settle.isNone then pipe 6 (orderKey s.now 8) s.u.pc else (s, none, 0)

/-- RESULT_LANDING (02 R51, R54): the rows that are due land; the fault among them that comes first in program order is raised (11
R246), and a count of the same cycle lands after them (05 R121). -/
def State.resultLanding (s : State) (err : Option Mismatch) : State :=
  let (s0, e, counted) := match err with | none => (s, none, 0) | some m => s.landMismatch m
  let (u, h) := if s0.u.dueNow s0.now then landOrdered s0.now s0.u else (s0.u, none)
  ({ s0 with u := u.addErr counted } : State).raiseHeld ((firstIssued e h).map Prod.snd)

def execResultLanding (err : Option Mismatch) (s : State) : Host.Outcome State Fault Refusal := .next (s.resultLanding err)

/-- An outstanding access performs, or one more line of a block is filled, or one more word of a row or a tile performs. Its fault is raised
at the strand, and held while the strand is stopped (11 R246); a unit that is ENDING is counted abandoned. -/
def State.performOne (s : State) (k : Nat) : State :=
  match ((s.u.accs[k]?).bind s.fillNext).orElse (fun _ => s.nextPart k) with
  | some t => t
  | none =>
    let p := s.performAt k
    match p.fault with
    | none => p.st
    | some h =>
      if p.st.u.st = .ending then p.st.modU (fun u => { u with own := { u.own with abandoned := true } })
      else if p.st.u.trap.settle.isSome then p.st.modU (fun u => u.hold (some h))
      else p.st.raiseAt (match s.u.accs[k]? with | some a => orderKey a.issued a.slot | none => 0) h

def State.accIsStore (s : State) (k : Nat) : Bool := match s.u.accs[k]? with | some a => a.isStore | none => false

/-- SCOREBOARD_LANDING (02 R53): the k-th outstanding access of the strand performs and its result lands. -/
def execScoreboardLanding (k : Nat) (s : State) : Host.Outcome State Fault Refusal :=
  .next (if s.eligible k && !s.accIsStore k then s.performOne k else s)

/-- WRITE_PERFORMS (13 R283, R284): the k-th outstanding access, a store, performs at its home. -/
def execWritePerforms (k : Nat) (s : State) : Host.Outcome State Fault Refusal :=
  .next (if s.eligible k && s.accIsStore k then s.performOne k else s)

/-! Stops. -/

/-- The watchdog's bound has passed with the stop not taken (02 R59). -/
def State.watchdogDue (s : State) : Bool :=
  s.mayIssue && s.u.trap.soft ≠ 0 && s.u.trap.wdStart + s.u.trap.wdBound ≤ s.now

/-- WATCHDOG_EXPIRY (02 R59): the soft stop becomes a hard stop. -/
def execWatchdogExpiry (s : State) : Host.Outcome State Fault Refusal :=
  .next (if s.watchdogDue then s.forcedStop else s)

/-- A soft stop can be taken: the strand stands at a period or before its first bundle, every fixed-latency and every scoreboarded
result has landed (02 R57, R58; 11 R243). -/
def State.softDue (s : State) : Bool :=
  s.mayIssue && s.u.flights.isEmpty && s.u.accs.all (fun a => !a.hasResult) &&
  (match s.fetch with
    | .ok b => s.stopsHere (Header.ofBundle b)
    | .error _ => s.u.trap.soft ≠ 0 && s.u.time.fresh && !s.servedMine)

/-- The end of a stop that waited for its copies (11 R243, R256, R257), and for its group (01 R24). -/
def State.settleDue (s : State) : Bool :=
  (s.u.trap.settle.isSome && s.u.trap.unrec && !s.u.trap.retained && s.u.st.onStrand && s.u.st ≠ .ending && s.settled) || s.groupReady

/-- A soft stop is recorded now; any other, recorded when it was taken, comes to its checkpoint, its group with it. -/
def State.settleStop (s : State) : State := if s.u.trap.unrec then s.recordSoft else s.checkpointGroup

/-- SOFT_STOP (11 R243): taken at a period once the strand has settled. -/
def State.softStop (s : State) : State :=
  if s.settleDue then s.settleStop else if s.softDue then s.takeSoft else s

def execSoftStop (s : State) : Host.Outcome State Fault Refusal := .next s.softStop

/-- DEBUG_STOP (11 R242): firmware requests it for a unit on a strand; its team and neighbourhood stop with it (01 R24, R27; that
they take the same cause is DEDUCED, log 78). -/
def execDebugStop (launch rank : Nat) (s : State) : Host.Outcome State Fault Refusal :=
  .next (match s.strandOf ⟨launch, rank⟩ with
    | none => s
    | some u => if u.st = .ending then s
        else (s.stopGroupBy cDEBUG_STOP u.who u.own.nbh).modUnit ⟨launch, rank⟩ (fun u =>
          u.requestSoft cDEBUG_STOP (s.cycleOf u.place.die)))

/-! Timers. -/

/-- ALLOC_EXPIRY (07 R157): allocations of the core whose EXPIRY has come are marked. -/
def State.expiryDue (s : State) : Bool := s.core.allocs.any (fun a => !a.expired && a.expiry ≤ s.now)
def State.expireAllocs (s : State) : State :=
  s.modCore (fun c => { c with allocs := c.allocs.map (fun a => if a.expiry ≤ s.now then { a with expired := true } else a) })
def execAllocExpiry (s : State) : Host.Outcome State Fault Refusal := .next s.expireAllocs

/-- RETN revised on a die (07 R158): a fall pulls every EXPIRY of its cores in, and expires at once what it reaches. -/
def State.setRetn (s : State) (d retn : Nat) : State :=
  let now := s.cycleOf d
  let fall : Bool := match s.dieAt d with | some x => decide (retn < x.retn) | none => false
  let pull (a : Alloc) : Alloc :=
    let e := min a.expiry (a.lastren + retn)
    { a with expiry := e, expired := a.expired || e ≤ now }
  let s1 := s.modDieAt d (fun x => { x with retn := retn })
  if fall then s1.mapCores (fun c => if c.die = d then { c with allocs := c.allocs.map pull } else c) else s1

/-- RETN_CHANGE (07 R158): a revision for temperature comes at most once per 1400 cycles, and never below the retention guaranteed
at 110 °C, 168,000 cycles at base clock (00 R8). -/
def execRetnChange (die retn : Nat) (s : State) : Host.Outcome State Fault Refusal :=
  .next (match s.dieAt die with
    | none => s
    | some x =>
      if (match x.lastRev with | some c => decide (c + 1400 ≤ x.cycle) | none => true) &&
          168000 * x.freq ≤ retn * Config.baseMhz then
        (s.setRetn die retn).modDieAt die (fun x => { x with lastRev := some x.cycle })
      else s)

/-- FLUSH (05 R126): every DIRTY group that the strand holds for another unit is saved. -/
def execFlushWrite (s : State) : Host.Outcome State Fault Refusal := .next s.flushGroups

/-! Queue latches (16 R363). -/

/-- The latch with a cause recorded. -/
def State.latchFails (s : State) (q : Nat) (t : Trap) : State :=
  s.modU (fun u => u.setLatch q { u.latch q with cause := some t })

/-- The header of a channel as bytes: PUSHED, LOG2N, and whether it is sound. -/
def channelHeader (bs : List Byte) : Nat × Nat × Bool :=
  let x := bytesNat bs
  (bitsAt x 0 64, bitsAt x 128 4, bitsAt x 132 380 = 0 && bitsAt x 128 4 ≤ 10)

/-- What reading the channel of latch q comes to: nothing while no item is there, a head, or a recorded cause. -/
def State.latchStep (s : State) (q : Nat) : Option State :=
  let l := s.u.latch q
  let asked := s.u.accs.any (fun a => match a.act with | .qhead p => p = q | _ => false)
  if !l.bound || l.head.isSome || l.cause.isSome || asked then none
  else
    let r := s.engineReads 7 [(l.chan, 64, 0)]
    match r.data with
    | .error t => some (r.st.latchFails q t)
    | .ok hs =>
      let (pushed, logn, sound) := channelHeader hs.flatten
      if l.logn.isNone && !sound then some (r.st.latchFails q ⟨cILLEGAL, 0x37⟩)
      else if pushed ≤ l.pos.toNat then none
      else
        let n := l.logn.getD logn
        let i := r.st.engineReads 7 [(addOff l.chan (64 + 64 * (l.pos.toNat % 2 ^ n)), 64, 0)]
        match i.data with
        | .error t => some (i.st.latchFails q t)
        | .ok bs => some (i.st.modU (fun u => u.setLatch q { l with logn := some n, head := some (bytesRow bs.flatten) }))

/-- LATCH_HEAD_FETCH (16 R363, step 5). -/
def execLatchHeadFetch (q : BitVec 3) (s : State) : Host.Outcome State Fault Refusal :=
  .next ((s.latchStep q.toNat).getD s)

/-! Commands restored with a unit (11 R260 step 7). -/

/-- Depth, holds and locks (08 R188, R191) of the commands of a restored unit, as its planes and allocations now stand. -/
def State.rehold (s : State) : State :=
  let w := s.u.who
  let fix (c : MCmd) (before : List MCmd) : MCmd :=
    let d := if isLoadOp (mOp c.word) then c.loadDepth
             else (Matrix.streamDepth { s.core.matrix with buf := before } c.fmt c.mask)
    let c1 := { c with depth := d }
    { c1 with chunks := s.cmdChunks c1, locks := s.cmdLocks c1 }
  s.modMatrix (fun m => { m with buf := m.buf.mapIdx (fun i c => if c.who = w then fix c (m.buf.take i) else c) })

/-- The unit saved as `sv` restored onto the strand in front, with its commands' holds; `finishResume` ends the resume when its whole group
stands on strands. -/
def State.resumeHere (s : State) (sv : Saved) : State := (s.restore sv).rehold

end Sys2Proof.Machine
end

