-- ==== Sys2Proof/Machine/Coll.lean ====
section
/-! DEFINITION. The collective engine and the fabric (08 R192; 15 R328, R329; 12 R264, R276; 14 R303 to R305): groups,
messages, ports and their flits. A message of a group is one flit whose payload begins with the word of 14 R304, and a request says
what it asks for in its first two words (log 18). -/

namespace Sys2Proof.Machine

/-! Flits. -/

/-- Types of 14 R304. -/
def fData : Nat := 0x01
def fRequest : Nat := 0x02
def fHold : Nat := 0x10
def fNack : Nat := 0x11
def fHibn : Nat := 0x12
def fRejoin : Nat := 0x13
def fShoot : Nat := 0x20
def fAck : Nat := 0x21

def flitTypes : List Nat := [fData, fRequest, fHold, fNack, fHibn, fRejoin, fShoot, fAck]

def State.modPort (s : State) (p : Nat) (f : Port → Port) : State :=
  { s with fabric := { s.fabric with ports := s.fabric.ports.mapIdx (fun i x => if i = p then f x else x) } }
def State.portUp (s : State) (p : Nat) : Bool := match s.fabric.ports[p]? with | some x => x.up | none => false

/-- The 16-byte header (14 R304). -/
def flitHead (f : Flit) : List Byte :=
  natBytes 16 (f.type % 2 ^ 8 + 2 ^ 8 * (f.dmod % 2 ^ 17) + 2 ^ 25 * (f.ddie % 2 ^ 4) + 2 ^ 29 * (f.smod % 2 ^ 17) +
    2 ^ 46 * (f.sdie % 2 ^ 4) + 2 ^ 64 * (f.tag % 2 ^ 16))

/-- The CRC-32C that bytes 252 to 255 hold: over the header and the payload, with zeros to byte 251 (14 R303). -/
def flitCrc (f : Flit) : Nat :=
  let l := flitHead f ++ f.payload
  (crc32c (l ++ List.replicate (252 - l.length) 0)).toNat

/-- A flit sent from a port, with its CRC. -/
def State.sendFlit (s : State) (port : Nat) (f : Flit) : State :=
  s.modPort port (fun x => { x with out := x.out ++ [{ f with crc := flitCrc f }] })

/-- The replay buffer of a port: its last 64 flits (14 R303). -/
def Port.replay (x : Port) : List Flit := x.out.drop (x.out.length - 64)

/-- The word of a control flit or a message: group and step (14 R304). -/
def groupWord (g step : Nat) : List Byte := natBytes 8 (g % 2 ^ 16 + 2 ^ 16 * (step % 2 ^ 32))

/-- A flit of this module about group g. -/
def State.groupFlit (_s : State) (type mod die port g step : Nat) (data : List Byte) : Flit :=
  { type := type, dmod := mod, ddie := die, smod := Config.moduleId % 2 ^ 17, sdie := port / 2, tag := g % 2 ^ 16,
    payload := groupWord g step ++ data, crc := 0 }

/-- To the ring successor, and to the predecessor. -/
def State.toSucc (s : State) (x : Group) (type step : Nat) (data : List Byte) : State :=
  let e := x.entry
  s.sendFlit e.succPort (s.groupFlit type e.succMod e.succDie e.succPort e.group step data)
def State.toPred (s : State) (x : Group) (type step : Nat) : State :=
  let e := x.entry
  s.sendFlit e.predPort (s.groupFlit type e.predMod e.predDie e.predPort e.group step [])

def State.modGroup (s : State) (g : Nat) (f : Group → Group) : State :=
  { s with fabric := { s.fabric with groups := updFirst (fun x => x.entry.group = g) f s.fabric.groups } }

/-! Groups (14 R305). -/

/-- GROUP_CREATE: L(g) = 0. A number or a place of the table in use creates nothing. -/
def execGroupCreate (entry : GroupEntry) (s : State) : Host.Outcome State Fault Refusal :=
  .next (if (s.groupOf entry.group).isSome || s.fabric.groups.any (fun g => g.entry.index = entry.index) then s
    else { s with fabric := { s.fabric with groups := s.fabric.groups ++
      [{ entry := entry, last := 0, inbox := [], kept := [], heldSucc := false, heldPred := false, again := none }] } })

/-- The COLL commands of a group that are running, in the order of their steps. -/
def State.collsOf (s : State) (g : Nat) : List CCmd :=
  sortBy CCmd.step ((s.allCores.flatMap Core.cbuf).filter (fun c => c.coll && c.running && c.group = g))

/-- GROUP_DISSOLVE: running commands end with code 11, and so do later ones, whose group is unknown. -/
def execGroupDissolve (g : Nat) (s : State) : Host.Outcome State Fault Refusal :=
  .next (
    let s1 := (s.collsOf g).foldl (fun s c => s.atUnit c.who (fun s => s.copyDone { c with xi := 0, wr := false } 11)) s
    { s1 with fabric := { s1.fabric with groups := dropFirst (fun x => x.entry.group = g) s1.fabric.groups } })

/-! Steps (08 R192, 15 R329). -/

/-- The command of the group's next step. -/
def State.collFront (s : State) (g : Nat) : Option CCmd :=
  match s.groupOf g with
  | none => none
  | some x => (s.collsOf g).find? (fun c => c.step = x.last + 1)

/-- A command ends with a code other than 0: the group's later ones end with code 11. -/
def State.collFail (s : State) (c : CCmd) (code xi : Nat) (wr : Bool) : State :=
  let s1 := (s.copyDone { c with xi := xi, wr := wr } code).failGroup c.group c.step
  if code = 3 && s.u.st ≠ .ending then s1.stopEnd else s1

/-- A ring neighbour of the group is fenced from it (10 R239), and does not hold its commands (12 R276). -/
def State.cutOff (s : State) (x : Group) : Bool :=
  (s.fabric.fenced.contains x.entry.succMod && !x.heldSucc) || (s.fabric.fenced.contains x.entry.predMod && !x.heldPred)

/-- The die that holds a group's receive area serves it (14 R305), unless it is fenced; an area that is not mapped is die 0's (log 71). -/
def State.groupServed (s : State) (x : Group) : Bool :=
  let d := match s.translate x.entry.ctx x.entry.recvVa x.entry.recvLen with | some (h, _, _) => stackOf h % 16 | none => 0
  match s.dieAt d with | some y => !y.fenced | none => false

/-- The memory that a group's command reads as it sends, in its service class (07 R170). -/
def State.collSource (s : State) (c : CCmd) : List Nat :=
  match s.engineSpan 6 c.sa c.sl.toNat kRead with | .ok sp => sp.homes | .error _ => []

/-- A command may begin to send, or ends because a neighbour is fenced (10 R239). -/
def State.collSendDue (s : State) (g : Nat) : Bool :=
  match s.collFront g, s.groupOf g with
  | some c, some x =>
    s.groupServed x && (s.cutOff x || (!c.sent && s.portUp x.entry.succPort &&
      (match s.strandOf c.who with
        | none => false
        | some u => (s.focus u.place).engineMay false c.entered)))
  | _, _ => false

/-- The messages of the two most recent steps (12 R276). -/
def keepTwo (l : List Msg) (m : Msg) : List Msg :=
  let r := l.filter (fun n => n.step ≠ m.step) ++ [m]
  r.drop (r.length - 2)

/-- The chunks that a command which has sent still holds: those it writes (08 R188). -/
def State.collHolds (s : State) (c : CCmd) : List Nat := s.rangeChunks 6 (chunkOperands [(c.sd, c.sl.toNat)]) kWrite

/-- COLL_SEND: the source bytes go to the successor, and their chunks are held no longer (08 R188); the engine keeps the messages of its
two latest steps (12 R276). -/
def State.collSend (s : State) (g : Nat) : State :=
  match s.collFront g, s.groupOf g with
  | some c, some x =>
    if s.cutOff x then s.atUnit c.who (fun s => s.collFail c 10 0 false)
    else if s.collSendDue g then
      s.atUnit c.who (fun s =>
        let r := s.engineReads 6 [(c.sa, c.sl.toNat, 0)]
        match r.data with
        | .error t => r.st.collFail c (codeOf t.cause) (bitsAt t.einfo 0 4) false
        | .ok l =>
          let data := l.flatten
          let s1 := (r.st.toSucc x fData c.step data).modGroup g (fun y =>
            { y with kept := keepTwo y.kept ⟨c.step, data⟩ })
          s1.modCore (fun k => k.setCopy { c with sent := true, chunks := s1.collHolds c }))
    else s
  | _, _ => s

def execCollSend (g : Nat) (s : State) : Host.Outcome State Fault Refusal := .next (s.collSend g)

/-- A message tagged (g, step) arrives: under B1 it is answered with HOLD (12 R264); one of an unknown group or a repeat is
discarded; any other is buffered (08 R192, 11 R256), and ends the predecessor's hold (log 83). -/
def State.collMessage (s : State) (g step : Nat) (data : List Byte) : State :=
  match s.groupOf g with
  | none => s
  | some x =>
    if s.supply.b1 && !s.supply.b2 then s.toPred x fHold x.last
    else if step ≤ x.last || x.inbox.any (fun m => m.step = step) then s
    else s.modGroup g (fun y => { y with inbox := y.inbox ++ [⟨step, data⟩], heldPred := false })

def execCollMessage (g step : Nat) (data : List (BitVec 8)) (s : State) : Host.Outcome State Fault Refusal :=
  .next (s.collMessage g step data)

/-- The destination bytes of a step from D, the source and the message, with the flags by 06 R133. -/
def CCmd.collBytes (c : CCmd) (d src m : List Byte) : List Byte × Nat :=
  match c.op with
  | 0xC => reduceBytes c.redFmt src m
  | 0xE => reduceBytes c.redFmt d m
  | _ => (m, 0)

/-- The 512-byte chunk in which a reduction's checker error arose (13 R278, R279) replaced by NaN or zero elements. -/
def nanChunk (f which : Nat) (bs : List Byte) : List Byte :=
  let lo := 512 * which
  bs.take lo ++ nanBytes f (min 512 (bs.length - lo)) ++ bs.drop (lo + 512)

/-- The destination written: COLL.BC with ROOT leaves it. The flags are those of the chunks without a checker error (13 R279). -/
def State.collWrite (s : State) (c : CCmd) (src m : List Byte) (err : Option Mismatch) : Moved × Nat :=
  if c.op = 0xF && c.md.getLsbD 48 then (⟨s, none⟩, 0)
  else match s.engineAt 6 c.sd c.sl.toNat (if c.op = 0xE then kBoth else kWrite) with
    | .error t => (⟨s, some (codeOf t.cause, infoXi c.sd, true)⟩, 0)
    | .ok sp =>
      let gs := if c.op = 0xE then s.mem.badGranules sp.homes else []
      if gs ≠ [] && !sp.tol then (⟨s.noteRead sp.homes, some (4, sp.xi, true)⟩, 0)
      else
        let s1 := if gs ≠ [] then (s.noteRead sp.homes).modU (fun u => u.addErr gs.length) else s
        let d := zeroBad (sp.homes.map (fun a => (s.mem.byte a, Memory.bad (s.mem.eccOf a))))
        let (bs, fl) := c.collBytes d src m
        match (if c.op = 0xC || c.op = 0xE then err else none) with
        | none => (s1.engineWrite sp bs, fl)
        | some e =>
          let cut (l : List Byte) : List Byte := l.take (512 * e.which) ++ l.drop (512 * (e.which + 1))
          (s1.engineWrite sp (nanChunk c.redFmt e.which bs), (c.collBytes (cut d) (cut src) (cut m)).2)

/-- COLL_COMPLETE may come: the message is there, and the successor has accepted the command's own. -/
def State.collDue (s : State) (g : Nat) : Bool :=
  match s.collFront g, s.groupOf g with
  | some c, some x => c.sent && x.inbox.any (fun m => m.step = c.step) && s.groupServed x
  | _, _ => false

/-- COLL_COMPLETE: the message is there, and the successor has accepted the command's own. -/
def State.collComplete (s : State) (g : Nat) (err : Option Mismatch) : State :=
  match s.collFront g, s.groupOf g with
  | some c, some x =>
    match x.inbox.find? (fun m => m.step = c.step) with
    | none => s
    | some m =>
      if !c.sent || !s.groupServed x then s
      else
        let s0 := s.modGroup g (fun y => { y with inbox := y.inbox.filter (fun n => n.step ≠ c.step) })
        s0.atUnit c.who (fun s =>
          let src := match x.kept.find? (fun n => n.step = c.step) with | some n => n.data | none => []
          let red := c.op = 0xC || c.op = 0xE
          if m.data.length ≠ c.sl.toNat then s.collFail c 12 0 false
          else if red && err.isSome && !s.u.own.tolerant then
            let p := min (512 * ((err.map Mismatch.which).getD 0)) m.data.length
            let (w, fl) := if p = 0 then (⟨s.logFault 0 7, none⟩, 0)
              else (s.logFault 0 7).collWrite { c with sl := BitVec.ofNat 64 p } (src.take p) (m.data.take p) none
            let s1 := w.st.collFail { c with moved := p, flags := fl } 6 0 false
            let t : Trap := ⟨cPIPE_ERR, pipeInfo 6 5 ((err.map Mismatch.kind).getD 0) 0 0 0⟩
            if s.u.st = .ending then s1.modU (fun u => { u with own := { u.own with abandoned := true } })
            else s1.raiseMatrix (orderKey c.entered 6) ⟨t, c.epc⟩
          else
            let s1 := if red && err.isSome then (s.logFault 0 7).modU (fun u => u.addErr 1) else s
            let (w, fl) := s1.collWrite c src m.data err
            match w.bad with
            | some (code, xi, wr) => w.st.collFail c code xi wr
            | none =>
              (w.st.copyDone { c with flags := fl, xi := 0, wr := false } 0).modGroup g (fun y =>
                { y with last := c.step, again := none }))
  | _, _ => s

def execCollComplete (g : Nat) (err : Option Mismatch) (s : State) : Host.Outcome State Fault Refusal :=
  .next (s.collComplete g err)

/-! Flits that arrive. -/

/-- A flit that this module does not take is discarded and counted (14 R304). -/
def State.flitOk (_s : State) (f : Flit) : Bool := flitTypes.contains f.type && f.dmod = Config.moduleId % 2 ^ 17
def State.discardFlit (s : State) (port : Nat) : State := s.modPort port (fun x => { x with errors := x.errors + 1 })

/-- A flit whose CRC is bad (14 R303): a replay is asked for, and the link is lost when the flit has failed 8 of them. -/
def State.badFlit (s : State) (port : Nat) : State :=
  s.modPort port (fun x =>
    if x.up && 8 ≤ x.fails then { x with up := false, lostAt := s.clock, fails := 0 } else { x with fails := x.fails + 1 })

/-- A flit of a kind that the module takes at a port: its CRC first, then its type and destination (14 R303, R304). -/
def State.takeFlit (s : State) (port : Nat) (crc ok : Bool) (act : State → State) : State :=
  if !crc then s.badFlit port
  else
    let s1 := s.modPort port (fun x => { x with fails := 0 })
    if ok then act s1 else s1.discardFlit port

/-- A control flit, by how it arrived. -/
def State.takeControl (s : State) (a : Arrival) (act : State → State) : State :=
  s.takeFlit a.port a.crc (a.dmod = Config.moduleId % 2 ^ 17) act

/-- NACK-retry, with the wait of a port keeper (12 R264, 14 R304). -/
def State.nackTo (s : State) (port : Nat) (f : Flit) : State :=
  s.sendFlit port { type := fNack, dmod := f.smod, ddie := f.sdie, smod := Config.moduleId % 2 ^ 17, sdie := port / 2,
                    tag := f.tag, payload := natBytes 8 (f.tag % 2 ^ 16 + 2 ^ 16 * 22), crc := 0 }

/-- Another module's request at a mailbox of this one; it waits with those of the units in the order of arrival (09 R208). No unit bears
launch number 0, and no queue's request rank 0. -/
def peerWho : UnitId := ⟨0, 0⟩

/-- What another module asks of this one's memory (09 R194; log 18): its first word says what in bits [7:0] and names the context in [17:8], its second
the home. A write of the bytes after them; an add of a word, as SIG; PUTF of a word. Reads change nothing here. -/
def State.serveRequest (s : State) (p : List Byte) : State :=
  let w := bytesNat (p.take 8)
  let h := bytesNat ((p.drop 8).take 8)
  let data := p.drop 16
  let v := BitVec.ofNat 64 (bytesNat (data.take 8))
  let ctx := bitsAt w 8 10
  let wordOk := h % 8 = 0 && h + 8 ≤ Config.hbmBytes
  match w % 256 with
  | 1 => if h + data.length ≤ Config.hbmBytes then s.updateBytes ctx h data else s
  | 2 => if wordOk then s.updateWord ctx h (s.mem.word h + v) else s
  | 3 => if wordOk then { s with waiters := s.waiters ++ [⟨peerWho, h, .putf v, none⟩] } else s
  | _ => s

/-- FABRIC_REQUEST (14 R304): a request is refused under B1 (12 R264), and else served. -/
def execFabricRequest (port : Nat) (flit : Flit) (s : State) : Host.Outcome State Fault Refusal :=
  .next (s.takeFlit port (flit.crc = flitCrc flit) (s.flitOk flit && flit.type = fRequest) (fun s =>
    if s.supply.b1 then s.nackTo port flit else s.serveRequest flit.payload))

/-- FABRIC_DATA (14 R304): a collective message goes to its group; other data is refused under B1. -/
def execFabricData (port : Nat) (flit : Flit) (s : State) : Host.Outcome State Fault Refusal :=
  .next (s.takeFlit port (flit.crc = flitCrc flit) (s.flitOk flit && flit.type = fData) (fun s =>
    let w := bytesNat (flit.payload.take 8)
    if s.supply.b1 && (s.groupOf (bitsAt w 0 16)).isNone then s.nackTo port flit
    else s.collMessage (bitsAt w 0 16) (bitsAt w 16 32) (flit.payload.drop 8)))

/-- HOLD (12 R264, R276) answers a message of this module, so its successor sent it: the group's commands stay running, and
the message is offered again 1400 cycles later. -/
def execHoldFlit (g : FlitTo) (step : Nat) (s : State) : Host.Outcome State Fault Refusal :=
  .next (s.takeControl g.via (fun s =>
    s.modGroup g.num (fun x => if step ≤ x.last + 2 then { x with heldSucc := true, again := some (s.clock + 1400) } else x)))

/-- The tag of a request of a copy engine: the core's index in the module and the token (14 R304; log 27). -/
def Core.copyTag (k : Core) (c : CCmd) : Nat := 64 * k.index + c.tok

/-- NACK (12 R264, 14 R304): the copy's request with the tag is offered again after its wait. A group's message is answered with HOLD. -/
def execNackFlit (tag : FlitTo) (wait : Nat) (s : State) : Host.Outcome State Fault Refusal :=
  .next (s.takeControl tag.via (fun s => s.mapCores (fun k => { k with cbuf := k.cbuf.map (fun c =>
      if c.running && !c.coll && k.copyTag c = tag.num then { c with again := s.clock + 64 * wait } else c) })))

/-- HIBN (12 R276) from the ring predecessor or the successor: the commands that need that neighbour stay running. -/
def execHibnFlit (g : GroupPeer) (step : Nat) (s : State) : Host.Outcome State Fault Refusal :=
  .next (s.takeControl g.via (fun s => s.modGroup g.group (fun x => if x.last + 2 < step then x
    else if g.pred then { x with heldPred := true } else { x with heldSucc := true })))

/-- REJOIN (12 R276) from the successor: every kept message above the step is sent again, and the successor's hold ends. -/
def execRejoinFlit (g : FlitTo) (step : Nat) (s : State) : Host.Outcome State Fault Refusal :=
  .next (s.takeControl g.via (fun s => match s.groupOf g.num with
    | none => s
    | some x =>
      let s1 := (x.kept.filter (fun m => step < m.step)).foldl (fun s m => s.toSucc x fData m.step m.data) s
      s1.modGroup g.num (fun y => { y with heldSucc := false, again := none })))

/-- Groups whose message is due to be offered again. -/
def State.resendDue (s : State) : List Group :=
  s.fabric.groups.filter (fun x => match x.again with | some t => t ≤ s.clock | none => false)

/-- RETRY_RESEND (12 R264): the latest message of each such group is offered again. -/
def State.retryResend (s : State) : State :=
  s.resendDue.foldl (fun s x =>
    let s1 := match x.kept.getLast? with
      | some m => if x.last < m.step then s.toSucc x fData m.step m.data else s
      | none => s
    s1.modGroup x.entry.group (fun y => { y with again := none })) s

def execRetryResend (s : State) : Host.Outcome State Fault Refusal := .next s.retryResend

/-! Ports (14 R303). -/

/-- LINK_LOST: the port retrains. -/
def execLinkLost (port : Nat) (s : State) : Host.Outcome State Fault Refusal :=
  .next (s.modPort port (fun x => if x.up then { x with up := false, lostAt := s.clock } else x))

/-- PORT_RETRAINED: the commands that waited go on. -/
def execPortRetrained (port : Nat) (s : State) : Host.Outcome State Fault Refusal :=
  .next (s.modPort port (fun x => { x with up := true }))

/-- The groups whose commands use a port that has been down for 10 ms, but for those that the neighbour behind the port
holds (12 R276). -/
def State.portWaits (s : State) (port : Nat) : List Group :=
  match s.fabric.ports[port]? with
  | none => []
  | some p =>
    if p.up || s.clock < p.lostAt + 14000000 then []
    else s.fabric.groups.filter (fun x => (x.entry.succPort = port && !x.heldSucc) ||
      (x.entry.predPort = port && !x.heldPred)) |>.filter (fun x => s.collsOf x.entry.group ≠ [])

/-- LINK_RETRAIN_TIMEOUT: the running command of each such group ends with code 10, its later ones with code 11 (08 R192). -/
def State.linkRetrainTimeout (s : State) (port : Nat) : State :=
  (s.portWaits port).foldl (fun s x => match s.collsOf x.entry.group with
    | [] => s
    | c :: _ => s.atUnit c.who (fun s => s.collFail c 10 0 false)) s

def execLinkRetrainTimeout (port : Nat) (s : State) : Host.Outcome State Fault Refusal := .next (s.linkRetrainTimeout port)

end Sys2Proof.Machine
end

