-- ==== Sys2Proof/Machine/Shake.lean ====
section
/-! DEFINITION. SHAKE256 (12 R270, R274; 14 R312, R314), by its published definition: Keccak-f[1600] with rate 136. -/

namespace Sys2Proof.Machine

/-- Round constants. -/
def keccakRounds : List Word :=
  [0x0000000000000001, 0x0000000000008082, 0x800000000000808A, 0x8000000080008000, 0x000000000000808B, 0x0000000080000001,
   0x8000000080008081, 0x8000000000008009, 0x000000000000008A, 0x0000000000000088, 0x0000000080008009, 0x000000008000000A] ++
  [0x000000008000808B, 0x800000000000008B, 0x8000000000008089, 0x8000000000008003, 0x8000000000008002, 0x8000000000000080,
   0x000000000000800A, 0x800000008000000A, 0x8000000080008081, 0x8000000000008080, 0x0000000080000001, 0x8000000080008008]

/-- Rotation of lane x + 5y. -/
def keccakRot : List Nat :=
  [0, 1, 62, 28, 27, 36, 44, 6, 55, 20, 3, 10, 43, 25, 39, 41, 45, 15, 21, 8, 18, 2, 61, 56, 14]

def lane (a : List Word) (x y : Nat) : Word := a.getD (x % 5 + 5 * (y % 5)) 0

/-- One round over 25 lanes. -/
def keccakRound (a : List Word) (rc : Word) : List Word :=
  let c := (List.range 5).map (fun x => lane a x 0 ^^^ lane a x 1 ^^^ lane a x 2 ^^^ lane a x 3 ^^^ lane a x 4)
  let d := (List.range 5).map (fun x => c.getD ((x + 4) % 5) 0 ^^^ (c.getD ((x + 1) % 5) 0).rotateLeft 1)
  let t := (List.range 25).map (fun i => a.getD i 0 ^^^ d.getD (i % 5) 0)
  let b := (List.range 25).map (fun i =>
    let x := i % 5
    let y := i / 5
    let src := (x + 3 * y) % 5 + 5 * x
    (t.getD src 0).rotateLeft (keccakRot.getD src 0))
  let e := (List.range 25).map (fun i => lane b (i % 5) (i / 5) ^^^ (~~~(lane b (i % 5 + 1) (i / 5)) &&& lane b (i % 5 + 2) (i / 5)))
  match e with
  | [] => []
  | h :: r => (h ^^^ rc) :: r

def keccakF (a : List Word) : List Word := keccakRounds.foldl keccakRound a

/-- The message padded to whole blocks of 136 bytes. -/
def shakePad (m : List Byte) : List Byte :=
  let k := 136 - m.length % 136
  if k = 1 then m ++ [0x9F] else m ++ (0x1F : Byte) :: (List.replicate (k - 2) 0 ++ [0x80])

/-- Lanes of a block. -/
def blockLanes (b : List Byte) : List Word := (List.range 25).map (fun i => bytesWord ((b.drop (8 * i)).take 8))

def absorb : Nat → List Word → List Byte → List Word
  | 0, a, _ => a
  | n + 1, a, m =>
    absorb n (keccakF ((a.zip (blockLanes (m.take 136))).map (fun (x, y) => x ^^^ y))) (m.drop 136)

/-- n bytes of SHAKE256, n at most 136. -/
def shake256 (n : Nat) (m : List Byte) : List Byte :=
  let p := shakePad m
  ((absorb (p.length / 136) (List.replicate 25 0) p).flatMap wordBytes).take n

end Sys2Proof.Machine
end

