-- ==== Sys2Proof/Machine/Image.lean ====
section
/-! DEFINITION. The image areas of SCM and the current image (12 R272 to R274, R277). -/

namespace Sys2Proof.Machine

/-- Where image area a, 0 or 1, begins in SCM: the two lie at its end, beyond every context's window (log 21). -/
def imageBase (a : Nat) : Nat := scmBase + Config.scmBytes - (2 - a) * Config.imageRoom

/-- The signature under the identity key of a digest, at most 1280 bytes (12 R274). -/
def signOver (bytes : List Byte) : List Byte := (Config.falconSign (shake256 64 bytes)).take 1280

/-- An image is current (12 R274): the manifest in SCM carries the module's signature and ID, and HIBSEQ equals C. -/
def State.imageCurrent (s : State) (i : Image) : Bool :=
  let b := imageBase i.area
  let n := bytesNat (s.mem.range (b + 32) 4)
  let body := s.mem.range b (256 + 64 * n)
  let sig := s.mem.range (b + 256 + 64 * n + 2) (bytesNat (s.mem.range (b + 256 + 64 * n) 2))
  bytesNat (body.take 4) = 0x4D584842 && bitsAt (bytesNat (body.take 16)) 64 17 = Config.moduleId % 2 ^ 17 &&
    bytesNat ((body.drop 24).take 8) = s.secure.c && i.seq = s.secure.c && decide (sig = signOver body)

def State.currentImage (s : State) : Option Image := s.supply.images.find? s.imageCurrent

/-- A power-fail that comes before a boot has restored its image leaves that image current: there is no drain and no seal (12 R277). -/
def State.imageUnused (s : State) : Bool := s.supply.booting && s.currentImage.isSome

end Sys2Proof.Machine
end

