-- ==== Sys2Proof/Machine/Distributor.lean ====
section
/-! DEFINITION. The distributor of a die (01 R22 to R33, R40, R41; 10 R234 to R244; 11 R253, R254, R260): placement,
pre-emption, resumes, releases, ticks and shoot-downs. -/

namespace Sys2Proof.Machine

/-! Launches on a die. -/

def State.slotOf (s : State) (vf num : Nat) : Option Slot := s.work.slots.find? (fun x => x.vf = vf && x.num = num)
def Launch.share (l : Launch) (d : Nat) : Option Share := l.shares.find? (fun h => h.die = d)
def State.queueOf (s : State) (page : Nat) : Option Queue := s.work.queues.find? (fun q => q.page = page)

/-- A lease of the launch is revoked (10 R238). -/
def Launch.revoked (l : Launch) : Bool := l.leased.any (fun x => x.2.2)

/-- Units of the launch may be placed: released, its predecessor done, its leases granted, not held back at BL1 (10 R228,
R230, R238; 14 R316). -/
def State.placeable (s : State) (l : Launch) : Bool :=
  l.released && l.predOk && !l.cancelled && !l.revoked && (s.slotOf l.vf l.slot).isSome &&
    !(s.window.level = 1 && ((match s.slotOf l.vf l.slot with | some x => x.desc.array | none => false) ||
      l.exts.any (fun x => (List.range' 1 15).any (fun d => touchesStack d (extBase x) (extLen x)))))

/-- The launch's priority as it stands: the larger number of the packet's and QPRIO (10 R227). -/
def State.prioNow (s : State) (l : Launch) : Nat :=
  match s.queueOf l.queue with
  | some q => max l.prio q.qprio
  | none => l.prio

/-- The priority bound on a die, or the one a selection now would take (10 R234). -/
def State.prioOn (s : State) (l : Launch) (d : Nat) : Nat :=
  match (l.share d).bind Share.prio with
  | some p => p
  | none => s.prioNow l

/-- The die takes units: in service, not fenced or shed, and the supply allows placement (12 R263, R270; 13 R292); not before a current
image has been restored (12 R277). -/
def State.dieServes (s : State) (d : Nat) : Bool :=
  s.supply.powered && !s.supply.b1 && !s.supply.b2 && !s.imageUnused && 1 ≤ s.window.level &&
    (match s.dieAt d with | some x => !x.fenced && !x.shed | none => false)

/-- A worker core in service (00 R4, 13 R294). -/
def Die.coreServes (x : Die) (c : Core) : Bool :=
  c.die = x.num && c.cluster * 4 + c.core ≠ x.fwcore && !x.retired.contains (c.cluster * 4 + c.core) && !x.down.getD c.cluster false && !x.gated.getD c.cluster false

/-! Groups: a team, or a neighbourhood of teams (01 R24 to R27). -/

/-- The ranks of the next group of a share, team by team. -/
def Share.nextTeams (h : Share) (team width : Nat) : List (List Nat) :=
  (List.range (width + 1)).filterMap (fun j =>
    let a := h.next + j * team
    if a < h.stop then some (List.range' a (min team (h.stop - a))) else none)

/-- The strands of a die that hold a member of a group. -/
def State.groupStrands (s : State) (d launch nbh : Nat) : List Strand :=
  s.allStrands.filter (fun u => u.place.die = d && u.st.onStrand && u.who.launch = launch && u.own.nbh = nbh)

def insertNat (a : Nat) (l : List Nat) : List Nat := if l.contains a then l else insertBy id a l

/-- The first ranks of the teams of a neighbourhood of a die's share (01 R25, R27). -/
def State.teamFirsts (s : State) (d launch nbh : Nat) : List Nat :=
  match s.launchOf launch with
  | none => []
  | some l => match s.slotOf l.vf l.slot, l.share d with
    | some x, some h => ((List.range (x.desc.width + 1)).map (fun j => nbh + j * x.desc.team)).filter (· < h.stop)
    | _, _ => []

/-- The peer window of a unit from the members of its group as they are placed (01 R26, R27): entry k is member k of its
team, entry 4 + 4j + m member m of the j-th other team, `firsts` being the first ranks of the group's teams, those that have ended
among them. A member that is gone keeps the entry it had (13 R293), one that ended by END too: DEDUCED (log 103). -/
def peerWindow (firsts : List Nat) (members : List Strand) (u : Strand) : List (Option (Nat × UnitId)) :=
  let teams := if firsts.contains u.own.teamFirst then firsts else members.foldl (fun l v => insertNat v.own.teamFirst l) []
  let others := teams.filter (fun t => t ≠ u.own.teamFirst)
  let entry (k : Nat) : Option (Nat × UnitId) :=
    let first : Option Nat := if k < 4 then some u.own.teamFirst else others[k / 4 - 1]?
    match first with
    | none => none
    | some f =>
      match members.find? (fun v => v.own.teamFirst = f && v.who.rank = f + k % 4) with
      | some v => some (placeIndex v.place, v.who)
      | none => u.peer k
  (List.range 16).map entry

/-- Every member's peer window rebuilt (01 R41). -/
def State.linkPeers (s : State) (d launch nbh : Nat) : State :=
  let ms := s.groupStrands d launch nbh
  let fs := s.teamFirsts d launch nbh
  s.mapStrands (fun u =>
    if u.place.die = d && u.st.onStrand && u.who.launch = launch && u.own.nbh = nbh then
      { u with own := { u.own with peers := peerWindow fs ms u } } else u)

/-! Unit entry (01 R40). -/

/-- Registers at entry over what the strand held: vector contents stay with tag NONE, groups held for stopped units stay as
they are. -/
def entryRegs (r : Regs) : Regs :=
  { Regs.reset with
    v := (r.v.map (fun (k, x) => if (lookup TGroup.none r.t (k / 16)).conf then (k, x) else (k, { x with tag := 0 }))).filter
      (fun (_, x) => decide (x ≠ VReg.zero)),
    t := r.t }

/-- The scalars at entry. -/
def entryScalars (rank g member size argoff : Nat) : Tab Word :=
  let w (k : Nat) (t : Tab Word) (v : Word) : Tab Word := put 0 t k v
  w 5 (w 4 (w 3 (w 2 (w 1 [] (BitVec.ofNat 64 rank)) (BitVec.ofNat 64 g)) (BitVec.ofNat 64 member)) (BitVec.ofNat 64 size))
    (mkPaddr 3 15 argoff)

/-- Extents x0 to x15 as a table. -/
def extTab (l : List (BitVec 256)) : Tab (BitVec 256) :=
  (l.zipIdx).foldl (fun t (x, i) => put 0 t i x) []

/-- The phase deadline in the die's cycles (10 R236); 0 for none. -/
def State.deadlineOf (s : State) (l : Launch) (d : Nat) : Nat :=
  match s.phaseOf l.ctx l.phase with
  | some p => if p.deadline = 0 then 0 else p.relCycle.getD d 0 + p.deadline
  | none => 0

/-- A launch released at a tick (10 R244). -/
def State.tickReleased (s : State) (l : Launch) : Bool :=
  l.tick.isSome || (match s.phaseOf l.ctx l.phase with | some p => p.tick.isSome | none => false)

/-- SAVEBASE of a unit: an area of its own in HBM4, with that of its retry copy after it, 64 KiB aligned and never zero, which the driver
provides (11 R258; 13 R281; log 16). -/
def saveBase (ctx launch rank : Nat) : Word :=
  mkPaddr 3 0 (65536 * (1 + Config.saveArea ctx launch rank % ((Config.hbmBytes - 2 * Config.saveAreaBytes) / 65536)))

/-- A unit enters on the strand in front (01 R40, 10 R235). Its first bundle has none before it: WAIT counts from the placement, as a
restore's does (log 49), and the selector ranks it as if it had issued then (log 92). -/
def State.enterUnit (s0 : State) (l : Launch) (x : Slot) (prio nbh teamFirst size rank : Nat) : State :=
  let w : UnitId := ⟨l.uid, rank⟩
  let s := s0.enterContext l.ctx w
  let d := x.desc
  let now := s.now
  let sr : Specials := { Specials.reset with
    rank := BitVec.ofNat 64 rank, units := BitVec.ofNat 64 l.g, team := BitVec.ofNat 64 (rank - teamFirst),
    teamsz := BitVec.ofNat 64 size, launch := BitVec.ofNat 64 l.id, periodmax := clampPeriod (BitVec.ofNat 64 d.periodmax),
    chk := BitVec.ofNat 64 d.chk, fpctl := BitVec.ofNat 64 d.fpctl, handler := BitVec.ofNat 64 d.handler,
    estimate := BitVec.ofNat 64 d.estimate }
  let r0 := entryRegs s.u.regs
  let u : Strand :=
    { place := s.u.place, who := w, st := .ready, privileged := false, pc := BitVec.ofNat 64 d.entry, target := none,
      regs := { r0 with
        s := entryScalars rank l.g (rank - teamFirst) size l.argoff, x := extTab l.exts, sr := sr,
        pr := { ctxid := BitVec.ofNat 64 l.ctx, vfunc := BitVec.ofNat 64 l.vf,
                savebase := saveBase l.ctx l.uid rank, ifqsel := 0 } },
      loops := [], flights := [], accs := [], trap := Trapping.reset,
      time := { Timing.reset with prevIssue := now, restore := now + 1, notBefore := now + 1, fresh := true, lastIssue := now },
      own := { Owned.reset with
        ctx := l.ctx, prio := prio, deadline := s.deadlineOf l s.die.num, placedAt := now, tickRel := s.tickReleased l,
        tolerant := d.tolerant, killok := d.killok, array := d.array, nacc := d.nacc, spadg := d.spadg, peers := [],
        teamFirst := teamFirst, nbh := nbh },
      cfg := 0 }
  { s with
    u := u,
    core := { s.core with
      reserved := put 0 s.core.reserved w.key (2 * d.spadg),
      matrix := if d.array then
        { s.core.matrix with owner := some w, active := Plane.none, shadow := Plane.none, live := [], acc := [] }
        else s.core.matrix } }

/-! Where a member fits. -/

/-- What a member needs of a core: a new unit of a slot, or a saved one (10 R235, 11 R260). -/
inductive Member where
  | fresh (who : UnitId) (d : Desc)
  | saved (sv : Saved)
  deriving DecidableEq, Repr

def Member.who (m : Member) : UnitId := match m with | .fresh w _ => w | .saved sv => sv.who

/-- What a saved unit is read from: after a PIPE_ERR its retry copy, which lies after its save area, with what the model keeps beside that
(13 R281). -/
def Saved.source (sv : Saved) : Saved :=
  if sv.cause = cPIPE_ERR then
    { sv with area := sv.area + Config.saveAreaBytes, kept := sv.own.copy.getD sv.kept, own := { sv.own with retried := true } }
  else sv

def State.memberFits (s : State) (m : Member) (c : Core) : Bool :=
  match m with
  | .fresh w d => (!d.array || c.matrix.owner.isNone) && 2 * d.spadg ≤ c.freeFor w
  | .saved sv => c.canTake sv.who sv.own (areaRecords s.mem sv.source.area sv.who)

/-- Free strands of a core. -/
def State.freeStrands (s : State) (c : Core) : List Strand :=
  s.allStrands.filter (fun u => decide (u.place.die = c.die && u.place.cluster = c.cluster && u.place.core = c.core) &&
    u.st = .absent)

/-- Cores whose freed resources stand reserved for another launch's group (10 R241). -/
def State.reservedCore (s : State) (x : Die) (launch prio : Nat) (c : Core) : Bool :=
  x.drains.any (fun r => r.cores.contains c.index && r.target ≠ launch &&
    (match s.launchOf r.target with | some l => s.prioOn l x.num ≤ prio | none => false))

/-- A core for each member of a team, on distinct cores of a cluster: the core with most free strands first (log 19). -/
def State.teamPlaces (s : State) (cores : List Core) : List Member → Option (List (Member × Place))
  | [] => some []
  | m :: r =>
    match cores.find? (fun c => s.memberFits m c) with
    | none => none
    | some c =>
      match (s.freeStrands c).head?, State.teamPlaces s (cores.filter (fun x => x.index ≠ c.index)) r with
      | some u, some l => some ((m, u.place) :: l)
      | _, _ => none

/-- The cores of a cluster that may take a unit of a launch. -/
def State.clusterCores (s : State) (x : Die) (k launch prio : Nat) : List Core :=
  sortBy (fun c => (4 - (s.freeStrands c).length) * 4 + c.core)
    (s.allCores.filter (fun c => x.coreServes c && c.cluster = k && !(s.freeStrands c).isEmpty &&
      !s.reservedCore x launch prio c))

/-- A team to place: the clusters that it may go to, and the cores there that it may not. -/
structure Squad where
  clusters : List Nat
  avoid : List Nat
  members : List Member
  deriving DecidableEq, Repr

/-- The first of its clusters where a team fits. -/
def State.findSquad (s : State) (x : Die) (launch prio : Nat) (q : Squad) : Option (List (Member × Place)) :=
  q.clusters.findSome? (fun k =>
    s.teamPlaces ((s.clusterCores x k launch prio).filter (fun c => !q.avoid.contains c.index)) q.members)

/-- The first cluster where a team fits. -/
def State.findTeam (s : State) (x : Die) (launch prio : Nat) (ms : List Member) : Option (List (Member × Place)) :=
  s.findSquad x launch prio ⟨[0, 1, 2], [], ms⟩

/-- The ways in which a group may lie: four teams of four on two clusters, two strands on each core (01 R28); any other wherever its
teams fit. -/
def groupPlans (teams : List (List Member)) : List (List Squad) :=
  if teams.length = 4 && teams.all (fun t => t.length = 4) then
    [(0, 1), (0, 2), (1, 2), (1, 0), (2, 0), (2, 1)].map (fun (a, b) =>
      teams.mapIdx (fun i t => ⟨[if i < 2 then a else b], [], t⟩))
  else [teams.map (fun t => ⟨[0, 1, 2], [], t⟩)]

/-- The first resume after a warm return or a restore uses up the image and voids what was drained (12 R275, R277). -/
def State.firstResume (s : State) : State :=
  let s1 := if s.supply.consume then { s with secure := { s.secure with c := s.secure.c + 1 } } else s
  { s1 with supply := { s1.supply with consume := false, regions := [] } }

/-- A unit back from a shed die takes its K allocations from the parking area, fresh (12 R265). -/
def State.unpark (s : State) (w : UnitId) : State :=
  let mine := s.die.parking.filter (fun p => decide (p.who = w))
  let s1 := mine.foldl (fun s p =>
    match s.core.allocs.find? (fun a => decide (a.who = w) && a.base = p.base) with
    | none => s
    | some a =>
      let fresh : Alloc := { a with expired := false, lastren := s.now, expiry := s.now + min a.life s.die.retn }
      ({ s with mem := pokeChunks s.mem s.core.index a.chunks p.bytes } : State).modCore (fun c =>
        { c with allocs := c.allocs.map (fun x => if x = a then fresh else x) })) s
  s1.modDie (fun d => { d with parking := d.parking.filter (fun p => decide (p.who ≠ w)) })

/-- A saved unit put onto the strand in front: its extents as its launch now has them (10 R237, 11 R260 step 2). -/
def State.takeUp (s0 : State) (sv : Saved) : State :=
  let s := s0.firstResume
  let x := match s.launchOf sv.who.launch with
    | some l => if l.exts = [] then sv.extents else extTab l.exts
    | none => sv.extents
  let s1 := s.resumeHere { sv.source with extents := x }
  if sv.shed then s1.unpark sv.who else s1

/-- Teams placed one after another; none if one does not fit. `enter` puts a member onto the strand in front. -/
def State.placeTeams (d launch prio : Nat) (enter : Member → State → State) : List Squad → State → Option State
  | [], s => some s
  | t :: r, s =>
    match s.dieAt d with
    | none => none
    | some x =>
      match s.findSquad x launch prio t with
      | none => none
      | some ps => State.placeTeams d launch prio enter r (ps.foldl (fun s (m, p) => s.at p (enter m)) s)

/-- A group placed as a whole (01 R24, R27, R28). -/
def State.placeWhole (s : State) (d launch prio : Nat) (enter : Member → State → State) (teams : List (List Member)) : Option State :=
  (groupPlans teams).findSome? (fun plan => State.placeTeams d launch prio enter plan s)

/-! Resume of a group (01 R24, R41; 11 R253, R260). -/

/-- Whether a saved unit may resume: never after LEASE and HANDLER_FAULT (11 R253) or MEM_UE (13 R283), and after a PIPE_ERR only from a
retry copy not used before (13 R281). -/
def State.mayResume (s : State) (sv : Saved) : Bool :=
  sv.cause ≠ cLEASE && sv.cause ≠ cHANDLER_FAULT && sv.cause ≠ cMEM_UE &&
  (sv.cause ≠ cPIPE_ERR ||
    ((match s.ctxOf sv.own.ctx with | some c => c.retry | none => false) && sv.own.copy.isSome && !sv.own.retried)) &&
  (match s.launchOf sv.who.launch with | some l => !l.revoked | none => true)

/-- The saved members of a group of a die, team by team. -/
def State.savedGroup (s : State) (d launch nbh : Nat) : List (List Saved) :=
  let ms := s.work.saved.filter (fun x => x.die = d && x.who.launch = launch && x.own.nbh = nbh)
  let teams := ms.foldl (fun l x => insertNat x.own.teamFirst l) []
  teams.map (fun t => sortBy (fun x => x.who.rank) (ms.filter (fun x => x.own.teamFirst = t)))

def resumeMember (m : Member) (s : State) : State := match m with | .saved sv => s.takeUp sv | .fresh _ _ => s

/-- The saved teams of a group, none where a member may not resume. -/
def State.resumeTeams (s : State) (d launch nbh : Nat) : Option (List (List Member)) :=
  let teams := s.savedGroup d launch nbh
  if teams.any (fun t => t.any (fun x => !s.mayResume x)) then none else some (teams.map (fun t => t.map Member.saved))

/-- A group stands on its strands again: its peer windows are rebuilt, and each member's resume is finished (11 R260 steps 9 and 10). -/
def State.groupResumed (s : State) (d launch nbh : Nat) (teams : List (List Member)) : State :=
  (teams.flatten).foldl (fun s m => s.atUnit m.who State.finishResume) (s.linkPeers d launch nbh)

/-- The whole group placed on free cores of its die. -/
def State.resumeGroup (s : State) (d launch nbh prio : Nat) : Option State :=
  (s.resumeTeams d launch nbh).bind (fun teams =>
    (s.placeWhole d launch prio resumeMember teams).map (fun t => t.groupResumed d launch nbh teams))

/-- A plan in which one member stands at a given place: the rest of its team goes to other cores of that cluster (01 R24). -/
def pinned (w : UnitId) (p : Place) (plan : List Squad) : Option (List Squad) :=
  let mine (q : Squad) : Bool := q.members.any (fun m => decide (m.who = w))
  if plan.any (fun q => mine q && !q.clusters.contains p.cluster) then none
  else some (plan.map (fun q =>
    if mine q then ⟨[p.cluster], placeIndex p :: q.avoid, q.members.filter (fun m => decide (m.who ≠ w))⟩ else q))

/-- The whole group of a saved unit resumed with that unit at a place of its die; none where part of it finds no place, may not resume
or is still on a strand (01 R24, R41, R42; 11 R253). -/
def State.resumeWith (s : State) (sv : Saved) (p : Place) : Option State :=
  let w := sv.who
  let others := (s.groupStrands sv.die w.launch sv.own.nbh).filter (fun u => decide (u.place ≠ p))
  if sv.die ≠ p.die || !others.isEmpty || !(s.focus p).memberFits (.saved sv) (s.focus p).core then none
  else (s.resumeTeams sv.die w.launch sv.own.nbh).bind (fun teams =>
    let s1 := s.at p (fun s => s.takeUp sv)
    ((groupPlans teams).findSome? (fun plan => (pinned w p plan).bind (fun q =>
      State.placeTeams sv.die w.launch sv.own.prio resumeMember q s1))).map (fun t => t.groupResumed sv.die w.launch sv.own.nbh teams))

/-- RESUME (11 R260): the named unit on the named strand, and the rest of its group with it (11 R253). Where the group as a whole
finds no place it stays STOPPED. -/
def State.resumeAt (s : State) (w : UnitId) (p : Place) : State :=
  match s.work.saved.find? (fun x => decide (x.who = w)), s.dieAt p.die with
  | some sv, some x =>
    let s1 := s.focus p
    if s.dieServes p.die && s1.u.place = p && s1.u.st = .absent && x.coreServes s1.core &&
        !s.reservedCore x w.launch sv.own.prio s1.core then (s.resumeWith sv p).getD s
    else s
  | _, _ => s

def execResume (launch rank : Nat) (place : Place) (s : State) : Host.Outcome State Fault Refusal :=
  .next (s.resumeAt ⟨launch, rank⟩ place)

/-- The saved unit that an area belongs to; an area with no entry takes the strand's own identity. -/
def State.savedAt (s : State) (area : Nat) : Saved :=
  (s.work.saved.find? (fun x => x.area = area)).getD { savedOf s true 0 area with kept := Kept.reset }

/-- A stopped group left to the distributor (11 R253, keep stopped). -/
def State.keepStopped (s : State) (sv : Saved) : State :=
  s.modWork (fun w => { w with saved := w.saved.map (fun x =>
    if x.who.launch = sv.who.launch && x.own.nbh = sv.own.nbh && x.die = sv.die then { x with firmware := false } else x) })

/-- RFT (11 R254): restores the unit whose save area SAVEBASE names onto the issuing strand, in unprivileged mode, and the rest of its
group is resumed with it; an area without VALID raises ILLEGAL before issue. A group that finds no room stays STOPPED, and the
distributor places it later (11 R260 step 1); one that may not resume, or of another die, stays as it is (log 86). -/
def execRft (s : State) : Host.Outcome State Fault Refusal :=
  s.issue .rft (fun s =>
    let sv := s.savedAt (areaOf s.u.regs.pr.savebase)
    let s1 := s.finish
    match s1.resumeWith sv s1.u.place with
    | some t => t
    | none => if s1.mayResume sv && sv.die = s1.u.place.die then s1.keepStopped sv else s1)

/-! Pre-emption (10 R240, R241). -/

/-- SaveCost of a group; a live allocation is one whose record is VALID (07 R155). -/
def State.saveCost (s : State) (ms : List Strand) : Nat :=
  let bytes (u : Strand) : Nat :=
    match s.coreAt (placeIndex u.place) with
    | none => 4096
    | some c =>
      let own := decide (c.matrix.owner = some u.who)
      4096 + (if own then 65536 * c.matrix.live.length + 65536 else 0) +
        (((c.allocs.filter (fun a => decide (a.who = u.who) && a.h)).map
          (fun a => 1024 * a.size)).sum)
  ((ms.map bytes).sum + 63) / 64

/-- A victim considered: its members, its priority and cost, its lowest core. -/
structure Victim where
  members : List Strand
  prio : Nat
  cost : Nat
  core : Nat
  deriving DecidableEq, Repr

/-- The groups running on a die, in the order of 10 R240. -/
def State.victims (s : State) (d : Nat) : List Victim :=
  let us := s.allStrands.filter (fun u => u.place.die = d && u.st.onStrand && u.st ≠ .ending && !u.privileged)
  let keys := (us.map (fun u => (u.who.launch, u.own.nbh))).eraseDups
  let vs := keys.map (fun (l, n) =>
    let ms := us.filter (fun u => u.who.launch = l && u.own.nbh = n)
    (⟨ms, (ms.map (fun u => u.own.prio)).foldl max 0, s.saveCost ms,
      (ms.map (fun u => placeIndex u.place)).foldl min 192⟩ : Victim))
  sortBy (fun v => (7 - min 7 v.prio) * 2 ^ 80 + v.cost * 2 ^ 16 + v.core) vs

/-- The state as if a victim were gone, to see whether a group would fit. -/
def State.without (s : State) (v : Victim) : State :=
  v.members.foldl (fun s u => s.at u.place (fun s =>
    { s with core := s.core.release u.who, u := { s.u with st := .absent } })) s

/-- The least number of victims, in order, that make room. -/
def State.enough (s : State) (fits : State → Bool) : List Victim → List Victim → Option (List Victim)
  | _, [] => none
  | taken, v :: r =>
    let t := s.without v
    if fits t then some (taken ++ [v]) else State.enough t fits (taken ++ [v]) r

inductive Action where
  | nothing | drain | kill | checkpoint
  deriving DecidableEq, Repr

def State.modCtx (s : State) (id : Nat) (f : Ctx → Ctx) : State :=
  s.modWork (fun w => { w with ctxs := updFirst (fun c => c.id = id) f w.ctxs })

/-- Decide(v, L) (10 R240), and its token. -/
def State.decideVictim (s : State) (d : Nat) (l : Launch) (v : Victim) (noDrain : Bool) : Action × State :=
  let now : Nat := s.cycleOf d
  let est : Nat := (v.members.map (fun u => u.regs.sr.estimate.toNat)).foldl max 0
  let dm : Nat := match s.dieAt d with | some x => x.drainmax | none => 0
  let dl : Nat := s.deadlineOf l d
  let inTime : Bool := if dl = 0 then decide (est ≤ dm) else decide (now ≤ dl) && decide (est ≤ min dm ((dl - now) / 2))
  let tokens : Nat := match s.ctxOf l.ctx with | some c => c.tokens | none => 0
  if v.prio ≤ s.prioOn l d then (.nothing, s)
  else if !noDrain && inTime then (.drain, s)
  else if tokens = 0 then (.nothing, s)
  else
    let s1 := s.modCtx l.ctx (fun c => { c with tokens := c.tokens - 1 })
    let placed := (v.members.map (fun u => u.own.placedAt)).foldl max 0
    if v.members.all (fun u => u.own.killok) && now - placed < v.cost then (.kill, s1) else (.checkpoint, s1)

/-- The action on a victim (10 R241): recorded with the cores whose resources then go to L. -/
def State.actOn (s : State) (d : Nat) (l : Launch) (v : Victim) (noDrain : Bool) : State :=
  let (a, s1) := s.decideVictim d l v noDrain
  let now : Nat := s.cycleOf d
  let est := (v.members.map (fun u => u.regs.sr.estimate.toNat)).foldl max 0
  let ws := v.members.map (fun u => u.who)
  let note (s : State) (recheck : Nat) : State := s.modDieAt d (fun x =>
    { x with drains := x.drains.filter (fun r => !(r.target = l.uid && decide (r.victims = ws))) ++
      [⟨ws, l.uid, recheck, v.members.map (fun u => placeIndex u.place)⟩] })
  let stop (s : State) (kill : Bool) : State := ws.foldl (fun s w => s.modUnit w (fun u =>
    (u.requestSoft cPREEMPT now).modTrap (fun t => { t with kill := t.kill || kill }))) s
  match a with
  | .nothing => s1
  | .drain => note s1 (now + 2 * est)
  | .kill => note (stop s1 true) 0
  | .checkpoint => note (stop s1 false) 0

/-- The members of the next group of a launch on a die. -/
def State.nextGroup (s : State) (l : Launch) (d : Nat) : Option (Slot × List (List Nat)) :=
  match s.slotOf l.vf l.slot, l.share d with
  | some x, some h => some (x, h.nextTeams x.desc.team x.desc.width)
  | _, _ => none

/-- The next group of a launch placed: the priority is bound at this selection (10 R234). -/
def State.placeGroup (s : State) (l : Launch) (d : Nat) : Option State :=
  match s.nextGroup l d with
  | none => none
  | some (x, teams) =>
    let prio := s.prioOn l d
    let nbh := (teams.flatten).headD 0
    let enter (m : Member) (s : State) : State :=
      match m with
      | .fresh w _ =>
        let t := (teams.find? (fun t => t.contains w.rank)).getD []
        s.enterUnit l x prio nbh (t.headD 0) t.length w.rank
      | .saved _ => s
    let ms := teams.map (fun t => t.map (fun r => Member.fresh ⟨l.uid, r⟩ x.desc))
    (s.placeWhole d l.uid prio enter ms).map (fun s1 =>
      let s2 := s1.modLaunch l.uid (fun l => { l with shares := l.shares.map (fun h =>
        if h.die = d then { h with next := h.next + teams.flatten.length, prio := some prio } else h) })
      (s2.modDieAt d (fun x => { x with drains := x.drains.filter (fun r => r.target ≠ l.uid) })).linkPeers d l.uid nbh)

/-- Pre-emption for a launch that cannot place its group: nothing while a decision for it stands. The victims taken are just as many
as would make room; each is then decided for itself (10 R240). -/
def State.preempt (s : State) (l : Launch) (d : Nat) : Option State :=
  let alive (w : UnitId) : Bool := (s.strandOf w).isSome
  let standing := match s.dieAt d with
    | some x => x.drains.any (fun r => r.target = l.uid && r.victims.any alive)
    | none => true
  if standing then none
  else
    match s.enough (fun t => (t.placeGroup l d).isSome) [] (s.victims d) with
    | none => none
    | some chosen =>
      let t := chosen.foldl (fun s v => s.actOn d l v false) s
      if t.dieAt d = s.dieAt d then none else some t

/-! Placement (10 R234). -/

/-- What may be placed on a die: a stopped group, or the next group of a launch. -/
inductive Work1 where
  | stopped (launch nbh : Nat)
  | pending (l : Launch)
  deriving DecidableEq, Repr

/-- The stopped groups of a die whose every member is STOPPED and not with firmware (11 R253), with their priority and the tick that
stopped them. `kept`: firmware has left its own to the distributor. -/
def State.stoppedGroups (s : State) (d : Nat) (tick kept : Bool) : List (Nat × Nat × Work1) :=
  let ms := s.work.saved.filter (fun x => x.die = d)
  let keys := (ms.map (fun x => (x.who.launch, x.own.nbh))).eraseDups
  keys.filterMap (fun (l, n) =>
    let g := ms.filter (fun x => x.who.launch = l && x.own.nbh = n)
    if (s.groupStrands d l n).isEmpty && (kept || g.all (fun x => !x.firmware)) && (g.any (fun x => x.tickStop) == tick) then
      some ((g.map (fun x => x.own.prio)).foldl max 0, (g.map (fun x => x.kept.trap.tickAt)).foldl max 0, .stopped l n)
    else none)

/-- The oldest unplaced launch of each queue, in the order of hardware queue numbers after the one selected last. -/
def State.pendingLaunches (s : State) (x : Die) : List (Nat × Launch) :=
  let open' := s.work.launches.filter (fun l => s.placeable l && !l.unread.contains x.num &&
    (match l.share x.num with | some h => h.next < h.stop | none => false))
  let hw (l : Launch) : Nat := match s.queueOf l.queue with | some q => q.hwq | none => 0
  let firsts := open'.filter (fun l => (open'.find? (fun m => m.queue = l.queue)).map Launch.uid = some l.uid)
  (sortBy (fun l => (hw l + 64 - (x.lastHwq + 1)) % 64) firsts).map (fun l => (s.prioOn l x.num, l))

/-- What may be placed, in order: priority; within one, stopped groups, then launches. A group stopped by TICK comes after the launches
that its tick boundary released, which come before the others (10 R234; log 87). -/
def State.toPlace (s : State) (x : Die) (kept : Bool) : List Work1 :=
  let ticks := s.stoppedGroups x.num true kept
  let pend := s.pendingLaunches x
  let early (p : Nat × Launch) : Bool := ticks.any (fun (q, k, _) => q = p.1 && p.2.relTick = some k)
  let plain (l : List (Nat × Nat × Work1)) : List (Nat × Work1) := l.map (fun (p, _, w) => (p, w))
  let waits (l : List (Nat × Launch)) : List (Nat × Work1) := l.map (fun (p, l) => (p, .pending l))
  (sortBy Prod.fst (plain (s.stoppedGroups x.num false kept) ++ waits (pend.filter early) ++ plain ticks ++
    waits (pend.filter (fun p => !early p)))).map Prod.snd

/-- A launch's priority bound on a die at its selection, and its queue the one selected last (10 R234). -/
def State.selected (s : State) (l : Launch) (d prio hw : Nat) : State :=
  (s.modLaunch l.uid (fun l => { l with shares := l.shares.map (fun h => if h.die = d then { h with prio := some prio } else h) })).modDieAt d
    (fun y => { y with lastHwq := hw })

/-- One placement, or one pre-emption decision; none when there is nothing to do. -/
def State.placeFirst (s : State) (x : Die) : List Work1 → Option State
  | [] => none
  | .stopped l n :: r =>
    let prio := ((s.work.saved.filter (fun v => v.who.launch = l && v.own.nbh = n)).map (fun v => v.own.prio)).foldl max 0
    match s.resumeGroup x.num l n prio with
    | some t => some t
    | none => State.placeFirst s x r
  | .pending l :: r =>
    let hw := match s.queueOf l.queue with | some q => q.hwq | none => x.lastHwq
    match s.placeGroup l x.num with
    | some t => some (t.modDieAt x.num (fun y => { y with lastHwq := hw }))
    | none => match s.preempt l x.num with
      | some t => some (t.selected l x.num (s.prioOn l x.num) hw)
      | none => State.placeFirst s x r

def State.placeOn (s : State) (d : Nat) (kept : Bool) : Option State :=
  if s.work.launches.isEmpty && s.work.saved.isEmpty then none
  else if s.dieServes d then
    match s.dieAt d with
    | some x => s.placeFirst x (s.toPlace x kept)
    | none => none
  else none

/-- The distributor's own next placement on a die. -/
def State.place (s : State) (d : Nat) : Option State := s.placeOn d false

/-- PLACEMENT (10 R234), also of units that firmware leaves STOPPED for the distributor to place (11 R253). -/
def execPlacement (die : Nat) (s : State) : Host.Outcome State Fault Refusal := .next ((s.placeOn die true).getD s)

/-- Drained victims of a die that have run past their time (10 R241). -/
def State.drainDue (s : State) (d : Nat) : Option Drain :=
  match s.dieAt d with
  | none => none
  | some x => x.drains.find? (fun r => r.recheck ≠ 0 && r.recheck ≤ x.cycle && r.victims.any (fun w => (s.strandOf w).isSome))

/-- DRAIN_TIMEOUT (10 R241): judged again with DRAIN excluded. -/
def State.drainTimeout (s : State) (die : Nat) : State :=
  match s.drainDue die with
  | none => s
  | some r =>
    let s0 := s.modDieAt die (fun x => { x with drains := x.drains.map (fun y => if y = r then { y with recheck := 0 } else y) })
    match s.launchOf r.target with
    | none => s0
    | some l =>
      let ms := s.allStrands.filter (fun u => u.st.onStrand && r.victims.contains u.who)
      s0.actOn die l ⟨ms, (ms.map (fun u => u.own.prio)).foldl max 0, s.saveCost ms, 0⟩ true

def execDrainTimeout (die : Nat) (s : State) : Host.Outcome State Fault Refusal := .next (s.drainTimeout die)

/-! Releases. -/

/-- The launch's predecessor has completed with nothing abandoned (10 R228); a cancelled one never releases (01 R37). -/
def State.predDone (s : State) (l : Launch) : Bool :=
  !l.predOk && (match l.pred with
    | none => false
    | some p => match s.work.launches.find? (fun m => m.ctx = l.ctx && m.id = p) with
      | none => false
      | some m => m.done && !m.cancelled && ctrAbandoned (s.mem.word m.ctr) = 0)

/-- PREDECESSOR_RELEASE (10 R228). -/
def State.predecessorRelease (s : State) (launch : Nat) : State :=
  match s.launchOf launch with
  | none => s
  | some l => if s.predDone l then s.modLaunch launch (fun l => { l with predOk := true }) else s

def execPredecessorRelease (launch : Nat) (s : State) : Host.Outcome State Fault Refusal :=
  .next (s.predecessorRelease launch)

/-- The dies that take part in a launch, and their shares (01 R29, R30). -/
def sharesOf (dieset live : BitVec 16) (g : Nat) : List Share :=
  let ds := dieNums.filter (fun d => dieset.getLsbD d && live.getLsbD d)
  let n := ds.length
  ds.mapIdx (fun r d => { die := d, first := g * r / n, stop := g * (r + 1) / n, next := g * r / n, prio := none })

/-- The live-die map in force for a release (01 R31): a change takes effect at a phase boundary. -/
def State.settleMap (s : State) : State :=
  if s.work.live = s.work.pendLive then s
  else s.modWork (fun w => { w with live := w.pendLive })

/-- A phase released (10 R230): its map, and its release cycle on each die; its launches get their shares. -/
def State.releasePhase (s0 : State) (ctx id : Nat) : State :=
  let s := s0.settleMap
  let rel := dieNums.map s.cycleOf
  let dieset : BitVec 16 := match s.ctxOf ctx with | some c => c.dieset | none => 0
  let s1 := s.modPhase ctx id (fun p => { p with released := true, relCycle := rel, live := s.work.live })
  s1.modWork (fun w => { w with launches := w.launches.map (fun l =>
    if l.ctx = ctx && l.phase = id && l.shares.isEmpty && !l.cancelled then
      { l with shares := sharesOf dieset s.work.live l.g, released := l.released || l.tick.isNone } else l) })

/-- Reference time (14 R302) counted in cycles of 1.4 GHz (log 20): the next boundary is due. -/
def State.tickDue (s : State) : Bool :=
  s.window.started &&
    (s.window.tick + 1 - s.window.startTick) * s.window.tickper * 14 ≤ (s.clock - s.window.startClock) * 10

/-- Launches and phases whose target tick has come (10 R228, R230). -/
def State.tickReleases (s : State) : State :=
  let now := s.window.tick
  let due := s.work.phases.filter (fun p => !p.released && (match p.tick with | some t => t ≤ now | none => false))
  let s1 := due.foldl (fun s p => s.releasePhase p.ctx p.id) s
  let was (l : Launch) : Bool := s.work.launches.any (fun m => m.uid = l.uid && m.released)
  s1.modWork (fun w => { w with launches := w.launches.map (fun l =>
    let l1 := match l.tick with
      | some t => if t ≤ now && !l.shares.isEmpty then { l with released := true } else l
      | none => l
    if l1.released && !was l then { l1 with relTick := some now } else l1) })

/-- TICK_BOUNDARY (10 R236, R244; 14 R300, R302): TICK and TICKPH, tokens, releases, and the soft stop TICK of units whose
phase deadline has passed. Under B1 releases wait for its end (12 R263). -/
def State.tickBoundary (s : State) : State :=
  if !s.window.started then s
  else
    let s1 := { s with window := (match s.window.nextper with
      | some p => { s.window with tick := s.window.tick + 1, tickper := p, nextper := none, startClock := s.clock,
                                  startTick := s.window.tick + 1 }
      | none => { s.window with tick := s.window.tick + 1 }) }
    let s2 := s1.mapDies (fun d => { d with tickPh := 0 })
    let s3 := s2.modWork (fun w => { w with ctxs := w.ctxs.map (fun c => { c with tokens := min c.tokmax (c.tokens + c.tokref) }) })
    let s4 := if s.supply.b1 || s.supply.b2 then s3 else s3.tickReleases
    s4.mapStrands (fun u =>
      let now := s.cycleOf u.place.die
      if u.st.onStrand && u.st ≠ .ending && u.own.tickRel && u.own.deadline ≠ 0 && u.own.deadline ≤ now
      then (u.requestSoft cTICK now).modTrap (fun t => { t with tickAt := s4.window.tick }) else u)

def execTickBoundary (s : State) : Host.Outcome State Fault Refusal := .next s.tickBoundary

/-! Shoot-downs (10 R238, R239; 14 R302). -/

def rangesMeet (a n b m : Nat) : Bool := a < b + m && b < a + n

/-- Units of launches with a revoked lease take PREEMPT (10 R238). -/
def State.stopRevoked (s : State) (hit : Launch → Bool) : State :=
  let ls := (s.work.launches.filter (fun l => l.revoked && hit l)).map Launch.uid
  s.mapStrands (fun u =>
    if u.st.onStrand && u.st ≠ .ending && ls.contains u.who.launch then u.requestSoft cPREEMPT (s.cycleOf u.place.die) else u)

/-- Every lease that overlaps the range is revoked, and its units take PREEMPT. During B1 they have stopped, or will by POWERFAIL, and those
whose leases are granted again at its end go on (12 R265). -/
def State.revoke (s : State) (ctx base len : Nat) : State :=
  let s1 := s.modWork (fun w => { w with launches := w.launches.map (fun l =>
    if l.ctx = ctx then { l with leased := l.leased.map (fun (a, n, r) => (a, n, r || rangesMeet a n base len)) } else l) })
  if s.supply.b1 then s1 else s1.stopRevoked (fun l => l.ctx = ctx)

/-- A die has no unit on a strand any more that holds a lease which this shoot-down revoked, but for those that B1 has stopped in place. -/
def State.shootClear (s : State) (x : Shoot) (d : Nat) : Bool :=
  let hit := (s.work.launches.filter (fun l => l.ctx = x.ctx &&
    l.leased.any (fun (a, n, r) => r && rangesMeet a n x.base x.len))).map Launch.uid
  !s.allStrands.any (fun u => u.place.die = d && u.st.onStrand && !u.trap.retained && hit.contains u.who.launch)

/-- A revoked lease that no shoot-down in progress covers: it is granted again once the driver has remapped it. -/
def State.regrantable (s : State) (ctx : Nat) (x : Nat × Nat × Bool) : Bool :=
  x.2.2 && !s.work.shoots.any (fun y => y.ctx = ctx && rangesMeet x.1 x.2.1 y.base y.len)

/-- Such leases granted again where the driver maps the range (10 R238 step 4); extents follow. -/
def State.regrantLeases (s : State) (ctx : Nat) : State :=
  let s0 := s.modWork (fun w => { w with mapGen := w.mapGen + 1 })
  let redo (l : Launch) : Launch :=
    if l.ctx = ctx && l.revoked then
      let maps := l.leased.map (fun x => if s.regrantable ctx x then s0.translate ctx x.1 x.2.1 else none)
      { l with
        leased := l.leased.mapIdx (fun j (a, n, r) => (a, n, r && ((maps[j]?).join).isNone)),
        exts := l.exts.mapIdx (fun i x => match (if 8 ≤ i then (maps[15 - i]?).join else none) with
          | some (h, _, _) => BitVec.ofNat 256 (x.toNat - bitsAt x.toNat 16 48 * 2 ^ 16 + (h / 65536 % 2 ^ 48) * 2 ^ 16)
          | none => x) }
    else l
  s0.modWork (fun w => { w with launches := w.launches.map redo })

/-- The contexts with such leases: the driver may remap them at any time, but under B1 not before its end (12 R265). -/
def State.regrantDue (s : State) : List Nat :=
  if s.supply.b1 then [] else
  ((s.work.launches.filter (fun l => !l.done && l.leased.any (s.regrantable l.ctx))).map Launch.ctx).eraseDups

/-- The modules that share a context's ranges: the ring neighbours of its groups (log 18). -/
def State.sharers (s : State) (ctx : Nat) : List Nat :=
  ((s.fabric.groups.filter (fun g => g.entry.ctx = ctx)).flatMap (fun g => [g.entry.predMod, g.entry.succMod])).eraseDups

/-- A shoot-down begins on every die in service. -/
def State.startShoot (s : State) (ctx base len : Nat) (shared : Bool) (reply : Option (Nat × Nat)) : State :=
  let ds := (s.allDies.filter (fun d => !d.fenced && !d.shed)).map Die.num
  let ms := if shared then s.sharers ctx else []
  let s1 := (s.revoke ctx base len).modWork (fun w => { w with shoots := w.shoots ++
    [⟨ctx, base, len, ds, ms, s.clock, reply⟩] })
  ms.foldl (fun s m => s.sendFlit 0
    { type := fShoot, dmod := m, ddie := 0, smod := Config.moduleId % 2 ^ 17, sdie := 0, tag := ctx,
      payload := natBytes 8 base ++ natBytes 8 len, crc := 0 }) s1

/-- SHOOTDOWN (14 R302): a GO while BUSY is ignored. -/
def execShootdown (base len ctl : BitVec 64) (s : State) : Host.Outcome State Fault Refusal :=
  .next (
    let s0 : State := { s with window := { s.window with
      sdaddr := base, sdlen := len, plain := put 0 s.window.plain 0x2010 (ctl &&& 0x7FF) } }
    if s.window.busy || !ctl.getLsbD 63 then s0
    else ({ s0 with window := { s0.window with busy := true } } : State).startShoot (bitsAt ctl.toNat 0 10) base.toNat
      len.toNat (ctl.getLsbD 10) none)

/-- The acknowledgement of a shoot-down of a context, to a module by a port. -/
def State.sendAck (s : State) (port dmod ctx : Nat) : State :=
  s.sendFlit port
    { type := fAck, dmod := dmod, ddie := 0, smod := Config.moduleId % 2 ^ 17, sdie := port / 2, tag := ctx, payload := [], crc := 0 }

/-- SHOOTDOWN_MULTICAST (10 R239; 12 R264): from another module; under B1 it is acknowledged at once. -/
def execShootdownMulticast (port : Nat) (src : ShootFrom) (ctx base len : Nat) (s : State) : Host.Outcome State Fault Refusal :=
  .next (s.takeControl ⟨port, src.dmod, src.crc⟩ (fun s =>
    if s.supply.b1 then (s.revoke ctx base len).sendAck port src.modid ctx
    else s.startShoot ctx base len false (some (port, src.modid))))

/-- A shoot-down that has every acknowledgement: BUSY falls, or the other module is answered. -/
def State.finishShoot (s : State) (x : Shoot) : State :=
  let s0 := s.modWork (fun w => { w with shoots := dropFirst (fun y => decide (y = x)) w.shoots })
  let s1 := if s.supply.b1 then s0 else s0.regrantLeases x.ctx
  match x.reply with
  | some (port, src) => s1.sendAck port src x.ctx
  | none => { s1 with window := { s1.window with busy := false } }

/-- Dies that have stopped every holder acknowledge (10 R238 step 3). -/
def State.shootStep (s : State) : Option State :=
  match s.work.shoots.find? (fun x => x.dies.any (s.shootClear x) || (x.dies.isEmpty && x.modules.isEmpty)) with
  | none => none
  | some x =>
    if x.dies.isEmpty && x.modules.isEmpty then some (s.finishShoot x)
    else
      let upd : Shoot → Shoot := fun y => { y with dies := y.dies.filter (fun d => !s.shootClear x d) }
      some (s.modWork (fun w => { w with shoots := updFirst (fun y => decide (y = x)) upd w.shoots }))

/-- SHOOTDOWN_ACK (10 R239): the module has acknowledged the oldest shoot-down with the tag, its context (log 18). -/
def execShootdownAck (ack : ShootAck) (s : State) : Host.Outcome State Fault Refusal :=
  .next (s.takeControl ack.via (fun s =>
    let clear : Shoot → Shoot := fun x => { x with modules := x.modules.filter (· ≠ ack.modid) }
    s.modWork (fun w => { w with shoots := updFirst (fun x => x.ctx = ack.tag && x.modules.contains ack.modid) clear w.shoots })))

/-- A shoot-down whose 2,800,000 cycles are over. -/
def State.shootLate (s : State) (x : Shoot) : Bool := x.since + 2800000 ≤ s.clock

/-- A shoot-down that another module asked for and this one has not acknowledged in time, and the range it then loses. -/
def State.lostRange (s : State) (x : Shoot) : Option (Nat × Nat × Nat × Nat) :=
  match x.reply with
  | some (_, src) => if s.shootLate x && !s.fabric.cut.contains (x.ctx, x.base, x.len) then some (src, x.ctx, x.base, x.len) else none
  | none => none

/-- SHOOTDOWN_TIMEOUT (10 R239): a module that has not acknowledged in time is fenced from the sharing group for good. Commands to it
then end with code 10; where it is this module, commands to the group's modules do, and its accesses to the range fault. -/
def State.shootdownTimeout (s : State) (modid : Nat) : State :=
  let lost := (s.work.shoots.filterMap s.lostRange).filter (fun x => x.1 = modid)
  let late := s.work.shoots.any (fun x => x.modules.contains modid && s.shootLate x)
  let cut := if late then [modid] else []
  let away := lost.flatMap (fun x => x.1 :: s.sharers x.2.1)
  let s1 := s.modWork (fun w => { w with shoots := w.shoots.map (fun x =>
    if s.shootLate x then { x with modules := x.modules.filter (· ≠ modid) } else x) })
  { s1 with fabric := { s1.fabric with
      fenced := (s1.fabric.fenced ++ cut ++ away).eraseDups, cut := s1.fabric.cut ++ lost.map Prod.snd } }

/-- A module that has not acknowledged in time, or that this one has not answered. -/
def State.lateModule (s : State) : Option Nat :=
  match s.work.shoots.find? (fun x => !x.modules.isEmpty && s.shootLate x) with
  | some x => x.modules.head?
  | none => (s.work.shoots.findSome? s.lostRange).map Prod.fst

def execShootdownTimeout (modid : Nat) (s : State) : Host.Outcome State Fault Refusal := .next (s.shootdownTimeout modid)

end Sys2Proof.Machine
end

