-- ==== Sys2Proof/Machine/Errors.lean ====
section
/-! DEFINITION. Errors, containment and repair (13 R286 to R294; 14 R310): scrubs, the last-level cache, fences of dies, page
retirement, and peer access to a gating cluster. -/

namespace Sys2Proof.Machine

/-- An entry that no strand's access brought about: the tag is given, the place is the strand in front (13 R288). -/
def State.logTagged (s : State) (addr kind tag d : Nat) : State :=
  s.logEntry ⟨addr, kind, tag, placeWord s.u.place, s.cycleOf d % 2 ^ 32⟩

/-- SCRUB_WRITEBACK (13 R286): a granule that a read corrected is written back with a fresh code; a write that performed
first has already given it one. -/
def State.scrub (s : State) (addr : Nat) : State :=
  let g := granOf addr
  if s.errs.scrubs.any (fun x => x.1 = g) then
    let s1 := if s.mem.eccOf g = .correctable then s.modMem (fun m => m.setEcc g .clean) else s
    { s1 with errs := { s1.errs with scrubs := s1.errs.scrubs.filter (fun x => x.1 ≠ g) } }
  else s

def execScrubWriteback (addr : Nat) (s : State) : Host.Outcome State Fault Refusal := .next (s.scrub addr)

/-! The last-level cache (13 R290). -/

/-- The granules of a line. -/
def lineGranules (line : Nat) : List Nat := [64 * line, 64 * line + 32]

/-- Of the accesses outstanding, those that a home has accepted when the die's links are cut complete (13 R292 step 1); how many, from the
first on, is a free value (log 104). -/
def State.completeSome (s : State) : State :=
  let k := Config.freeNat s.freeCount % (s.u.accs.length + 1)
  ({ s with freeCount := s.freeCount + 1 }.performThe (fun _ _ => true) k 0).st

/-- A unit on a strand of a fenced die goes with everything no home had accepted, and is counted abandoned (13 R291, R292). -/
def State.dropUnit (s : State) : State :=
  let w := s.u.who
  let s1 := s.completeSome.modU (fun u => { u with
    st := .ending, accs := [], flights := [], own := { u.own with abandoned := true } })
  let s2 := s1.modCore (fun c => { c with
    cbuf := c.cbuf.filter (fun x => decide (x.who ≠ w)), blocks := c.blocks.filter (fun b => decide (b.who ≠ w)),
    matrix := { c.matrix with buf := c.matrix.buf.filter (fun x => decide (x.who ≠ w)) } })
  ({ s2 with waiters := s2.waiters.filter (fun x => decide (x.who ≠ w)) } : State).unitEnded

/-- The compute die after its reset: the power block, the firmware core's place and the cores out of use stay (14 R306, 00 R4). Before the
first tick TICKPH counts from the reset (14 R302); `ticking`: the tick source has started. -/
def Die.rebooted (ticking : Bool) (x : Die) : Die :=
  { Die.reset x.num with
    retn := x.retn, tickPh := if ticking then x.tickPh else 0, drainmax := x.drainmax, freq := x.freq, ceil := x.ceil, wear := x.wear,
    isense := x.isense, clamp := x.clamp, hot := x.hot, throttled := x.throttled, fwcore := x.fwcore, retired := x.retired, fenced := true }

/-- The firmware core of a die. -/
def State.fwcoreOf (s : State) (d : Nat) : Nat := match s.dieAt d with | some x => x.fwcore | none => 0

/-- Every strand and core of a die at reset: the firmware core's strands are privileged (00 R4). -/
def State.resetDie (s : State) (d : Nat) : State :=
  let here := (s.allStrands.filter (fun u => u.place.die = d && u.st.onStrand)).map Strand.place
  let s1 := here.foldl (fun s p => s.at p State.dropUnit) s
  let s2 := s1.mapStrands (fun u => if u.place.die = d then Strand.boot (s.fwcoreOf d) u.place else u)
  let s3 := s2.mapCores (fun c => if c.die = d then Core.reset c.die c.cluster c.core else c)
  s3.modDieAt d (Die.rebooted s.window.started)

/-- A component of a die takes the copy of its image that was stored last (14 R312). -/
def State.takeFirmware (s : State) (component d : Nat) : State :=
  match (s.secure.images.filter (fun i => i.image.component = component)).getLast? with
  | none => s
  | some i => { s with secure := { s.secure with
      active := put 0 s.secure.active component i.copy,
      running := s.secure.running.filter (fun (c, e, _) => !(c = component && e = d)) ++ [(component, d, i.image)] } }

/-- The live-die map that the next phase boundary takes, and its epoch (01 R29, R31). -/
def State.setMapBit (s : State) (d : Nat) (on : Bool) : State :=
  let bit : BitVec 16 := BitVec.ofNat 16 (2 ^ d)
  s.modWork (fun w => { w with pendLive := if on then w.pendLive ||| bit else w.pendLive &&& ~~~bit, epoch := (w.epoch + 1) % 2 ^ 32 })

/-- The record FWCORE (14 R313). -/
def State.fwRecord (s : State) : Tab Nat := (newest s.secure.records.fwcore).getD []

/-- Firmware moves from a faulty core of a die to another one, freely chosen, which the record FWCORE then names; the old core goes out
of use (13 R292 step 4, 14 R313; log 3). -/
def State.moveFirmware (s : State) (d : Nat) : State :=
  match s.dieAt d with
  | none => s
  | some x =>
    let left := (List.range 12).filter (fun k => k ≠ x.fwcore && !x.retired.contains k)
    let k := left.getD (Config.freeNat s.freeCount % max 1 left.length) x.fwcore
    let s1 := s.modDieAt d (fun x => { x with fwcore := k, retired := x.fwcore :: x.retired })
    { s1 with freeCount := s.freeCount + 1, secure := { s1.secure with records := { s1.secure.records with
      fwcore := store s1.secure.records.fwcore (put 0 s1.fwRecord d k) } } }

/-- A fence of a die (13 R292): requests not yet accepted are dropped; the contexts whose die set includes it are killed;
its live-die bit is cleared and the epoch advances; its compute die is reset, and what it held with it. `located`: the fault lies
in the reserved core. -/
def State.fence (s : State) (d : Nat) (located : Bool) : State :=
  match s.dieAt d with
  | none => s
  | some x =>
    if x.fenced then s.modDieAt d (fun x => { x with fwFault := false })
    else
      let s1 := s.modDieAt d (fun x => { x with fenced := true, fwFault := false })
      let hit := (s.work.ctxs.filter (fun c => c.dieset.getLsbD d)).map Ctx.id
      let s2 := hit.foldl State.killContext s1
      let s3 := s2.modWork (fun w => { w with saved := w.saved.filter (fun v => v.die ≠ d) })
      let s4 := s3.takeFirmware 0 d
      ((if located then s4.moveFirmware d else s4).resetDie d).setMapBit d false

/-- DIE_FENCE (13 R292); a checker error is queued (13 R287). -/
def execDieFence (cause : FenceCause) (s : State) : Host.Outcome State Fault Refusal :=
  .next ((if cause.kind = .checker then s.logTagged 0 7 (1024 + cause.die % 16) cause.die else s).fence cause.die cause.located)

/-- DIE_LINK_TIMEOUT (13 R292): a link or router of the die that gives no answer for 14,000 cycles. -/
def execDieLinkTimeout (link : LinkSilence) (s : State) : Host.Outcome State Fault Refusal :=
  .next (if 14000 ≤ link.cycles then s.fence link.die false else s)

/-- THERMAL_TRIP (14 R310): the die is fenced, with an entry of KIND 7 and the firmware's TAG. -/
def execThermalTrip (die : Nat) (s : State) : Host.Outcome State Fault Refusal :=
  .next ((s.logTagged 0 7 (1024 + die % 16) die).fence die false)

/-- DIE_REJOIN (13 R292 steps 5, 6): the rebooted die serves again, from the next phase boundary on. Its queues stand at the read index
that their position records hold for it, and it reads on from there (10 R220). Its map bit is set where the service level gives the die
shares (14 R316). -/
def execDieRejoin (die : Nat) (s : State) : Host.Outcome State Fault Refusal :=
  .next (match s.dieAt die with
    | none => s
    | some x =>
      if x.fenced then
        let s1 := s.modDieAt die (fun x => { x with fenced := false })
        if s.window.dies.getLsbD die && (2 ≤ s.window.level || die = 0) then s1.setMapBit die true else s1
      else s)

/-- LLC_LINE_ERROR (13 R290): an uncorrectable error in a line of a slice's way. A clean line is fetched again. A dirty one is
written back poisoned, its writer's context is killed or its firmware's die fenced, and the way is quarantined: its other lines leave it,
and there is none in it to err until it is re-enabled. The die of the line's stack detects it. -/
def execLlcLineError (line slice way : Nat) (dirty : Bool) (s : State) : Host.Outcome State Fault Refusal :=
  .next (
    let owner := s.mem.tagOf (64 * line)
    let tag := owner - 1
    let home := stackOf (64 * line)
    if s.errs.ways.contains (slice, way) then s
    else if !dirty then s.logTagged (64 * line) 5 tag home
    else
      let s1 := (s.logTagged (64 * line) 4 tag home).modMem (fun m =>
        (lineGranules line).foldl (fun m g => m.setEcc g .poisoned) m)
      let s2 := { s1 with errs := { s1.errs with ways := s1.errs.ways ++ [(slice, way)] } }
      if owner = 0 then s2
      else if 1024 ≤ tag then s2.fence (tag % 16) false
      else s2.killContext tag)

/-- LLC_WAY_REENABLE (13 R290): the way takes lines again. -/
def execLlcWayReenable (slice way : Nat) (s : State) : Host.Outcome State Fault Refusal :=
  .next { s with errs := { s.errs with ways := s.errs.ways.filter (fun x => decide (x ≠ (slice, way))) } }

/-! A base die (13 R292). -/

/-- BASE_DIE_FAULT (13 R292): the stack's pages leave use, and every context that holds a lease on them is killed. -/
def execBaseDieFault (die : Nat) (s : State) : Host.Outcome State Fault Refusal :=
  .next (
    let s1 := { s with errs := { s.errs with
      badStacks := if s.errs.badStacks.contains die then s.errs.badStacks else s.errs.badStacks ++ [die] } }
    let hit := ((s.work.launches.filter (fun l => !l.done &&
      l.exts.any (fun x => touchesStack die (extBase x) (extLen x)))).map Launch.ctx).eraseDups
    hit.foldl State.killContext s1)

/-! Page retirement (13 R289). -/

/-- The bytes, error states, policies and full/empty bits of a page copied to a spare, granule by granule; bad granules
arrive poisoned, and an error that the code does not see goes with its bytes. -/
def Memory.copyPage (m : Memory) (src dst : Nat) : Memory :=
  let m1 := m.copyRange src dst 65536
  (List.range 2048).foldl (fun m i =>
    let a := src + 32 * i
    let b := dst + 32 * i
    let m2 := (m.setEcc b (if Memory.bad (m.eccOf a) then .poisoned else .clean)).setMode b (m.modeOf a)
    [0, 8, 16, 24].foldl (fun m k => if m.isFull (a + k) = m.isFull (b + k) then m else m.setFull (b + k) (m.isFull (a + k))) m2) m1

/-- The copy of a page by firmware, with what its reads and writes leave in the log (13 R286, R287, R289). -/
def State.copyPage (s : State) (src dst : Nat) : State :=
  let tag (s : State) (a : Nat) : State := s.logTagged a 3 (1024 + stackOf a) (stackOf a)
  let s1 := (List.range 2048).foldl (fun s i => s.noteRead [src + 32 * i]) s
  let s2 := (List.range 2048).foldl (fun s i => if Memory.bad (s.mem.eccOf (src + 32 * i)) then tag s (dst + 32 * i) else s) s1
  s2.modMem (fun m => m.copyPage src dst)

/-- A driver's range with one page moved: the parts before, on and after the page. -/
def MapRange.moved (x : MapRange) (page spare : Nat) : List MapRange :=
  let lo := 65536 * page
  let hi := lo + 65536
  if x.home + x.len ≤ lo || hi ≤ x.home then [x]
  else
    let a := max lo x.home
    let b := min hi (x.home + x.len)
    [{ x with len := a - x.home },
     { x with va := x.va + (a - x.home), len := b - a, home := 65536 * spare + (a - lo) },
     { x with va := x.va + (b - x.home), len := x.home + x.len - b, home := b }].filter (fun y => y.len ≠ 0)

/-- PAGE_RETIREMENT (13 R289 steps 2 to 4), after the driver's shoot-down: the page is copied, the driver remaps, leases are
granted again, and the list takes the page, or for this boot only when it is full. -/
def execPageRetirement (page spare : Nat) (s : State) : Host.Outcome State Fault Refusal :=
  .next (
    let s1 := s.copyPage (65536 * page) (65536 * spare)
    let s2 := s1.modWork (fun w => { w with maps := w.maps.flatMap (fun x => x.moved page spare) })
    let s3 := (s2.work.ctxs.map Ctx.id).foldl State.regrantLeases s2
    { s3 with secure := (if s3.badList.length < 4096 then
        { s3.secure with records := { s3.secure.records with badpage := store s3.secure.records.badpage (s3.badList ++ [(page, spare)]) } }
      else { s3.secure with listfull := true, retiredNow := s3.secure.retiredNow ++ [page] }) })

/-- The driver's status read (13 R289; log 105): bit 0 LISTFULL. -/
def State.driverStatus (s : State) : Word := if s.secure.listfull then 1 else 0

/-! A gating cluster (13 R293, R294). -/

/-- A live peer window maps an allocation on a core of the cluster (13 R293). -/
def State.windowsOn (s : State) (die cluster : Nat) : Bool :=
  s.allStrands.any (fun u => u.st.onStrand && u.own.peers.any (fun e => match e with
    | none => false
    | some (k, w) => match s.coreAt k with
      | none => false
      | some c => c.die = die && c.cluster = cluster && c.allocs.any (fun a => decide (a.who = w))))

/-- CLUSTER_GATE: the cut-off at the cluster's peer port, where no live peer window maps an allocation (13 R293; log 52). -/
def execClusterGate (die cluster : Nat) (s : State) : Host.Outcome State Fault Refusal :=
  .next (if s.windowsOn die cluster then s else s.modDieAt die (fun x => { x with gated := x.gated.set cluster true }))

/-- CLUSTER_POWER_DOWN: after the cut-off; an accepted request has performed in the model by then. -/
def execClusterPowerDown (die cluster : Nat) (s : State) : Host.Outcome State Fault Refusal :=
  .next (s.modDieAt die (fun x => if x.gated.getD cluster false then { x with down := x.down.set cluster true } else x))

/-- CLUSTER_UNGATE: the port accepts again. -/
def execClusterUngate (die cluster : Nat) (s : State) : Host.Outcome State Fault Refusal :=
  .next (s.modDieAt die (fun x => { x with gated := x.gated.set cluster false, down := x.down.set cluster false }))

/-- BLOOM_CLEAR (13 R287). -/
def execBloomClear (channel : Nat) (s : State) : Host.Outcome State Fault Refusal :=
  .next { s with errs := { s.errs with bloom := put [] s.errs.bloom channel [] } }

end Sys2Proof.Machine
end

