-- ==== Sys2Proof/Machine/Queue.lean ====
section
/-! DEFINITION. Queues (10 R213 to R233; 14 R297, R298, R300): rings, packets and their checks, the effects of the fourteen
kinds of packet, and the driver's writes to queue pages and context entries. The acting die of a context
takes each packet up and records the outcome; the other dies adopt it later (10 R220). -/

namespace Sys2Proof.Machine

/-! Rings (10 R213 to R215). -/

def State.modQueue (s : State) (page : Nat) (f : Queue → Queue) : State :=
  s.modWork (fun w => { w with queues := updFirst (fun q => q.page = page) f w.queues })

/-- 64-byte units of a ring. -/
def Queue.units (q : Queue) : Nat := 2 ^ q.logn / 64

/-- The home of the ring's base: host memory, or the context's range. -/
def State.ringHome (s : State) (q : Queue) : Option Nat :=
  if q.hostmem then some (hostBase + q.base.toNat)
  else (s.translate q.ctx q.base.toNat (2 ^ q.logn)).map Prod.fst

/-- The write index: the page's own, or the word that WIADDR names. -/
def State.writeIndex (s : State) (q : Queue) : Nat :=
  if q.wiaddr = 0 then q.wridx.toNat
  else match s.translate q.ctx q.wiaddr.toNat 8 with
    | some (h, _, _) => bitsAt (s.mem.word h).toNat 0 32
    | none => q.rdidx.toNat

/-- Units written and not yet consumed. -/
def State.written (s : State) (q : Queue) : Nat := (s.writeIndex q + 2 ^ 32 - q.rdidx.toNat) % 2 ^ 32

/-- n units from the read index, across the ring's end. -/
def State.ringBytes (s : State) (q : Queue) (home n : Nat) : List Byte :=
  (List.range n).flatMap (fun i => s.mem.range (home + 64 * ((q.rdidx.toNat + i) % q.units)) 64)

/-! Packets (10 R217). -/

abbrev Packet := List Byte

namespace Packet

/-- The n-byte field at byte i. -/
def num (p : Packet) (i n : Nat) : Nat := bytesNat ((p.drop i).take n)
def op (p : Packet) : Nat := num p 0 1
def len (p : Packet) : Nat := num p 1 1
def ordered (p : Packet) : Bool := bitOf (num p 2 1) 0
def notify (p : Packet) : Bool := bitOf (num p 2 1) 1
def seq (p : Packet) : Nat := num p 4 4

end Packet

/-- The kinds of 10 R217. -/
def pNOP : Nat := 0x00
def pSLOT_LOAD : Nat := 0x01
def pSLOT_EVICT : Nat := 0x02
def pINVOKE : Nat := 0x10
def pINVOKE_TICK : Nat := 0x11
def pMBOX_PUT : Nat := 0x20
def pMBOX_TAKE : Nat := 0x21
def pSIGNAL : Nat := 0x22
def pWAIT_ALL : Nat := 0x23
def pWAIT_ANY : Nat := 0x24
def pPHASE_OPEN : Nat := 0x30
def pPHASE_CLOSE : Nat := 0x31
def pCANCEL : Nat := 0x32
def pHIB_LIST : Nat := 0x40

def packetOps : List Nat := [pNOP, pSLOT_LOAD, pSLOT_EVICT, pINVOKE, pINVOKE_TICK, pMBOX_PUT, pMBOX_TAKE, pSIGNAL,
  pWAIT_ALL, pWAIT_ANY, pPHASE_OPEN, pPHASE_CLOSE, pCANCEL, pHIB_LIST]

def isInvoke (op : Nat) : Bool := op = pINVOKE || op = pINVOKE_TICK
def isWait (op : Nat) : Bool := op = pWAIT_ALL || op = pWAIT_ANY

/-- PHASE_OPEN's AT_TICK. -/
def atTick (p : Packet) : Bool := Packet.op p = pPHASE_OPEN && bitOf (Packet.num p 13 1) 0

/-- The 16-byte entries of a packet: their number, its limits, and where the first lies (10 R226, R229, R231, R233). -/
def entriesAt (p : Packet) : Option (Nat × Nat × Nat × Nat) :=
  let o := Packet.op p
  if isInvoke o then some (Packet.num p 9 1 % 16, 0, 8, 64)
  else if isWait o then some (Packet.num p 8 1, 1, 12, 16)
  else if o = pHIB_LIST then some (Packet.num p 8 1, 0, 15, 16)
  else if o = pPHASE_OPEN then
    some (if atTick p then (Packet.num p 12 1, 1, 12, 64) else (Packet.num p 12 1, 1, 14, 32))
  else none

/-- The packet's count lies in its range. -/
def countOk (p : Packet) : Bool := match entriesAt p with | some (n, lo, hi, _) => lo ≤ n && n ≤ hi | none => true

/-- The units a packet's counts require (10 R217). -/
def unitsFor (p : Packet) : Nat := match entriesAt p with | some (n, _, _, base) => max 1 ((base + 16 * n + 63) / 64) | none => 1

/-- The bits that a layout gives a meaning: (first bit, width), without the header. -/
def layoutBits (p : Packet) : List (Nat × Nat) :=
  let o := Packet.op p
  let b (i n : Nat) : Nat × Nat := (8 * i, 8 * n)
  if o = pSLOT_LOAD then [b 8 1, b 16 16]
  else if o = pSLOT_EVICT then [b 8 1]
  else if isInvoke o then
    [b 8 1, (72, 4), (80, 3), (96, 24), b 16 16, (256, 58), b 40 16] ++ (if o = pINVOKE_TICK then [b 56 8] else [])
  else if o = pMBOX_PUT || o = pMBOX_TAKE || o = pSIGNAL then [b 16 16]
  else if isWait o then [b 8 2]
  else if o = pPHASE_OPEN then [b 8 5, (104, 1), b 16 12] ++ (if atTick p then [b 56 8] else [])
  else if o = pPHASE_CLOSE then [b 8 4]
  else if o = pCANCEL then [b 8 1, b 12 4]
  else if o = pHIB_LIST then [b 8 1, (72, 1)]
  else []

/-- The bits of the entries in use; a list entry ends in five zero bits. -/
def entryBits (p : Packet) : List (Nat × Nat) :=
  match entriesAt p with
  | none => []
  | some (n, _, _, base) => (List.range n).map (fun i =>
      (8 * (base + 16 * i), if Packet.op p = pHIB_LIST then 123 else 128))

/-- A mask of bit ranges. -/
def bitMask (l : List (Nat × Nat)) : Nat := l.foldl (fun m (lo, n) => Nat.lor m ((2 ^ n - 1) <<< lo)) 0

/-- A bit that the layout marks zero is set. -/
def strayBits (p : Packet) : Bool :=
  let x := bytesNat p
  Nat.land x (bitMask ((0, 64) :: layoutBits p ++ entryBits p)) ≠ x

/-- Entry i as two words. -/
def entryWords (p : Packet) (i : Nat) : Nat × Nat :=
  match entriesAt p with
  | some (_, _, _, base) => (Packet.num p (base + 16 * i) 8, Packet.num p (base + 16 * i + 8) 8)
  | none => (0, 0)
def entriesOfPacket (p : Packet) : List (Nat × Nat) :=
  match entriesAt p with
  | some (n, _, hi, _) => (List.range (min n hi)).map (entryWords p)
  | none => []

/-- A field outside its range (10 R218 code 7). -/
def outOfRange (p : Packet) : Bool :=
  let o := Packet.op p
  !countOk p ||
  (if o = pSLOT_LOAD then Packet.num p 24 8 < 544 || 2 ^ 32 < Packet.num p 24 8
   else if isInvoke o then (entriesOfPacket p).any (fun (_, n) => n = 0 || 2 ^ 58 < n)
   else if isWait o then 4 < Packet.num p 9 1
   else if o = pPHASE_OPEN then (entriesOfPacket p).any (fun (x, _) => bitsAt x 32 32 = 0 || 2 ^ 28 ≤ bitsAt x 32 32)
   else if o = pCANCEL then Packet.num p 8 1 = 0 || 4 < Packet.num p 8 1
   else false)

/-- The malformed code that the bytes alone give, the lowest (10 R218, R220). -/
def bytesCode (q : Queue) (p : Packet) : Option Nat :=
  let o := Packet.op p
  if Packet.len p = 0 || 4 < Packet.len p then some 1
  else if !packetOps.contains o then some 2
  else if bitsAt (Packet.num p 0 4) 18 14 ≠ 0 then some 3
  else if Packet.seq p ≠ q.seq.toNat then some 4
  else if o ≠ pNOP && countOk p && Packet.len p ≠ unitsFor p then some 5
  else if strayBits p then some 6
  else if outOfRange p then some 7
  else none

/-! What acting on a packet comes to. -/

inductive Acted where
  | done (s : State)
  | block (why : Nat)
  | blockAt (why : Nat) (s : State)
  | bad (code : Nat)
  deriving DecidableEq, Repr

/-- The lowest code among those that hold. -/
def lowestCode (l : List (Nat × Bool)) : Option Nat :=
  (l.filter Prod.snd).foldl (fun m (k, _) => match m with | none => some k | some j => some (min j k)) none

/-- A word of the context that the packet may use (10 R219): aligned, mapped, with the permission that the use needs. -/
def State.wordHome (s : State) (ctx va n : Nat) (rd wr : Bool) : Option Nat :=
  if va % 8 ≠ 0 then none
  else match s.translate ctx va n with
    | some (h, r, w) => if (r || !rd) && (w || !wr) then some h else none
    | none => none

/-- The die set of a context. -/
def State.dieSetOf (s : State) (ctx : Nat) : BitVec 16 := match s.ctxOf ctx with | some c => c.dieset | none => 0

/-- The acting die of a context (10 R220). -/
def State.actingDie (s : State) (ctx : Nat) : Option Nat :=
  match s.ctxOf ctx with
  | none => none
  | some c => dieNums.find? (fun d => c.dieset.getLsbD d && s.work.pendLive.getLsbD d)

/-! Slots (10 R221 to R225). -/

/-- The descriptor of an image, or none where it breaks a limit of 10 R223. -/
def readDesc (x len : Nat) : Option Desc :=
  let d : Desc :=
    { codeoff := bitsAt x 0 32, bundles := bitsAt x 32 32, entry := bitsAt x 64 32, array := bitOf x 96,
      team := bitsAt x 97 2 + 1, width := bitsAt x 99 2, nacc := bitsAt x 101 5, tolerant := bitOf x 106,
      killok := bitOf x 107, spadg := bitsAt x 108 9, handler := bitsAt x 128 32, chk := bitsAt x 160 2,
      fpctl := bitsAt x 162 5, periodmax := bitsAt x 192 32, estimate := bitsAt x 224 32 }
  if bitsAt x 117 11 ≠ 0 || bitsAt x 167 25 ≠ 0 || bitsAt x 256 256 ≠ 0 || d.codeoff % 64 ≠ 0 || d.codeoff < 576 ||
      d.bundles = 0 || len < d.codeoff + 64 * d.bundles || d.bundles ≤ d.entry || 24 < d.nacc ||
      (!d.array && d.nacc ≠ 0) || 320 < d.spadg || d.bundles ≤ d.handler || d.periodmax < 256 || 65536 < d.periodmax
  then none else some d

/-- A declaration (10 R224). -/
structure Decl where
  vbase : Nat
  length : Nat
  rd : Bool
  wr : Bool
  tol : Bool
  svc : Nat
  fmap : Nat
  imgoff : Nat
  imglen : Nat
  deriving DecidableEq, Repr

def readDecl (x : Nat) : Decl :=
  { vbase := bitsAt x 0 64, length := bitsAt x 64 64, rd := bitOf x 128, wr := bitOf x 129, tol := bitOf x 130,
    svc := bitsAt x 131 2, fmap := bitsAt x 133 4, imgoff := bitsAt x 160 32, imglen := bitsAt x 192 32 }

/-- Declaration of x(k) breaks a limit: R224's layout, and a zero virtual base (04 R102). That its image bytes lie in the image, IMGOFF +
IMGLEN at most LENGTH, is DEDUCED (log 106). -/
def declBad (k x len : Nat) : Bool :=
  let d := readDecl x
  if d.length = 0 then x ≠ 0
  else bitsAt x 137 23 ≠ 0 || bitsAt x 224 32 ≠ 0 || d.length < d.imglen || len < d.imgoff + d.imglen ||
    (if k < 8 then d.vbase % 65536 ≠ 0 || d.vbase = 0 else d.vbase ≠ 0 || d.imgoff ≠ 0 || d.imglen ≠ 0)

/-- The extent of a declared range at a home; LENGTH has 58 bits. -/
def Decl.ext (d : Decl) (home len ctx va : Nat) : BitVec 256 :=
  mkExt home (min len (2 ^ 58 - 1)) d.rd d.wr false d.tol d.svc d.fmap ctx va

/-- SLOT_LOAD's effect (10 R222). A range whose pages lack the permissions declared is code 11: DEDUCED (log 107). -/
def State.actSlotLoad (s : State) (q : Queue) (p : Packet) : Acted :=
  let num := Packet.num p 8 1
  let va := Packet.num p 16 8
  let len := Packet.num p 24 8
  let vf := q.page / 64
  match (if va % 64 ≠ 0 then none else s.wordHome q.ctx va len true false) with
  | none => .bad 8
  | some img =>
    let decl (k : Nat) : Nat := bytesNat (s.mem.range (img + 32 + 32 * k) 32)
    match readDesc (bytesNat (s.mem.range img 64)) len with
    | none => .bad 10
    | some d =>
      if (s.slotOf vf num).isSome || (List.range' 1 15).any (fun k => declBad k (decl k) len) then .bad 10
      else
        let mine := (List.range' 1 7).map (fun k => (k, readDecl (decl k)))
        let homes := mine.map (fun (k, e) => (k, e, if e.length = 0 then some (0, true, true) else s.translate q.ctx e.vbase e.length))
        if homes.any (fun (_, e, h) => match h with
            | none => true
            | some (_, rd, wr) => (e.rd && !rd) || (e.wr && !wr)) then .bad 11
        else
          let code := Config.codePage vf num s.work.uid % ((Config.hbmBytes - 2 ^ 32) / 65536 + 1) * 65536
          let m1 := s.mem.copyRange (img + d.codeoff) code (64 * d.bundles)
          let m2 := homes.foldl (fun m (_, e, h) => match h with
            | some (a, _, _) => if e.imgoff = 0 then m else m.copyRange (img + e.imgoff) a e.imglen
            | none => m) m1
          let x0 := mkExt code (64 * d.bundles) true false true d.tolerant 0 0 q.ctx 0
          let exts := x0 :: homes.map (fun (_, e, h) => match h with
            | some (a, _, _) => if e.length = 0 then 0 else e.ext a e.length q.ctx e.vbase
            | none => 0)
          let decls := (List.range' 8 8).map (fun k =>
            let e := readDecl (decl k)
            if e.length = 0 then 0 else e.ext 0 e.length q.ctx 0)
          .done (({ s with mem := m2 } : State).modWork (fun w => { w with
            uid := w.uid + 1,
            slots := w.slots ++ [⟨vf, num, q.ctx, d, exts, decls, (List.range' 8 8).map (fun k => (readDecl (decl k)).length)⟩] }))

/-- SLOT_EVICT's effect (10 R225). -/
def State.actSlotEvict (s : State) (q : Queue) (p : Packet) : Acted :=
  let num := Packet.num p 8 1
  let vf := q.page / 64
  if s.work.launches.any (fun l => l.vf = vf && l.slot = num && !l.done) then .block 5
  else .done (s.modWork (fun w => { w with slots := w.slots.filter (fun x => !(x.vf = vf && x.num = num)) }))

/-! Launches and phases (10 R226 to R230). -/

/-- A buffer's pages do not give the permissions that the slot declares for its extent (10 R218 code 8, R219). -/
def State.bufferDenied (s : State) (ctx : Nat) (x : Slot) (bufs : List (Nat × Nat)) : Bool :=
  bufs.zipIdx.any (fun ((va, n), j) =>
    let d := x.decls.getD (7 - j) 0
    match s.translate ctx va n with
    | some (_, rd, wr) => extLen d ≠ 0 && ((extRd d && !rd) || (extWr d && !wr))
    | none => false)

/-- The extents x8 to x15 of a launch from its buffers (10 R227, R237), or none where one is missing, short or not
mapped. -/
def State.bufferExts (s : State) (ctx : Nat) (x : Slot) (bufs : List (Nat × Nat)) : Option (List (BitVec 256)) :=
  let one (k : Nat) : Option (BitVec 256) :=
    let d := x.decls.getD (k - 8) 0
    match bufs[15 - k]? with
    | none => if extLen d = 0 then some 0 else none
    | some (va, n) =>
      match s.translate ctx va n with
      | none => none
      | some (h, rd, wr) =>
        if extLen d = 0 then some (mkExt h (min n (2 ^ 58 - 1)) rd wr false false 0 0 ctx va)
        else if n < x.least.getD (k - 8) 0 then none
        else some (mkExt h (min n (2 ^ 58 - 1)) (extRd d) (extWr d) false (extTol d) (extSvc d) (extFmap d) ctx va)
  (List.range' 8 8).foldr (fun k acc => match one k, acc with | some e, some l => some (e :: l) | _, _ => none) (some [])

/-- A launch that a cancel has met before it was made (01 R37): one add of G members abandoned. -/
def State.cancelOpened (s : State) (l : Launch) : State :=
  ((s.orCancel l.ctx l.ctr).modLaunch l.uid (fun l => { l with cancelled := true })).launchAdd l.uid l.g true

/-- INVOKE's and INVOKE_TICK's effect (10 R225 to R228, R232). -/
def State.actInvoke (s : State) (q : Queue) (p : Packet) : Acted :=
  let num := Packet.num p 8 1
  let vf := q.page / 64
  match s.slotOf vf num with
  | none => .block 1
  | some x =>
    let g := Packet.num p 12 3 + 1
    let id := Packet.num p 16 4
    let gid := Packet.num p 20 4
    let pid := Packet.num p 24 4
    let pred := Packet.num p 28 4
    let ctrVa := Packet.num p 40 8
    let bmVa := Packet.num p 48 8
    let bufs := entriesOfPacket p
    let mine := s.work.launches.filter (fun l => l.ctx = q.ctx)
    let ph := s.phaseOf q.ctx pid
    let gr := ph.bind (fun y => y.graph gid)
    let ctr := s.wordHome q.ctx ctrVa 8 false true
    let bm := if bmVa = 0 then some 0 else s.wordHome q.ctx bmVa (8 * ((g + 63) / 64)) false true
    let exts := s.bufferExts q.ctx x bufs
    match lowestCode
        [(7, match gr with | some y => decide (y.launches ≤ y.opened) | none => false),
         (8, ctr.isNone || bm.isNone || s.bufferDenied q.ctx x bufs || bufs.any (fun (va, _) => va % 65536 ≠ 0)),
         (9, gr.isNone || mine.any (fun l => l.id = id) ||
            (pred ≠ 0xFFFFFFFF && !mine.any (fun l => l.id = pred && l.phase = pid && l.graph = gid))),
         (11, exts.isNone)], ph, ctr, exts with
    | some k, _, _, _ => .bad k
    | none, some y, some c, some es =>
      let tick := if Packet.op p = pINVOKE_TICK then some (Packet.num p 56 8) else none
      let dieset : BitVec 16 := s.dieSetOf q.ctx
      let l : Launch :=
        { uid := s.work.uid, id := id, ctx := q.ctx, queue := q.page, graph := gid, phase := pid, slot := num, vf := vf, g := g,
          prio := Packet.num p 10 1 % 8, pred := if pred = 0xFFFFFFFF then none else some pred, tick := tick,
          released := y.released && (match tick with | some t => decide (t ≤ s.window.tick) | none => true),
          predOk := pred = 0xFFFFFFFF, argoff := bitsAt (Packet.num p 32 8) 0 58, ctr := c, ctrVa := ctrVa,
          bitmap := if bmVa = 0 then none else bm.map (fun h => (h, bmVa)), exts := x.exts ++ es,
          leased := bufs.map (fun (va, n) => (va, n, false)),
          shares := if y.released then sharesOf dieset y.live g else [], notify := Packet.notify p, cancelled := false,
          done := false, relTick := none,
          unread := dieNums.filter (fun d => dieset.getLsbD d && s.actingDie q.ctx ≠ some d), ringAt := q.rdidx }
      let s1 := (s.updateWord q.ctx c 0).modWork (fun w => { w with uid := w.uid + 1, launches := w.launches ++ [l] })
      let s2 := match l.bitmap with
        | some (h, _) => { s1 with mem := s1.mem.clearRange h (8 * ((g + 63) / 64)) }
        | none => s1
      let s3 := s2.modPhase q.ctx pid (fun y => y.modGraph gid (fun z => { z with opened := z.opened + 1 }))
      let dead := y.cancelled || (match gr with | some z => z.cancelled | none => false) ||
        s.jobDead q.ctx
      .done (if dead then s3.cancelOpened { l with shares := [] } else s3)
    | none, _, _, _ => .bad 9

/-- PHASE_OPEN's effect (10 R229, R230). -/
def State.actPhaseOpen (s : State) (q : Queue) (p : Packet) : Acted :=
  let pid := Packet.num p 8 4
  let ctrVa := Packet.num p 16 8
  let es := entriesOfPacket p
  let ids := es.map (fun (x, _) => x % 2 ^ 32)
  let ctr := s.wordHome q.ctx ctrVa 8 false true
  let gs := es.map (fun (x, a) => (x, a, s.wordHome q.ctx a 8 false true))
  let open' := s.work.phases.filter (fun y => y.ctx = q.ctx)
  match lowestCode
      [(8, ctr.isNone || gs.any (fun (_, _, h) => h.isNone)),
       (9, open'.any (fun y => y.id = pid) || ids.eraseDups.length ≠ ids.length ||
          ids.any (fun i => open'.any (fun y => (y.graph i).isSome)))], ctr with
  | some k, _ => .bad k
  | none, none => .bad 8
  | none, some c =>
    let tick := if atTick p then some (Packet.num p 56 8) else none
    let dead := s.jobDead q.ctx
    let start : Word := if dead then 0x4000000000000000 else 0
    let graphs := gs.map (fun (x, a, h) =>
      ({ id := x % 2 ^ 32, launches := x / 2 ^ 32, opened := 0, ctr := h.getD 0, ctrVa := a, cancelled := dead, done := false } : Graph))
    let y : Phase :=
      { id := pid, ctx := q.ctx, queue := q.page, ctr := c, ctrVa := ctrVa, tick := tick, deadline := Packet.num p 24 4,
        released := false, relCycle := [], live := 0, graphs := graphs, cancelled := dead, done := false,
        notify := Packet.notify p }
    let s1 := graphs.foldl (fun s g => s.updateWord q.ctx g.ctr start) (s.updateWord q.ctx c start)
    let s2 := s1.modWork (fun w => { w with phases := w.phases ++ [y] })
    .done (match tick with
      | none => s2.releasePhase q.ctx pid
      | some t => if t ≤ s.window.tick then s2.releasePhase q.ctx pid else s2)

/-- PHASE_CLOSE's effect (10 R230). -/
def State.actPhaseClose (s : State) (q : Queue) (p : Packet) : Acted :=
  let pid := Packet.num p 8 4
  match s.phaseOf q.ctx pid with
  | none => .bad 9
  | some y =>
    if !y.done then .block 4
    else .done (s.modWork (fun w => { w with
      phases := w.phases.filter (fun z => !(z.ctx = q.ctx && z.id = pid)),
      launches := w.launches.filter (fun l => !(l.ctx = q.ctx && l.phase = pid)) }))

/-! Dependencies, cancel and lists (10 R231, R233). -/

/-- The request of a queue's packet at a mailbox: it waits in the order of arrival with those of the units (09 R208). No unit bears
launch number 0. -/
def boxWho (page : Nat) : UnitId := ⟨0, page + 1⟩
def State.boxRequest (s : State) (page : Nat) : Option Waiter := s.waiters.find? (fun x => decide (x.who = boxWho page))
def State.dropBox (s : State) (page : Nat) : State :=
  { s with waiters := s.waiters.filter (fun x => decide (x.who ≠ boxWho page)) }

/-- A word put into a mailbox, and taken from one, by a context's queue. -/
def State.boxPut (s : State) (ctx h : Nat) (v : Word) : State := (s.updateWord ctx h v).modMem (fun m => m.setFull h true)
def State.boxTake (s : State) (h : Nat) : State := s.modMem (fun m => m.setFull h false)

/-- A request of a queue's packet, or of another module, served at its home. -/
def State.serveBox (s : State) (x : Waiter) : State :=
  let ctx := match s.queueOf (x.who.rank - 1) with | some q => q.ctx | none => 0
  let mark (v : Word) (s : State) : State :=
    { s with waiters := updFirst (fun y => decide (y = x)) (fun y => { y with served := some v }) s.waiters }
  match x.wait with
  | .take => mark (s.mem.word x.addr) (s.boxTake x.addr)
  | .putf v =>
    let t := s.boxPut ctx x.addr v
    if x.who = peerWho then { t with waiters := dropFirst (fun y => decide (y = x)) t.waiters } else mark 0 t
  | _ => s

/-- A mailbox packet: its request is served, at once where the word allows it and no earlier one waits, or left at the home. -/
def State.boxPacket (s : State) (page h : Nat) (w : Wait) (same : Wait → Bool) (now : Bool) (fin : State → Word → State) : Acted :=
  match s.boxRequest page with
  | some x => match x.served with
    | some v => .done (fin (s.dropBox page) v)
    | none => .block 2
  | none =>
    let x : Waiter := ⟨boxWho page, h, w, none⟩
    let t : State := { s with waiters := s.waiters ++ [x] }
    if now && !s.waiters.any (fun y => y.addr = h && y.served.isNone && same y.wait) then
      .done (fin ((t.serveBox x).dropBox page) (s.mem.word h))
    else .blockAt 2 t

/-- MBOX_PUT's effect: as PUTF. -/
def State.actMboxPut (s : State) (q : Queue) (p : Packet) : Acted :=
  match s.wordHome q.ctx (Packet.num p 16 8) 8 true true with
  | none => .bad 8
  | some h => s.boxPacket q.page h (.putf (BitVec.ofNat 64 (Packet.num p 24 8))) isPutf (!s.mem.isFull h) (fun s _ => s)

/-- MBOX_TAKE's effect: as TAKE, then a store. -/
def State.actMboxTake (s : State) (q : Queue) (p : Packet) : Acted :=
  match s.wordHome q.ctx (Packet.num p 16 8) 8 true true, s.wordHome q.ctx (Packet.num p 24 8) 8 false true with
  | some h, some d => s.boxPacket q.page h .take isTake (s.mem.isFull h) (fun s v => s.updateWord q.ctx d v)
  | _, _ => .bad 8

/-- SIGNAL's effect: as SIG. -/
def State.actSignal (s : State) (q : Queue) (p : Packet) : Acted :=
  match s.wordHome q.ctx (Packet.num p 16 8) 8 true true with
  | none => .bad 8
  | some h => .done (s.updateWord q.ctx h (s.mem.word h + BitVec.ofNat 64 (Packet.num p 24 8)))

/-- The words that a WAIT packet compares, where they are mapped, with their targets. -/
def State.waitWords (s : State) (ctx : Nat) (p : Packet) : List (Option Nat × Word) :=
  (entriesOfPacket p).map (fun (a, v) => (s.wordHome ctx a 8 true false, BitVec.ofNat 64 v))

/-- Whether a WAIT packet's condition holds now, by reads of its own (10 R231). -/
def State.waitHolds (s : State) (ctx : Nat) (p : Packet) : Bool :=
  let holds (e : Option Nat × Word) : Bool := match e.1 with
    | some h => sigMode (Packet.num p 9 1) (s.mem.word h) e.2
    | none => false
  if Packet.op p = pWAIT_ALL then (s.waitWords ctx p).all holds else (s.waitWords ctx p).any holds

/-- The effect of WAIT_ALL and WAIT_ANY: a delay. -/
def State.actWait (s : State) (q : Queue) (p : Packet) : Acted :=
  if (s.waitWords q.ctx p).any (fun (h, _) => h.isNone) then .bad 8
  else if s.waitHolds q.ctx p then .done s else .block 3

/-- CANCEL's effect (01 R37, R38). -/
def State.actCancel (s : State) (q : Queue) (p : Packet) : Acted :=
  match s.cancel q.ctx (Packet.num p 8 1) (Packet.num p 12 4) with
  | none => .bad 9
  | some t => .done t

/-- HIB_LIST's effect (10 R233). -/
def State.actHibList (s : State) (q : Queue) (p : Packet) : Acted :=
  let es := (entriesOfPacket p).map (fun (a, x) => (⟨a, bitsAt x 0 56, bitsAt x 56 3⟩ : HibEntry))
  let old := match s.ctxOf q.ctx with | some c => c.list | none => []
  let l := (if bitOf (Packet.num p 9 1) 0 then [] else old) ++ es
  if es.any (fun e => e.va % 65536 ≠ 0) then .bad 8
  else if 256 < l.length then .bad 12
  else .done (s.modCtx q.ctx (fun c => { c with list := l }))

/-- The effect of a packet whose bytes are sound. -/
def State.actOnPacket (s : State) (q : Queue) (p : Packet) : Acted :=
  let o := Packet.op p
  if o = pSLOT_LOAD then s.actSlotLoad q p
  else if o = pSLOT_EVICT then s.actSlotEvict q p
  else if isInvoke o then s.actInvoke q p
  else if o = pMBOX_PUT then s.actMboxPut q p
  else if o = pMBOX_TAKE then s.actMboxTake q p
  else if o = pSIGNAL then s.actSignal q p
  else if isWait o then s.actWait q p
  else if o = pPHASE_OPEN then s.actPhaseOpen q p
  else if o = pPHASE_CLOSE then s.actPhaseClose q p
  else if o = pCANCEL then s.actCancel q p
  else if o = pHIB_LIST then s.actHibList q p
  else .done s

/-! Taking up a packet (10 R214, R216 to R220). -/

/-- A die of the set that has not read the position record up to its read index (10 R220). -/
def State.lagging (s : State) (q : Queue) (d : Nat) : Bool :=
  s.work.pendLive.getLsbD d && q.reads.any (fun (x, r) => x = d && r ≠ q.rdidx)

/-- The dies of a queue act: it is bound, and the supply is up. -/
def State.queueUp (s : State) (q : Queue) : Bool :=
  q.bound && 1 ≤ s.window.level && s.supply.powered && !s.supply.b1 && !s.supply.b2

/-- The queue is served: its context's acting die is in service and stands at the record's read index (10 R220). -/
def State.queueServed (s : State) (q : Queue) : Bool :=
  s.queueUp q && (q.state = 1 || q.state = 2) && (match s.actingDie q.ctx with | some d => !s.lagging q d | none => false)

/-- The packet at the read index, if it is present: its bytes. -/
def State.packetAt (s : State) (q : Queue) : Option Packet :=
  match s.ringHome q with
  | none => none
  | some home =>
    let n := s.written q
    if n = 0 then none
    else
      let one := s.ringBytes q home 1
      let len := Packet.len one
      if len = 0 || 4 < len then some one
      else if n < len then none
      else some (s.ringBytes q home len)

/-- Instances that the queue opened and that are not complete (10 R217). -/
def State.queueOpen (s : State) (page : Nat) : Bool :=
  s.work.launches.any (fun l => l.queue = page && !l.done) || s.work.phases.any (fun y => y.queue = page && !y.done)

/-- A packet consumed by the acting die, which records it (10 R220). A WAIT is left for the other dies to evaluate (10 R231). -/
def State.consume (s : State) (page : Nat) (p : Packet) : State :=
  s.modQueue page (fun q =>
    let next := q.rdidx + BitVec.ofNat 32 (Packet.len p)
    let others := (q.reads.map Prod.fst).filter (fun d => s.actingDie q.ctx ≠ some d)
    { q with
      rdidx := next, seq := q.seq + 1, state := 1, why := 0, code := 0,
      reads := q.reads.map (fun (d, r) => (d, if s.actingDie q.ctx = some d then next else r)),
      waits := if isWait (Packet.op p) && others ≠ [] then q.waits ++ [⟨q.rdidx, p, others⟩] else q.waits })

def State.halt (s : State) (page code : Nat) : State := s.modQueue page (fun q => { q with state := 3, code := code, why := 0 })

/-- What taking up the packet at the read index of a queue comes to; none when nothing is there, or it goes on waiting. -/
def State.packetStep (s : State) (page : Nat) : Option State :=
  match s.queueOf page with
  | none => none
  | some q =>
    if !s.queueServed q then none
    else match s.packetAt q with
      | none => none
      | some p =>
        match bytesCode q p with
        | some k => some (s.halt page k)
        | none =>
          let r := if Packet.ordered p && s.queueOpen page then .block 6 else s.actOnPacket q p
          match r with
          | .bad k => some (s.halt page k)
          | .block why =>
            if q.state = 2 && q.why = why then none else some (s.modQueue page (fun q => { q with state := 2, why := why }))
          | .blockAt why t => some (t.modQueue page (fun q => { q with state := 2, why := why }))
          | .done t =>
            let later := isInvoke (Packet.op p) || Packet.op p = pPHASE_OPEN
            some ((t.consume page p).notify (Packet.notify p && !later) page)

/-- How far a die comes that reads the record: to the first WAIT whose condition its own reads do not find, or to the record's read
index. -/
def State.adoptTo (s : State) (q : Queue) (d : Nat) : BitVec 32 :=
  match q.waits.find? (fun w => w.left.contains d && !s.waitHolds q.ctx w.bytes) with
  | some w => w.idx
  | none => q.rdidx

/-- Index i of a ring lies before index `stop`, counting from `start`. -/
def ringBefore (start stop i : BitVec 32) : Bool := (i - start).toNat < (stop - start).toNat

/-- Die d reads the record: it passes packets with the outcome recorded, each WAIT once its own reads find the condition (10 R220,
R231), and takes up its share of the launches among them. -/
def State.adopt (s : State) (page d : Nat) : State :=
  match s.queueOf page with
  | none => s
  | some q =>
    let start := match q.reads.find? (fun (x, _) => x = d) with | some (_, r) => r | none => q.rdidx
    let stop := s.adoptTo q d
    let pass (w : QueueWait) : QueueWait := if ringBefore start stop w.idx then { w with left := w.left.filter (· ≠ d) } else w
    let s1 := s.modQueue page (fun q => { q with
      reads := q.reads.map (fun (x, r) => (x, if x = d then stop else r)),
      waits := (q.waits.map pass).filter (fun w => w.left ≠ []) })
    s1.modWork (fun w => { w with launches := w.launches.map (fun l =>
      if l.queue = page && ringBefore start stop l.ringAt then { l with unread := l.unread.filter (· ≠ d) } else l) })

/-- The records that dies can read on, also of a queue that has halted since. -/
def State.adoptions (s : State) : List (Nat × Nat) :=
  s.work.queues.flatMap (fun q =>
    if s.queueUp q then
      (dieNums.filter (fun d => s.lagging q d && !q.reads.contains (d, s.adoptTo q d))).map (fun d => (q.page, d))
    else [])

/-- The opcode of the packet that the queue would take up. -/
def State.nextOp (s : State) (page : Nat) : Option Nat :=
  ((s.queueOf page).bind s.packetAt).map Packet.op

/-- The packet of one kind is taken up. -/
def State.runPacket (s : State) (page op : Nat) : State :=
  if s.nextOp page = some op then (s.packetStep page).getD s else s

def execNopPacket (q : Nat) (s : State) : Host.Outcome State Fault Refusal := .next (s.runPacket q pNOP)
def execSlotLoad (q : Nat) (s : State) : Host.Outcome State Fault Refusal := .next (s.runPacket q pSLOT_LOAD)
def execSlotEvict (q : Nat) (s : State) : Host.Outcome State Fault Refusal := .next (s.runPacket q pSLOT_EVICT)
def execInvoke (q : Nat) (s : State) : Host.Outcome State Fault Refusal := .next (s.runPacket q pINVOKE)
def execInvokeTick (q : Nat) (s : State) : Host.Outcome State Fault Refusal := .next (s.runPacket q pINVOKE_TICK)
def execMboxPut (q : Nat) (s : State) : Host.Outcome State Fault Refusal := .next (s.runPacket q pMBOX_PUT)
def execMboxTake (q : Nat) (s : State) : Host.Outcome State Fault Refusal := .next (s.runPacket q pMBOX_TAKE)
def execSignalPacket (q : Nat) (s : State) : Host.Outcome State Fault Refusal := .next (s.runPacket q pSIGNAL)
def execWaitAll (q : Nat) (s : State) : Host.Outcome State Fault Refusal := .next (s.runPacket q pWAIT_ALL)
def execWaitAny (q : Nat) (s : State) : Host.Outcome State Fault Refusal := .next (s.runPacket q pWAIT_ANY)
def execPhaseOpen (q : Nat) (s : State) : Host.Outcome State Fault Refusal := .next (s.runPacket q pPHASE_OPEN)
def execPhaseClose (q : Nat) (s : State) : Host.Outcome State Fault Refusal := .next (s.runPacket q pPHASE_CLOSE)
def execCancelPacket (q : Nat) (s : State) : Host.Outcome State Fault Refusal := .next (s.runPacket q pCANCEL)
def execHibList (q : Nat) (s : State) : Host.Outcome State Fault Refusal := .next (s.runPacket q pHIB_LIST)

/-- QUEUE_RESUME (10 R216): a BLOCKED queue whose condition holds takes its packet up. -/
def execQueueResume (q : Nat) (s : State) : Host.Outcome State Fault Refusal :=
  .next (match s.queueOf q with
    | some x => if x.state = 2 then (s.packetStep q).getD s else s
    | none => s)

/-! Queue pages (14 R297, R298). -/

/-- A page that nothing has written. -/
def Queue.fresh (page : Nat) : Queue :=
  { page := page, bound := false, logn := 0, hostmem := false, qprio := 0, ctx := 0, hwq := 0, base := 0, wiaddr := 0, wridx := 0,
    rdidx := 0, drops := 0, seq := 0, state := 0, code := 0, why := 0, reads := [], waits := [] }

/-- A page of the window changed, made first when nothing has written it. -/
def State.withPage (s : State) (page : Nat) (f : Queue → Queue) : State :=
  if (s.queueOf page).isSome then s.modQueue page f
  else s.modWork (fun w => { w with queues := w.queues ++ [f (Queue.fresh page)] })

/-- WRIDX: refused for a device ring, and where it would pass the read index or the ring. -/
def execWridxWrite (q : Nat) (value : BitVec 32) (s : State) : Host.Outcome State Fault Refusal :=
  .next (s.withPage q (fun x =>
    if x.wiaddr ≠ 0 || x.units < (value - x.rdidx).toNat then { x with drops := min (x.drops + 1) (2 ^ 32 - 1) }
    else { x with wridx := value }))

/-- STATUS: ACTIVE set while HALTED_ERR. -/
def execStatusWrite (q : Nat) (value : BitVec 64) (s : State) : Host.Outcome State Fault Refusal :=
  .next (s.withPage q (fun x =>
    if x.state = 3 && bitsAt value.toNat 0 2 = 1 then { x with state := 1, code := 0, why := 0 } else x))

/-- RDIDX: while UNBOUND or HALTED_ERR. Every die then stands there; what it had not read of the record it has passed, with its
outcome. -/
def execRdidxWrite (q : Nat) (value : BitVec 32) (s : State) : Host.Outcome State Fault Refusal :=
  .next (
    let stopped := match s.queueOf q with | some x => x.state = 0 || x.state = 3 | none => true
    if !stopped then s
    else
      let s1 := s.withPage q (fun x => { x with rdidx := value, reads := x.reads.map (fun (d, _) => (d, value)), waits := [] })
      s1.modWork (fun w => { w with launches := w.launches.map (fun l => if l.queue = q then { l with unread := [] } else l) }))

/-- Another bound queue holds the hardware queue on a die of the set. -/
def State.hwqTaken (s : State) (page hwq : Nat) (dieset : BitVec 16) : Bool :=
  s.work.queues.any (fun x => x.bound && x.page ≠ page && x.hwq = hwq &&
    (match s.ctxOf x.ctx with | some c => c.dieset &&& dieset ≠ 0 | none => false))

/-- BIND with BOUND = 1 (14 R298). While bound, only QPRIO changes; a bind out of range stays UNBOUND. -/
def State.bindQueue (s : State) (page : Nat) (v : Nat) : State :=
  s.withPage page (fun x =>
    if x.bound then { x with qprio := bitsAt v 6 3 }
    else
      let y := { x with logn := bitsAt v 0 5, hostmem := bitOf v 5, qprio := bitsAt v 6 3, ctx := bitsAt v 9 10, hwq := bitsAt v 20 6 }
      match s.ctxOf y.ctx with
      | none => y
      | some c =>
        if bitOf v 19 && 12 ≤ y.logn && y.logn ≤ 24 && y.base.toNat % 2 ^ y.logn = 0 && y.wiaddr.toNat % 8 = 0 &&
            c.vf = page / 64 && !s.hwqTaken page y.hwq c.dieset then
          { y with
            bound := true, state := 1, code := 0, why := 0, seq := 0,
            reads := (dieNums.filter (fun d => c.dieset.getLsbD d)).map (fun d => (d, y.rdidx)), waits := [] }
        else y)

def execQueueBind (q : Nat) (value : BitVec 64) (s : State) : Host.Outcome State Fault Refusal := .next (s.bindQueue q value.toNat)

/-- BIND with BOUND = 0: refused while an instance that the queue opened is not complete. -/
def execQueueUnbind (q : Nat) (s : State) : Host.Outcome State Fault Refusal :=
  .next (if s.queueOpen q then s
    else (s.dropBox q).withPage q (fun x => { x with bound := false, state := 0, code := 0, why := 0, reads := [], waits := [] }))

/-- QPRIO, writable at any time (10 R234). -/
def execQprioWrite (q : Nat) (prio : BitVec 3) (s : State) : Host.Outcome State Fault Refusal :=
  .next (s.withPage q (fun x => { x with qprio := prio.toNat }))

/-! Contexts (14 R300; 07 R161). -/

/-- The context's die-scratchpad windows zeroed, every mailbox word EMPTY. -/
def Memory.zeroWindows (m : Memory) (dieset : BitVec 16) (base len : Nat) : Memory :=
  (dieNums.filter (fun d => dieset.getLsbD d)).foldl (fun m d =>
    let a := dieSpadBase d + base
    let m1 := m.clearRange a len
    { m1 with full := m1.full.filter (fun x => !(a ≤ x && x < a + len)),
              ecc := m1.ecc.filter (fun (x, _) => !(a ≤ x && x < a + len)) }) m

/-- A context entry written with VALID set; its job's counter begins at zero (01 R35; log 48). -/
def State.createContext (s : State) (id : Nat) (e : Nat) : State :=
  match s.ctxOf id with
  | some _ => s.modCtx id (fun c =>
      { c with weight := bitsAt e 32 8, tokmax := bitsAt e 40 8, tokref := bitsAt e 48 8, tokens := min c.tokens (bitsAt e 40 8) })
  | none =>
    if !bitOf e 16 || bitsAt e 0 16 = 0 || 64 < bitsAt e 18 7 || 1024 ≤ id then s
    else
      let c : Ctx :=
        { id := id, dieset := BitVec.ofNat 16 (bitsAt e 0 16), retry := bitOf e 17, vf := bitsAt e 18 7, weight := bitsAt e 32 8,
          tokmax := bitsAt e 40 8, tokref := bitsAt e 48 8, scmBase := bitsAt e 64 64, scmLen := bitsAt e 128 64,
          dwBase := bitsAt e 192 24, dwLen := bitsAt e 216 24, tokens := bitsAt e 40 8, list := [], share := 0, killed := false,
          cancelled := false, lostAny := false }
      ((s.modMem (fun m => m.zeroWindows c.dieset c.window.1 c.window.2)).updateWord id (jobAddr id) 0).modWork (fun w =>
        { w with ctxs := w.ctxs ++ [c] })

def execContextCreate (ctx : Nat) (entry : BitVec 512) (s : State) : Host.Outcome State Fault Refusal :=
  .next (s.createContext ctx entry.toNat)

/-- VALID cleared: refused while an instance is open or a queue bound. The job's counter gets COMPLETE (01 R36). -/
def execContextRelease (ctx : Nat) (s : State) : Host.Outcome State Fault Refusal :=
  .next (match s.ctxOf ctx with
    | none => s
    | some c =>
      if s.work.phases.any (fun y => y.ctx = ctx) || s.work.launches.any (fun l => l.ctx = ctx) ||
          s.work.queues.any (fun q => q.bound && q.ctx = ctx) then s
      else
        let s1 := s.updateWord ctx (jobAddr ctx) (s.mem.word (jobAddr ctx) ||| 0x8000000000000000)
        (s1.modMem (fun m => m.zeroWindows c.dieset c.window.1 c.window.2)).modWork (fun w => { w with
          ctxs := w.ctxs.filter (fun x => x.id ≠ ctx) }))

end Sys2Proof.Machine
end

