-- ==== Sys2Proof/Machine/Power.lean ====
section
/-! DEFINITION. Supply, brown-out and hibernation (12 R261 to R277), and clocks, current and wear (14 R306 to R310, R316). -/

namespace Sys2Proof.Machine

def State.modSupply (s : State) (f : Supply → Supply) : State := { s with supply := f s.supply }

/-- Vector 66 of the PF signals a supply-level change (14 R299). -/
def State.supplyMsi (s : State) : State := s.msi 0 66

/-! Clocks (14 R306, R316): RETN follows a change of frequency at once (07 R158). -/

/-- The die's frequency set, and RETN in proportion. -/
def State.setClock (s : State) (d mhz : Nat) : State :=
  match s.dieAt d with
  | none => s
  | some x =>
    if x.freq = mhz || x.freq = 0 then s
    else (s.setRetn d (x.retn * mhz / x.freq)).modDieAt d (fun x => { x with freq := mhz })

/-! WARN (12 R261). -/

def execWarnEntry (s : State) : Host.Outcome State Fault Refusal :=
  .next (if s.supply.warn || s.supply.b1 || s.supply.b2 then s else (s.modSupply (fun p => { p with warn := true })).supplyMsi)

def execWarnExit (s : State) : Host.Outcome State Fault Refusal :=
  .next (if s.supply.warn && !s.supply.b1 && !s.supply.b2 then (s.modSupply (fun p => { p with warn := false })).supplyMsi else s)

/-! Brown-out (12 R263 to R265). -/

/-- Every unit on a strand takes POWERFAIL. -/
def State.powerfailAll (s : State) : State :=
  s.mapStrands (fun u =>
    if u.st.onStrand && u.st ≠ .ending && !u.trap.retained then u.requestSoft cPOWERFAIL (s.cycleOf u.place.die) else u)

/-- Every unit on a strand has stopped in place, what it had outstanding has performed, and no copy is left. -/
def State.allStopped (s : State) : Bool :=
  s.allStrands.all (fun u => !u.st.onStrand || (u.trap.retained && u.accs.isEmpty)) && s.allCores.all (fun c => c.cbuf.isEmpty)

def State.kept (s : State) (d : Nat) : Bool := s.supply.keep.getLsbD d

/-- The live K allocations of a die, parked (step 3), beside those parked earlier whose units have not resumed since. One with S too is
parked: DEDUCED (log 108). -/
def State.parkDie (s : State) (x : Die) : Die :=
  let cs := s.allCores.filter (fun c => c.die = x.num)
  let now := cs.flatMap (fun c => (c.allocs.filter (fun a => a.k && !a.isExpired x.cycle)).map (fun a =>
    (⟨a.who, a.base, allocBytes s.mem c.index a⟩ : Parked)))
  { x with parking := x.parking.filter (fun p => s.work.saved.any (fun v => decide (v.who = p.who))) ++ now }

/-- The retained unit in front saved without SPILL, and its strand's groups flushed (step 2). -/
def State.shedUnit (s : State) : State :=
  if s.u.trap.retained then (s.checkpointWith true false cPOWERFAIL).flushGroups else s.flushGroups

/-- The core reserved for a die's firmware (00 R4). -/
def State.fwcoreAt (s : State) (d : Nat) : Nat := match s.dieAt d with | some x => x.fwcore | none => 0

/-- A die outside KEEP shed: its units saved, its compute die off; its map bit stays. -/
def State.shedDie (s : State) (d : Nat) : State :=
  let here := (s.allStrands.filter (fun u => u.place.die = d)).map Strand.place
  let s1 := here.foldl (fun s p => s.at p State.shedUnit) s
  let s2 := s1.mapStrands (fun u => if u.place.die = d then Strand.boot (s.fwcoreAt d) u.place else u)
  let s3 := s2.mapCores (fun c => if c.die = d then Core.reset c.die c.cluster c.core else c)
  s3.modDieAt d (fun x => { x with shed := true, drains := [] })

/-- Steps 2 to 4 of 12 R263, once every unit has stopped. -/
def State.b1Settle (s : State) : State :=
  let s1 := s.mapDies (fun x => s.parkDie x)
  let gone := (s.allDies.filter (fun x => !s.kept x.num && !x.fenced)).map Die.num
  (gone.foldl State.shedDie s1).modSupply (fun p => { p with settled := true })


/-- Allocations of the units that were retained: K ones from the parking area, fresh; every other EXPIRED (12 R265). -/
def State.returnAllocs (s : State) : State :=
  let parked := s.allDies.flatMap Die.parking
  let find (a : Alloc) : Option Parked := parked.find? (fun p => decide (p.who = a.who) && p.base = a.base)
  let m := s.allCores.foldl (fun m c => c.allocs.foldl (fun m a => match find a with
    | some p => pokeChunks m c.index a.chunks p.bytes
    | none => m) m) s.mem
  let back (now retn : Nat) (a : Alloc) : Alloc :=
    if (find a).isSome then { a with expired := false, lastren := now, expiry := now + min a.life retn } else { a with expired := true }
  let retn (d : Nat) : Nat := match s.dieAt d with | some x => x.retn | none => 0
  let s1 := ({ s with mem := m } : State).mapCores (fun c => { c with allocs := c.allocs.map (back (s.cycleOf c.die) (retn c.die)) })
  let live := s1.allCores.flatMap (fun c => c.allocs.map (fun a => (a.who, a.base)))
  s1.mapDies (fun x => { x with parking := x.parking.filter (fun p => !live.contains (p.who, p.base)) })

/-- Every group's engine sends REJOIN(g, L(g)) to its predecessor (12 R265, R276). -/
def State.rejoinAll (s : State) : State := s.fabric.groups.foldl (fun s x => s.toPred x fRejoin x.last) s

/-- A retained unit goes on where it stopped (12 R265): its extents as its launch has them; a pending fault is raised before its first
bundle (11 R246), or at the return of the handler that it stopped in; else the parked writes are re-injected. -/
def State.wakeUnit (s : State) : State :=
  let u := s.u
  if !u.trap.retained then s
  else
    let x := match s.launchOf u.who.launch with
      | some l => if l.exts = [] then u.regs.x else extTab l.exts
      | none => u.regs.x
    let s1 : State := { s with u := { u with
      st := .ready, pc := u.trap.resume, target := none, regs := { u.regs with x := x }, own := { u.own with placedAt := s.now },
      time := { u.time with restore := s.now + 1, lastIssue := s.now },
      trap := { u.trap with settle := none, retained := false, wdStart := s.now, wdBound := u.regs.sr.periodmax.toNat } } }
    if u.trap.inHandler then (s1.modU (fun u => { u with flights := [] })).reinjectAt u.flights (s.now + 1) u.trap.rlast
    else
      let s2 := s1.modU (fun u => u.modTrap (fun t => { t with pend := none }))
      match u.trap.pend with
      | some h => (s2.record s2.now h.trap h.epc u.trap.resume).deliver s2.now h.trap
      | none => (s2.modU (fun u => u.modTrap (fun t => { t with ifq := [], odd := [] }))).reinjectAt
          (u.trap.ifq ++ u.trap.odd) (s.now + 1) u.trap.rlast

/-- What a supply event leaves in HIBSTATE.LAST of the units that B1 found on a strand (12 R265). -/
def Owned.afterB1 (o : Owned) : Owned := if o.inB1 then { o with last := 1, inB1 := false } else o

/-- B1_EXIT (12 R265). Units whose leases are not granted again take PREEMPT (10 R238). -/
def State.b1Exit (s : State) : State :=
  let s1 := s.mapDies (fun x => { x with shed := false })
  let s2 := ((s1.work.ctxs.map Ctx.id).foldl State.regrantLeases s1).returnAllocs
  let s3 := (s2.modWork (fun w => { w with saved := w.saved.map (fun v => { v with own := v.own.afterB1 }) })).mapStrands
    (fun u => { u with own := u.own.afterB1 })
  let s4 := (s3.modSupply (fun p => { p with b1 := false, settled := false, exitDue := false, warn := false })).rejoinAll
  let here := (s4.allStrands.filter (fun u => u.trap.retained)).map Strand.place
  (((here.foldl (fun s p => s.at p State.wakeUnit) s4).stopRevoked (fun _ => true)).tickReleases).supplyMsi

/-- The next part of a brown-out's entry, if it can come; the exit follows at once where the supply has returned meanwhile. -/
def State.b1Step (s : State) : Option State :=
  if s.supply.b1 && !s.supply.b2 && !s.supply.settled && s.allStopped then
    some (if s.supply.exitDue then s.b1Settle.b1Exit else s.b1Settle)
  else none

/-- B1_ENTRY (12 R263): the stop, then shedding, parking and retention once every unit has stopped. -/
def execB1Entry (s : State) : Host.Outcome State Fault Refusal :=
  .next (
    if s.supply.b1 then (let t := s.modSupply (fun p => { p with exitDue := false }); (t.b1Step).getD t)
    else if s.supply.b2 || !s.supply.powered then s
    else
      let s1 := s.mapStrands (fun u => { u with own := { u.own with inB1 := u.st.onStrand } })
      ((s1.modSupply (fun p => { p with b1 := true, settled := false, exitDue := false, warn := false })).powerfailAll).supplyMsi)

/-- B1_EXIT (12 R265); the entry is completed first. -/
def execB1Exit (s : State) : Host.Outcome State Fault Refusal :=
  .next (
    if s.supply.b1 && !s.supply.b2 then
      if s.supply.settled then s.b1Exit else s.modSupply (fun p => { p with exitDue := true })
    else s)

/-! Power-fail: stages 1 and 2 (12 R270). -/

/-- B2 begins: the stop of every unit, and HIBN to both neighbours of every group. A B2 out of B1 raises the kept dies at 700
MHz; of what their allocations held, only the parked K ones are left. -/
def State.enterB2 (s : State) (cause : Nat) : State :=
  let from1 := s.supply.b1
  let s1 := s.modSupply (fun p => { p with
    b2 := true, b1 := false, warn := false, stage := 1, fromB1 := from1, cause := cause, entryBudget := p.budget, exitDue := false,
    returning := false })
  let s2 := if from1 && s.supply.settled then
      (s1.allDies.filter (fun x => s.kept x.num && !x.fenced)).foldl (fun s x => s.setClock x.num 700)
        s1.returnAllocs
    else s1
  let s3 := s2.fabric.groups.foldl (fun s x => (s.toPred x fHibn x.last).toSucc x fHibn x.last []) s2
  s3.powerfailAll.supplyMsi

/-- B2_ENTRY (12 R270). While stages 1 and 2 only finish for a supply that had returned, the new entry takes their place (12 R275). -/
def execB2Entry (cause : BitVec 2) (s : State) : Host.Outcome State Fault Refusal :=
  .next (
    if !s.supply.powered then s
    else if s.supply.b2 then
      if s.supply.returning then
        s.modSupply (fun p => { p with returning := false, cause := cause.toNat, entryBudget := p.budget })
      else s
    else s.enterB2 cause.toNat)

/-- HIBREQ (12 R262): during B1 only. -/
def execHibreq (s : State) : Host.Outcome State Fault Refusal :=
  .next (if s.supply.b1 && !s.supply.b2 then s.enterB2 3 else s)

/-- Warm resume (12 R275): every unit from its save area, by the distributor, with LAST = 2. `sealed`: out of stage 4, so that the first
resume uses the image up; what it holds is drained anew should B2 recur (log 21). Dies raised at 700 MHz go back to their level's clock
(14 R306, R316). -/
def State.resumeWarm (s : State) (sealed : Bool) : State :=
  let s1 := s.mapDies (fun x => { x with shed := false })
  let s2 := if s.supply.fromB1 && 2 ≤ s.window.level then s1.allDies.foldl (fun s x => if x.freq = 700 then s.setClock x.num Config.baseMhz else s) s1 else s1
  let s3 := s2.modWork (fun w => { w with saved := w.saved.map (fun v => { v with own := { v.own with last := 2, inB1 := false } }) })
  let s4 := s3.modSupply (fun p => { p with
    b2 := false, stage := 0, fromB1 := false, settled := false, returning := false, consume := p.consume || sealed,
    regions := if sealed then [] else p.regions })
  (s4.rejoinAll.tickReleases).supplyMsi

/-- The wear counters written to their record (14 R308). -/
def State.recordWear (s : State) : State :=
  { s with secure := { s.secure with
    wearAt := s.clock,
    records := { s.secure.records with wear := store s.secure.records.wear (s.allDies.foldl (fun t x => put [] t x.num x.wear) []) } } }

/-- PARK (12 R270): once every unit has stopped, each is checkpointed, every tile group flushed, and the wear recorded. -/
def State.park (s : State) : State :=
  let here := (s.allStrands.filter (fun u => u.trap.retained)).map Strand.place
  let s1 := here.foldl (fun s p => s.at p (fun s => s.checkpoint false cPOWERFAIL)) s
  let dirty := (s1.allStrands.filter (fun u => foreignDirty u ≠ [])).map Strand.place
  let s2 := (dirty.foldl (fun s p => s.at p State.flushGroups) s1).recordWear.modSupply (fun p => { p with stage := 2 })
  if s2.supply.returning then s2.resumeWarm false else s2

def execPark (s : State) : Host.Outcome State Fault Refusal :=
  .next (if s.supply.b2 && s.supply.stage = 1 && s.allStopped then s.park else s)

/-- WARM_RESUME (12 R275): stage 1 finishes its stops and its parking first. -/
def execWarmResume (s : State) : Host.Outcome State Fault Refusal :=
  .next (
    if !s.supply.b2 then s
    else match s.supply.stage with
      | 1 => s.modSupply (fun p => { p with returning := true })
      | 2 => s.resumeWarm false
      | 3 => s.resumeWarm false
      | 4 => s.resumeWarm true
      | _ => s)

/-! The drain (12 R269, R271; 14 R301). -/

/-- The last used byte of a save area, plus one (12 R269). -/
def usedBytes (m : Memory) (area : Nat) : Nat :=
  let h := readAreaHeader m area
  let groups := ((List.range 128).filter (fun k => h.tgsaved.testBit k)).map (fun k => offGroups + 1088 * (k + 1))
  let ifq := if h.hard then [offIfq + 1280 * h.ifqn] else []
  let accs := ((List.range 24).filter (fun n => h.acclive.testBit n)).map (fun n => offAcc + 65536 * (n + 1))
  let planes := ([0, 1].filter (fun k => h.planes.testBit k)).map (fun k => offPlanes + 65536 * (k + 1))
  let masks := ([0, 1].filter (fun k => h.psparse.testBit k)).map (fun k => offPlaneMasks + 32768 * (k + 1))
  let recs := ((List.range 64).filter (fun i => recordValid m (area + offRecords + 32 * i))).map (fun i =>
    let a := readRecord m (area + offRecords + 32 * i) ⟨0, 0⟩
    offSpill + 1024 * (a.base + a.size))
  (groups ++ ifq ++ accs ++ planes ++ masks ++ recs).foldl max 0x1400

/-- A region as the drain plans it. -/
def Region.fresh (kind ctx prio va len : Nat) (home : Option Nat) : Region :=
  { kind := kind, ctx := ctx, prio := prio, va := va, len := len, home := home, scm := 0, digest := zeros 32, lost := false, saved := false }

/-- The system regions of a context; `areaLen` says how much of each save area counts. -/
def State.systemRegions (s : State) (c : Ctx) (areaLen : Nat → Nat) (areas : List Nat) : List Region :=
  let home (va n : Nat) : Option Nat := (s.translate c.id va n).map Prod.fst
  let rings := s.work.queues.filter (fun q => q.bound && q.ctx = c.id && q.wiaddr ≠ 0 && !q.hostmem)
  areas.map (fun a => Region.fresh 0 c.id 0 a (areaLen a) (some a)) ++
  (s.work.slots.filter (fun x => x.ctx = c.id)).flatMap (fun x => ((x.exts.drop 1).filter (fun e => extLen e ≠ 0 && extWr e)).map
    (fun e => Region.fresh 1 c.id 0 (bitsAt e.toNat 208 48 * 65536) (extLen e) (some (extBase e)))) ++
  rings.map (fun q => Region.fresh 2 c.id 0 q.base.toNat (2 ^ q.logn) (home q.base.toNat (2 ^ q.logn))) ++
  rings.map (fun q =>
    let (va, n) := Config.positionRecord q.page
    Region.fresh 2 c.id 0 va n (home va n)) ++
  (s.work.launches.filter (fun l => l.ctx = c.id)).map (fun l => Region.fresh 2 c.id 0 l.ctrVa 8 (some l.ctr)) ++
  (s.work.phases.filter (fun y => y.ctx = c.id)).flatMap (fun y =>
    Region.fresh 2 c.id 0 y.ctrVa 8 (some y.ctr) :: y.graphs.map (fun g => Region.fresh 2 c.id 0 g.ctrVa 8 (some g.ctr))) ++
  (dieNums.filter (fun d => c.dieset.getLsbD d && c.window.2 ≠ 0)).map (fun d =>
    Region.fresh 3 c.id 0 (dieSpadBase d - dieSpadBase 0 + c.window.1) c.window.2 (some (dieSpadBase d + c.window.1))) ++
  (s.fabric.groups.filter (fun g => g.entry.ctx = c.id)).map (fun g =>
    Region.fresh 4 c.id 0 g.entry.recvVa g.entry.recvLen (home g.entry.recvVa g.entry.recvLen))

/-- The entries of a context's list as regions, by ascending priority and list order. -/
def State.listRegions (s : State) (c : Ctx) : List Region :=
  c.ordered.map (fun e => Region.fresh 5 c.id e.prio e.va e.len ((s.translate c.id e.va e.len).map Prod.fst))

def Region.key (r : Region) : Nat × Nat × Nat × Nat × Nat := (r.kind, r.ctx, r.prio, r.va, r.len)

/-- A region as an earlier entry drained it, where its copy still stands (12 R275). -/
def State.drainedBefore (s : State) (r : Region) : Region :=
  (s.supply.regions.find? (fun o => o.saved && decide (o.key = r.key))).getD r

/-- A region recorded LOST, but for one that an earlier entry has drained. -/
def lose (r : Region) : Region := if r.saved then r else { r with lost := true }

/-- What a region takes from the budget: its length, once (12 R271, R275). -/
def Region.cost (r : Region) : Nat := if r.saved then 0 else r.len
def regionBytes (l : List Region) : Nat := (l.map Region.cost).sum

/-- The system pass: the contexts in ascending ID, each whole or not at all. Answers what is left, and for each context whether
it survived, with its regions. -/
def systemPass : Nat → List (Ctx × List Region) → Nat × List (Ctx × Bool × List Region)
  | b, [] => (b, [])
  | b, (c, rs) :: r =>
    if regionBytes rs ≤ b then
      let (b', l) := systemPass (b - regionBytes rs) r
      (b', (c, true, rs) :: l)
    else
      let (b', l) := systemPass b r
      (b', (c, false, rs.map lose) :: l)

/-- Entries while each fits; an entry that is not mapped is lost and costs nothing. Answers the budget left, those taken and
those from the first that does not fit on. -/
def fitRegions : Nat → List Region → Nat × List Region × List Region
  | b, [] => (b, [], [])
  | b, e :: r =>
    if e.home.isNone then
      let (b', t, l) := fitRegions b r
      (b', lose e :: t, l)
    else if e.cost ≤ b then
      let (b', t, l) := fitRegions (b - e.cost) r
      (b', e :: t, l)
    else (b, [], e :: r)

/-- The share of a context (14 R301). -/
def shareOf (rest weight total : Nat) : Nat := rest * weight / max 256 total

/-- The save areas of a context's saved units. -/
def State.areasOf (s : State) (ctx : Nat) : List Nat := (s.work.saved.filter (fun v => v.own.ctx = ctx)).map Saved.area

/-- The whole plan of a drain with budget b, in the order it drains. -/
def State.drainPlan (s : State) (b : Nat) : List Region :=
  let cs := sortBy Ctx.id s.work.ctxs
  let (rest, sys) := systemPass b (cs.map (fun c =>
    (c, (s.systemRegions c (usedBytes s.mem) (s.areasOf c.id)).map s.drainedBefore)))
  let total := ((sys.filter (fun (_, ok, _) => ok)).map (fun (c, _, _) => c.weight)).sum
  let shared := sys.map (fun (c, ok, _) =>
    if ok then
      let sh := shareOf rest c.weight total
      let (b', t, l) := fitRegions sh ((s.listRegions c).map s.drainedBefore)
      (sh - b', t, l)
    else (0, (s.listRegions c).map lose, []))
  let spent := (shared.map (fun (n, _, _) => n)).sum
  let pool := sortBy (fun (r : Region) => r.prio * 1024 + r.ctx) (shared.flatMap (fun (_, _, l) => l))
  let (_, t, l) := fitRegions (rest - spent) pool
  sys.flatMap (fun (_, _, rs) => rs) ++ shared.flatMap (fun (_, t, _) => t) ++ t ++ l.map lose

/-- The manifest's length for a number of records (12 R272, R274). -/
def manifestBytes (n : Nat) : Nat := 256 + 64 * n + 2 + 1280

/-- Offsets in the area for the regions still to drain, one after another from `n` on. -/
def placeRegions : Nat → List Region → List Region
  | _, [] => []
  | n, r :: l =>
    if r.saved || r.lost then r :: placeRegions n l else { r with scm := n } :: placeRegions (n + (r.len + 63) / 64 * 64) l

/-- The record count of the manifest: regions, units, groups and marks. -/
def State.recordCount (s : State) (regions : Nat) : Nat :=
  regions + s.work.saved.length + s.fabric.groups.length + ((s.allDies.map (fun d => d.marks.length)).sum)

/-- Room left for the manifest, so that regions drained before a recurrence need not move (log 21). -/
def manifestRoom : Nat := 2 ^ 28

/-- The plan with its offsets, after the manifest and after what an earlier entry has drained, which stands (12 R275). -/
def State.planDrain (s : State) : List Region :=
  let plan := s.drainPlan s.supply.entryBudget
  let start := max manifestRoom ((manifestBytes (s.recordCount plan.length) + 63) / 64 * 64)
  let ends := (plan.filter Region.saved).map (fun r => r.scm + (r.len + 63) / 64 * 64)
  placeRegions (ends.foldl max start) plan

/-- The bytes a region's digest covers: a die window's are followed by its full/empty bits (12 R273). -/
def fullBitmap (m : Memory) (a n : Nat) : List Byte :=
  natBytes ((n / 8 + 7) / 8) (((List.range (n / 8)).filter (fun i => m.isFull (a + 8 * i))).foldl (fun x i => x + 2 ^ i) 0)
def Memory.regionData (m : Memory) (r : Region) (a : Nat) : List Byte :=
  m.range a r.len ++ (if r.kind = 3 then fullBitmap m a r.len else [])

/-- The mailbox bits of a range copied with it (12 R269). -/
def Memory.copyFull (m : Memory) (src dst n : Nat) : Memory :=
  let keep := m.full.filter (fun a => !(dst ≤ a && a < dst + n))
  let moved := (m.full.filter (fun a => src ≤ a && a < src + n)).map (fun a => a - src + dst)
  { m with full := moved.foldl (fun l a => insertBy id a l) keep }

/-- The first region still to drain. -/
def State.nextRegion (s : State) : Option Region := s.supply.regions.find? (fun r => !r.saved && !r.lost)

/-- The image area that a hibernation writes: not the current image's (12 R272). `cur` is the current one. -/
def otherArea (cur : Option Nat) : Nat := match cur with | some 0 => 1 | _ => 0

/-! The manifest (12 R272 to R274). -/

def regionRecord (r : Region) : List Byte :=
  natBytes 32 (1 + 2 ^ 8 * (r.ctx % 1024) + 2 ^ 18 * (r.kind % 16) + bitN r.lost 22 + 2 ^ 23 * (r.prio % 8) +
    2 ^ 64 * (r.va % 2 ^ 64) + 2 ^ 128 * (r.len % 2 ^ 64) + 2 ^ 192 * ((if r.lost then 0 else r.scm) % 2 ^ 64)) ++
  takePad 0 32 (if r.lost then [] else r.digest)

def unitRecord (s : State) (v : Saved) : List Byte :=
  let id := match s.launchOf v.who.launch with | some l => l.id | none => 0
  natBytes 64 (2 + 2 ^ 8 * (v.own.ctx % 1024) + 2 ^ 64 * (id % 2 ^ 32) + 2 ^ 96 * (v.who.rank % 2 ^ 24) +
    2 ^ 120 * (v.die % 16) + 2 ^ 128 * (v.area % 2 ^ 64))

def groupRecord (g : Group) : List Byte :=
  let e := g.entry
  natBytes 64 (3 + 2 ^ 8 * (e.ctx % 1024) + 2 ^ 64 * (e.group % 2 ^ 16) + 2 ^ 96 * (g.last % 2 ^ 32) +
    2 ^ 128 * (e.predMod % 2 ^ 17) + 2 ^ 160 * (e.succMod % 2 ^ 17))

def markRecord (die : Nat) (m : Mark) : List Byte :=
  natBytes 64 (4 + 2 ^ 8 * (m.ctx % 1024) + 2 ^ 64 * (m.tag % 2 ^ 16) + 2 ^ 80 * (die % 16) + 2 ^ 96 * m.value.toNat +
    2 ^ 160 * (m.tick % 2 ^ 64) + 2 ^ 224 * (m.launch % 2 ^ 32) + 2 ^ 256 * (m.rank % 2 ^ 24))

def State.marksOf (s : State) : List (Nat × Mark) := s.allDies.flatMap (fun d => d.marks.map (fun m => (d.num, m)))

def State.manifestRecords (s : State) : List Byte :=
  s.supply.regions.flatMap regionRecord ++ s.work.saved.flatMap (unitRecord s) ++ s.fabric.groups.flatMap groupRecord ++
    s.marksOf.flatMap (fun (d, m) => markRecord d m)

def State.manifestHeader (s : State) (area seq n : Nat) : List Byte :=
  natBytes 256 (0x4D584842 + 2 ^ 32 * 1 + 2 ^ 64 * (Config.moduleId % 2 ^ 17) + 2 ^ 128 * (s.secure.bootcnt % 2 ^ 64) +
    2 ^ 192 * (seq % 2 ^ 64) + 2 ^ 256 * (n % 2 ^ 32) + 2 ^ 288 * (s.supply.entryBudget % 2 ^ 64) +
    2 ^ 352 * (s.supply.drained % 2 ^ 64) + 2 ^ 416 * (s.supply.cause % 4) + bitN s.supply.fromB1 418 + 2 ^ 419 * (area % 2))

/-- DRAIN (12 R270, R271): the plan is made at the start of stage 3; then one region after another is copied with its digest. -/
def State.drain (s : State) : State :=
  let plan := s.planDrain
  let s1 := if s.supply.stage = 2 then s.modSupply (fun p => { p with
      stage := 3, regions := plan, drained := ((plan.filter (fun r => r.saved && !r.lost)).map Region.len).sum }) else s
  match s1.nextRegion with
  | none => s1
  | some r =>
    match r.home with
    | none => s1.modSupply (fun p => { p with regions := updFirst (fun x => decide (x = r)) lose p.regions })
    | some h =>
      let dst := imageBase (otherArea (s1.currentImage.map Image.area)) + r.scm
      let done : Region → Region := fun x => { x with saved := true, digest := shake256 32 (s1.mem.regionData r h) }
      (s1.modMem (fun m => (m.copyRange h dst r.len).copyFull h dst r.len)).modSupply (fun p =>
        { p with drained := p.drained + r.len, regions := updFirst (fun x => decide (x = r)) done p.regions })

def execDrain (s : State) : Host.Outcome State Fault Refusal :=
  .next (if s.supply.b2 && ((s.supply.stage = 2 && !s.imageUnused) || s.supply.stage = 3) then s.drain else s)

/-- SEAL (12 R274): the manifest is written and signed, and the counter advanced. -/
def State.seal (s : State) : State :=
  let area := otherArea (s.currentImage.map Image.area)
  let seq := s.secure.c + 1
  let recs := s.manifestRecords
  let body := s.manifestHeader area seq (recs.length / 64) ++ recs
  let sig := signOver body
  let live (ctx : Nat) : Bool := s.supply.regions.all (fun r => r.ctx ≠ ctx || r.kind = 5 || !r.lost)
  let img : Image :=
    { area := area, seq := seq, regions := s.supply.regions, launches := s.work.launches.filter (fun l => live l.ctx),
      phases := s.work.phases.filter (fun y => live y.ctx), saved := s.work.saved.filter (fun v => live v.own.ctx),
      groups := s.fabric.groups.map (fun g => (g.entry.group, g.last)), marks := s.marksOf,
      queues := (s.work.queues.filter (fun q => q.bound && live q.ctx)).map (fun q => (q.page, q.rdidx, q.seq)) }
  let s1 := s.modMem (fun m => m.poke (imageBase area) (body ++ natBytes 2 sig.length ++ sig))
  ({ s1 with secure := { s1.secure with c := seq } } : State).modSupply (fun p =>
    { p with stage := 4, images := p.images.filter (fun i => i.area ≠ area) ++ [img] })

def execSeal (s : State) : Host.Outcome State Fault Refusal :=
  .next (if s.supply.b2 && s.supply.stage = 3 && s.nextRegion.isNone then s.seal else s)

/-- POWER_OFF (12 R270): the supply switch opens. -/
def State.openSwitch (s : State) : State := s.modSupply (fun p => { p with stage := 5, powered := false })

def execPowerOff (s : State) : Host.Outcome State Fault Refusal :=
  .next (if s.supply.b2 && (s.supply.stage = 4 || (s.supply.stage = 2 && s.imageUnused)) then s.openSwitch else s)

/-! Boot and restore (12 R277; 14 R313). -/

/-- CeilMHz and CEIL (14 R308). -/
def ceilMhz (wear : Nat) : Nat := Config.boostMhz - 350 * min wear Config.wearMax / Config.wearMax
def ceilOf (wear : List Nat) : Nat := 25 * ((wear.map ceilMhz).foldl min Config.boostMhz / 25)

/-- The records HARVEST and WEAR (14 R313). -/
def State.harvest (s : State) : Harvest := (newest s.secure.records.harvest).getD ⟨[], []⟩
def State.wearRecord (s : State) : Tab (List Nat) := (newest s.secure.records.wear).getD []

/-- A die booted from reset: its wear, and with it its ceiling, come from the record WEAR where that names the die, its firmware core from
the record FWCORE; the cores that HARVEST disables are out of use, and those that firmware left stay so (13 R292; 14 R308, R313). -/
def State.bootDie (s : State) (d : Nat) : Die :=
  let off := (s.harvest.cores.filter (fun x => x.1 = d)).map Prod.snd
  match s.dieAt d with
  | some x =>
    let wear := if lookup [] s.wearRecord d = [] then x.wear else lookup [] s.wearRecord d
    { Die.reset d with
      wear := wear, ceil := ceilOf wear, fwcore := lookup 0 s.fwRecord d, retired := (x.retired ++ off).eraseDups }
  | none => Die.reset d

/-- The secure element and the firmware store at a boot of the module (12 R274, 13 R289). -/
def Secure.booted (x : Secure) : Secure := { x with bootcnt := x.bootcnt + 1, listfull := false, retiredNow := [] }

/-- Every component takes its image at a boot of the module (14 R312). -/
def State.takeAll (s : State) : State :=
  [1, 2].foldl (fun s c => s.takeFirmware c 0) (dieNums.foldl (fun s d => s.takeFirmware 0 d) s)

/-- What outlasts power-off: SCM and host memory, the secure element, the image areas, the wear records. Every die boots its firmware
core. -/
def State.bootUp (s : State) : State :=
  let keep (t : Tab Byte) : Tab Byte := t.filter (fun (a, _) => scmBase ≤ a)
  let boot (u : Strand) : Strand := Strand.boot (lookup 0 s.fwRecord u.place.die) u.place
  { State.reset with
    u := boot State.reset.u,
    strands := State.reset.strands.map boot,
    mem := { Memory.reset with bytes := keep s.mem.bytes, full := s.mem.full.filter (fun a => scmBase ≤ a) },
    die := s.bootDie 0,
    dies := (dieNums.drop 1).map s.bootDie,
    secure := s.takeAll.secure.booted,
    window := { Window.reset with beat := s.clock },
    supply := { Supply.reset with images := s.supply.images, booting := true },
    agenda := s.agenda, clock := s.clock, freeCount := s.freeCount }

/-- A region copied back (step 3): the context's range as the driver now maps it; answers whether its digest held. -/
def State.restoreRegion (s : State) (area : Nat) (r : Region) : State × Bool :=
  let src := imageBase area + r.scm
  let home := if r.kind = 0 || r.kind = 3 then r.home else (s.translate r.ctx r.va r.len).map Prod.fst
  match home with
  | none => (s, false)
  | some h =>
    if r.lost then (s.modMem (fun m => m.clearRange h r.len), false)
    else if shake256 32 (s.mem.regionData r src) ≠ r.digest then (s.modMem (fun m => m.clearRange h r.len), false)
    else (s.modMem (fun m => (m.copyRange src h r.len).copyFull src h r.len), true)

/-- The regions of the recreated contexts restored: the state, the contexts not to be resumed, and those with a LOST region. A system
region that fails ends the restore of its context. -/
def State.restoreRegions (s : State) (area : Nat) (rs : List Region) : State × List Nat × List Nat :=
  rs.foldl (fun (acc : State × List Nat × List Nat) r =>
    let (t, bad, lost) := acc
    if bad.contains r.ctx then acc
    else
      let (t', ok) := t.restoreRegion area r
      if ok then (t', bad, lost)
      else if r.kind = 5 then (t', bad, r.ctx :: lost)
      else (t', r.ctx :: bad, r.ctx :: lost)) (s, [], [])

/-- Counters and leases of a restored launch or phase, where the driver now maps them (step 4). -/
def State.reopenLaunch (s : State) (l : Launch) : Launch :=
  { l with
    ctr := match s.translate l.ctx l.ctrVa 8 with | some (h, _, _) => h | none => l.ctr,
    bitmap := l.bitmap.map (fun (h, va) => match s.translate l.ctx va (8 * ((l.g + 63) / 64)) with | some (x, _, _) => (x, va) | none => (h, va)),
    exts := (match s.slotOf l.vf l.slot with | some x => x.exts | none => l.exts.take 8) ++ l.exts.drop 8,
    leased := l.leased.map (fun (a, n, _) => (a, n, true)) }
def State.reopenPhase (s : State) (y : Phase) : Phase :=
  let at' (va old : Nat) : Nat := match s.translate y.ctx va 8 with | some (h, _, _) => h | none => old
  { y with ctr := at' y.ctrVa y.ctr, graphs := y.graphs.map (fun g => { g with ctr := at' g.ctrVa g.ctr }) }

/-- The restore of a current image (12 R277 steps 2 to 6); units then resume through the distributor. -/
def State.restoreImage (s : State) (i : Image) : State :=
  let here (ctx : Nat) : Bool := (s.ctxOf ctx).isSome
  let (s1, bad, lost) := s.restoreRegions i.area (i.regions.filter (fun r => here r.ctx))
  let good (ctx : Nat) : Bool := here ctx && !bad.contains ctx
  let ls := i.launches.filter (fun l => good l.ctx)
  let vs := (i.saved.filter (fun v => good v.own.ctx)).map (fun v =>
    { v with own := { v.own with last := 3, inB1 := false, hibseq := i.seq } })
  let taken (q : Queue) : Queue := match i.queues.find? (fun (p, _, _) => p = q.page) with
    | some (_, r, n) => if good q.ctx then { q with rdidx := r, seq := n, reads := q.reads.map (fun (d, _) => (d, r)), waits := [] } else q
    | none => q
  let s2 := s1.modWork (fun w => { w with
    ctxs := w.ctxs.map (fun c => { c with lostAny := lost.contains c.id }), queues := w.queues.map taken,
    launches := w.launches ++ ls.map s1.reopenLaunch, phases := w.phases ++ (i.phases.filter (fun y => good y.ctx)).map s1.reopenPhase,
    saved := w.saved ++ vs, uid := (ls.map (fun l => l.uid + 1)).foldl max w.uid })
  let s3 := ((ls.map Launch.ctx).eraseDups).foldl State.regrantLeases s2
  let s4 := i.groups.foldl (fun s (g, n) => s.modGroup g (fun x => { x with last := n })) s3
  (s4.rejoinAll).modSupply (fun p => { p with booting := false, consume := true })

/-- COLD_BOOT (12 R277): without power, the module boots from reset. Once it has reached BL2, and the driver has recreated the
contexts, the current image is restored; without one the module starts empty. -/
def execColdBoot (s : State) : Host.Outcome State Fault Refusal :=
  .next (
    if !s.supply.powered then s.bootUp
    else if s.supply.booting && 2 ≤ s.window.level && !s.supply.b1 && !s.supply.b2 then
      match s.currentImage with
      | some i => s.restoreImage i
      | none => s.modSupply (fun p => { p with booting := false })
    else s)

/-! The budget (12 R267). -/

/-- The shares that a B2 now would give; a unit on a strand counts with its whole area. -/
def State.shares (s : State) (b : Nat) : List (Nat × Nat) :=
  let cs := sortBy Ctx.id s.work.ctxs
  let running (c : Ctx) : List Nat :=
    (s.allStrands.filter (fun u => u.st.onStrand && u.own.ctx = c.id && !u.privileged)).map (fun u => areaOf u.regs.pr.savebase)
  let (rest, sys) := systemPass b (cs.map (fun c => (c, s.systemRegions c (usedBytes s.mem) (s.areasOf c.id) ++
    (running c).map (fun a => Region.fresh 0 c.id 0 a Config.saveAreaBytes (some a)))))
  let total := ((sys.filter (fun (_, ok, _) => ok)).map (fun (c, _, _) => c.weight)).sum
  sys.map (fun (c, ok, _) => (c.id, if ok then shareOf rest c.weight total else 0))

/-- BUDGET_RECOMPUTE (12 R267): the module budget, and every context's share. -/
def execBudgetRecompute (budget : Nat) (s : State) : Host.Outcome State Fault Refusal :=
  .next (
    let sh := s.shares budget
    (s.modSupply (fun p => { p with budget := budget })).modWork (fun w => { w with ctxs := w.ctxs.map (fun c =>
      { c with share := match sh.find? (fun x => x.1 = c.id) with | some x => x.2 | none => 0 }) }))

/-! Clocks, current, wear and the heartbeat (14 R306 to R310). -/

/-- What the hardware enforces while no heartbeat comes: 1.4 GHz at most, and the calibrated clamps. -/
def State.enforceSafe (s : State) : State :=
  let s1 := s.allDies.foldl (fun s x => if Config.baseMhz < x.freq then s.setClock x.num Config.baseMhz else s) s
  s1.mapDies (fun x => { x with clamp := [0, 1, 2].map (Config.clampLimit x.num) })

/-- HEARTBEAT (14 R310). -/
def execHeartbeat (s : State) : Host.Outcome State Fault Refusal :=
  .next { s with window := { s.window with heartbeat := true, updating := false, beat := s.clock } }

/-- The last heartbeat came more than 10 ms ago (14 R310). -/
def State.beatMissed (s : State) : Bool := s.window.heartbeat && decide (s.window.beat + 14000000 < s.clock)
def State.missBeat (s : State) : State := ({ s with window := { s.window with heartbeat := false } } : State).enforceSafe

/-- HEARTBEAT_MISS (14 R310). -/
def execHeartbeatMiss (s : State) : Host.Outcome State Fault Refusal :=
  .next s.missBeat

/-- CURRENT_SAMPLE (14 R307): two successive samples above CLAMP throttle the cluster; one below 90 % of it ends that. -/
def execCurrentSample (die cluster value : Nat) (s : State) : Host.Outcome State Fault Refusal :=
  .next (s.modDieAt die (fun x =>
    let lim := x.clamp.getD cluster 0
    let high : Bool := decide (lim < value)
    let old := x.throttled.getD cluster false
    { x with
      isense := x.isense.set cluster value, hot := x.hot.set cluster high,
      throttled := x.throttled.set cluster
        (if high && x.hot.getD cluster false then true else if value * 10 < lim * 9 then false else old) }))

/-- An hour of reference time, after which firmware records the wear counters again (14 R308). -/
def wearHour : Nat := 3600 * 1400000000

/-- WEAR_UPDATE (14 R308): a weight of at most 16; the clock comes down to a ceiling that falls below it. Once an hour the counters are
recorded. -/
def execWearUpdate (die cluster weight : Nat) (s : State) : Host.Outcome State Fault Refusal :=
  .next (
    let s1 := s.modDieAt die (fun x =>
      let w := x.wear.set cluster (min (2 ^ 48 - 1) (x.wear.getD cluster 0 + min 16 weight))
      { x with wear := w, ceil := ceilOf w })
    let s2 := match s1.dieAt die with
      | some x => if x.ceil < x.freq then s1.setClock die x.ceil else s1
      | none => s1
    if s.secure.wearAt + wearHour ≤ s.clock then s2.recordWear else s2)

/-- RETN as a change of the clock revises it (07 R158): the figure offered for the present temperature, where it is no less than the
retention guaranteed at 110 °C (00 R8); else the present figure in proportion. -/
def Die.retnAt (x : Die) (mhz retn : Nat) : Nat := if 168000 * mhz ≤ retn * Config.baseMhz then retn else x.retn * mhz / x.freq

/-- CLOCK_CHANGE (14 R306, R310): a multiple of 25 MHz in the range in force, or 700 MHz at BL1 and on a kept die in a B2 out of B1; RETN
follows at once. -/
def execClockChange (die mhz retn : Nat) (s : State) : Host.Outcome State Fault Refusal :=
  .next (match s.dieAt die with
    | none => s
    | some x =>
      let top := if s.window.heartbeat && !s.window.updating && s.window.level ≠ 2 then x.ceil else Config.baseMhz
      let low := mhz = 700 && (s.window.level = 1 || (s.supply.b2 && s.supply.fromB1 && s.kept die && !x.fenced))
      if mhz % 25 = 0 && (low || (s.window.level ≠ 1 && Config.baseMhz ≤ mhz && mhz ≤ top)) then
        (s.setRetn die (x.retnAt mhz retn)).modDieAt die (fun x => { x with freq := mhz })
      else s)

/-- BOOT_LEVEL_RISE (14 R315, R316): BLEVEL rises by one; the live dies change from the next phase boundary on, and the
clocks with the level. Without a valid HARVEST and CALIB the module does not leave reset (R313). -/
def execBootLevelRise (dies : BitVec 16) (s : State) : Host.Outcome State Fault Refusal :=
  .next (
    if 3 ≤ s.window.level || (newest s.secure.records.harvest).isNone || (newest s.secure.records.calib).isNone then s
    else
      let l := s.window.level + 1
      let some' (l : List Nat) : BitVec 16 := l.foldl (fun m d => m ||| BitVec.ofNat 16 (2 ^ d)) 0
      let good : BitVec 16 := dies &&& ~~~(some' s.harvest.dies)
      let live : BitVec 16 := if l = 1 then 1 else good &&& ~~~(some' ((s.allDies.filter Die.fenced).map Die.num))
      let s1 := { s with window := { s.window with level := l, dies := good } }
      let s2 := s1.modWork (fun w => { w with pendLive := live, epoch := (w.epoch + 1) % 2 ^ 32 })
      if l = 1 then s2.setClock 0 700 else if l = 2 then s2.allDies.foldl (fun s x => s.setClock x.num Config.baseMhz) s2 else s2)

/-! Firmware images (14 R312). -/

/-- Where copy A (0) or B (1) of a component's image lies in SCM: below the image areas, beyond every context's window (log 66). -/
def firmwareBase (component copy : Nat) : Nat :=
  scmBase + Config.scmBytes - 2 * Config.imageRoom - Config.firmwareRoom + (2 * (component % 4) + copy % 2) * 2 ^ 27

/-- FIRMWARE_UPDATE (14 R312): admitted if the signature verifies and the rollback number has not gone back; it goes into the
component's inactive copy. The power controller (component 2) takes it at once, and is being updated until its next heartbeat. -/
def execFirmwareUpdate (image : FwImage) (s : State) : Host.Outcome State Fault Refusal :=
  .next (
    let floor := lookup 0 s.secure.rollback image.component
    if Config.falconVerify (shake256 64 image.bytes) image.signature && floor ≤ image.rollback then
      let copy := 1 - lookup 0 s.secure.active image.component % 2
      let s0 := s.modMem (fun m => m.lay (firmwareBase image.component copy) (image.bytes.take (2 ^ 27)))
      let s1 := { s0 with secure := { s0.secure with
        rollback := put 0 s.secure.rollback image.component image.rollback,
        images := s.secure.images.filter (fun i => !(i.image.component = image.component && i.copy = copy)) ++ [⟨copy, image⟩] } }
      if image.component = 2 then
        ({ s1.takeFirmware 2 0 with window := { s1.window with updating := true } } : State).enforceSafe
      else s1
    else s)

end Sys2Proof.Machine
end

