-- ==== Sys2Proof/Machine/Channel.lean ====
section
/-! DEFINITION. The order in which HBM4 channels and LLC slices serve the requests of the module, and the ageing of requests
(07 R170, R171). Which channel a line belongs to is a free value (log 85). -/

namespace Sys2Proof.Machine

/-- A request that could be served now: its class, the cycles left to its deadline, the cycles it has waited, and its channels. -/
structure Req where
  cls : Nat
  left : Option Int
  waited : Nat
  chans : List Nat
  deriving DecidableEq, Repr

/-- The order of 07 R171: URGENT first; within a class the earliest deadline, and after those with one the earliest arrival. -/
def Req.before (a b : Req) : Bool :=
  if a.cls ≠ b.cls then b.cls < a.cls
  else match a.left, b.left with
    | some x, some y => x < y || (x = y && b.waited < a.waited)
    | some _, none => true
    | none, some _ => false
    | none, none => b.waited < a.waited

/-- One request keeps another waiting at a channel of both. -/
def Req.holds (a b : Req) : Bool := a.before b && a.chans.any b.chans.contains

/-- The channels that serve homes of global memory. -/
def channelsOf (homes : List Nat) : List Nat := (homes.filter isGlobal).map (fun a => Config.channelOf (a / 64))

/-- The request of an access of the strand in front. -/
def State.accReq (s : State) (a : Access) : Req :=
  ⟨a.svc, if a.deadline = 0 then none else some ((a.issued + 64 * a.deadline : Nat) - (s.now : Int)), s.now - a.issued,
    channelsOf (a.spans.flatMap s.spanHomes)⟩

/-- The homes of an engine's operand, none where it fails its checks. -/
def State.operandHomes (s : State) (slot : Nat) (a : Word) (n : Nat) (k : AccKind) : List Nat :=
  match s.engineSpan slot a n k with | .ok sp => sp.homes | .error _ => []

/-- The requests of a matrix command of the unit in front: each operand in the class of its extent (07 R170). -/
def State.matrixReqs (s : State) (c : MCmd) : List Req :=
  (c.unread.filter (fun (a, _) => pSpace a = 3)).map (fun (a, n) =>
    ⟨min 3 (extSvc (s.u.ext (pXi a)) + (if c.aged then 1 else 0)), none, s.now - c.entered, channelsOf (s.operandHomes 3 a n kRead)⟩)

/-- The request of a chunk of a copy of the unit in front. -/
def State.chunkReq (s : State) (c : CCmd) (k : Nat) : Req :=
  let (b, n) := chunkAt (c.chunkList (s.copyGranules c)) k
  ⟨c.svc, if c.dl = 0 then none else some ((c.entered + 64 * c.dl : Nat) - (s.now : Int)), s.now - c.entered,
    channelsOf ((s.copySrc c b n).flatMap (fun (a, m) => s.operandHomes 6 a m kRead) ++
      (c.dst b n).toList.flatMap (fun (a, m) => s.operandHomes 6 a m kWrite))⟩

/-- The chunks of the unit's copies that may move now. -/
def State.chunksReady (s : State) : List (Nat × CCmd × Nat) :=
  (s.core.cbuf.zipIdx.filter (fun (c, _) => decide (c.who = s.u.who))).flatMap (fun (c, k) =>
    (c.todo.filter (s.chunkMay c)).map (fun n => (k, c, n)))

/-- The running command of a side of the array, where it is the unit's and its next step may begin. -/
def State.stepReady (s : State) (load : Bool) : Option MCmd :=
  match s.core.matrix.runningOf load with
  | none => none
  | some c => if decide (c.who = s.u.who) && s.stepMay c then some c else none

/-- The request of a group's command of the unit in front: what it reads as it sends, then what it writes. -/
def State.collReq (s : State) (c : CCmd) : Req :=
  ⟨c.svc, if c.dl = 0 then none else some ((c.entered + 64 * c.dl : Nat) - (s.now : Int)), s.now - c.entered,
    channelsOf (if c.sent then s.operandHomes 6 c.sd c.sl.toNat kWrite else s.collSource c)⟩

/-- The command of a group that could send or complete now, where it is the unit's in front. -/
def State.collMine (s : State) (g : Nat) : Option CCmd :=
  if s.collSendDue g || s.collDue g then (s.collFront g).bind (fun c => if c.who = s.u.who then some c else none) else none

/-- The request of latch q of the strand in front: its channel's header (log 98). -/
def State.latchReq (s : State) (q : Nat) : Req := ⟨1, none, 0, channelsOf (s.operandHomes 7 (s.u.latch q).chan 64 kRead)⟩

/-- The latches whose channels can be read on. -/
def State.latchesReady (s : State) : List Nat := (List.range 8).filter (fun q => (s.u.latch q).bound && (s.latchStep q).isSome)

/-- The request of a scrub asked for at a reference time: BULK, and a class higher once it has waited 8192 cycles (13 R286, 07 R171). -/
def State.scrubReq (s : State) (x : Nat × Nat) : Req :=
  let waited := s.clock - x.2
  ⟨if 8192 ≤ waited then 1 else 0, none, waited, channelsOf [x.1]⟩

/-- The request of a drain: its next region, as BULK (07 R170, 12 R270). -/
def State.drainReq (s : State) : Option Req :=
  if s.supply.b2 && s.supply.stage = 3 then
    s.nextRegion.bind (fun r => r.home.map (fun h => ⟨0, none, 0, channelsOf (List.range' h r.len)⟩))
  else none

/-- The requests of the unit in front that could be served now. -/
def State.unitReqs (s : State) : List Req :=
  if s.u.st = .absent then []
  else
    (((List.range s.u.accs.length).filter s.eligible).filterMap (fun k => s.u.accs[k]?)).map s.accReq ++
    ((s.stepReady true).toList ++ (s.stepReady false).toList).flatMap s.matrixReqs ++
    s.chunksReady.map (fun (_, c, n) => s.chunkReq c n) ++
    ((s.fabric.groups.map (fun x => x.entry.group)).filterMap s.collMine).map s.collReq ++
    s.latchesReady.map s.latchReq

/-- The requests of the module. -/
def State.requests (s : State) : List Req :=
  s.allStrands.flatMap (fun u => (s.focus u.place).unitReqs) ++ s.errs.scrubs.map s.scrubReq ++ s.drainReq.toList

/-- No request of the module keeps this one waiting at its channels. -/
def State.goes (s : State) (r : Req) : Bool := r.chans.isEmpty || !(s.requests.any (fun x => x.holds r))

/-! Ageing. -/

/-- Requests of the strand, and of its unit's commands, that have waited 8192 cycles (07 R171). -/
def State.agingDue (s : State) : Bool :=
  let old (aged : Bool) (c : Nat) : Bool := !aged && c + 8192 ≤ s.now
  s.u.accs.any (fun a => old a.aged a.issued) ||
  s.core.matrix.buf.any (fun c => decide (c.who = s.u.who) && old c.aged c.entered) ||
  s.core.cbuf.any (fun c => decide (c.who = s.u.who) && old c.aged c.entered)

/-- REQUEST_AGING (07 R171): raised one class, URGENT at most. -/
def State.ageRequests (s : State) : State :=
  let old (aged : Bool) (c : Nat) : Bool := !aged && c + 8192 ≤ s.now
  let s1 := s.modU (fun u => { u with accs := u.accs.map (fun a =>
    if old a.aged a.issued then { a with aged := true, svc := min 3 (a.svc + 1) } else a) })
  let mine (w : UnitId) : Bool := decide (w = s.u.who)
  s1.modCore (fun k => { k with
    matrix := { k.matrix with buf := k.matrix.buf.map (fun c =>
      if mine c.who && old c.aged c.entered then { c with aged := true } else c) }
    cbuf := k.cbuf.map (fun c =>
      if mine c.who && old c.aged c.entered then { c with aged := true, svc := min 3 (c.svc + 1) } else c) })

def execRequestAging (s : State) : Host.Outcome State Fault Refusal := .next s.ageRequests

end Sys2Proof.Machine
end

