-- ==== Sys2Proof/Machine/Window.lean ====
section
/-! DEFINITION. The register window (14 R296 to R302, R306, R310, R314, R315; 12 R262): the tick source, attestation, writes by offset, and the
word that a read of each offset gives. -/

namespace Sys2Proof.Machine

/-! The tick source (14 R302). -/

def tickRange (v : Nat) : Bool := 1000000 ≤ v && v ≤ 4294967295

/-- TICKPER: the first value in range starts the source, with tick 0 now; a later one takes effect at the next boundary. -/
def execTickperWrite (value : BitVec 64) (s : State) : Host.Outcome State Fault Refusal :=
  .next (
    if !tickRange value.toNat then s
    else if s.window.started then { s with window := { s.window with nextper := some value.toNat } }
    else ({ s with window := { s.window with
        started := true, tickper := value.toNat, startClock := s.clock, startTick := 0, tick := 0 } } : State).mapDies
      (fun d => { d with tickPh := 0 }))

/-! Attestation (14 R314). -/

/-- BLEVEL (14 R315): the level, and the dies that are calibrated and in service. -/
def State.blevel (s : State) : Nat :=
  let fenced : BitVec 16 := (s.allDies.filter Die.fenced).foldl (fun m x => m ||| BitVec.ofNat 16 (2 ^ x.num)) 0
  s.window.level % 4 + 4 * (s.window.dies &&& ~~~fenced).toNat

/-- The digest of the image that a component runs, of the dies' the one of die 0 (log 66). -/
def State.runningDigest (s : State) (component : Nat) : List Byte :=
  match s.secure.running.find? (fun (c, d, _) => c = component && d = 0) with
  | some (_, _, i) => shake256 32 i.bytes
  | none => takePad 0 32 (Config.imageDigest component)

/-- Bytes 0 to 247 of the report. -/
def State.reportBody (s : State) (nonce : BitVec 256) : List Byte :=
  natBytes 32 nonce.toNat ++ natBytes 8 (Config.moduleId % 2 ^ 17) ++ natBytes 8 (s.secure.bootcnt % 2 ^ 64) ++
    [0, 1, 2].flatMap s.runningDigest ++
    [(0, s.harvest.dies.map (fun d => (d, 16)) ++ s.harvest.cores), (1, []), (2, s.fwRecord)].flatMap (fun (r, l) => takePad 0 32 (Config.recordDigest r l)) ++ natBytes 8 s.blevel

def State.report (s : State) (nonce : BitVec 256) : List Byte :=
  let body := s.reportBody nonce
  let sig := signOver body
  body ++ natBytes 2 sig.length ++ sig

/-- ATTESTATION: the report is written to the host's buffer. -/
def execAttestation (nonce : BitVec 256) (buffer : BitVec 64) (s : State) : Host.Outcome State Fault Refusal :=
  .next (s.modMem (fun m => m.poke (hostBase + buffer.toNat) (s.report nonce)))

/-! Writes by offset (14 R296). -/

/-- A register kept as written. -/
def State.keepPlain (s : State) (off : Nat) (v : Word) : State :=
  { s with window := { s.window with plain := put 0 s.window.plain off v } }

/-- A write to a queue page (14 R297); BASE and WIADDR are kept while not bound. -/
def State.pageWrite (s : State) (page reg : Nat) (v : BitVec 64) : Host.Outcome State Fault Refusal :=
  match reg with
  | 0x00 => execWridxWrite page (v.setWidth 32) s
  | 0x08 => execStatusWrite page v s
  | 0x10 => execRdidxWrite page (v.setWidth 32) s
  | 0x100 =>
    let bound := match s.queueOf page with | some x => x.bound | none => false
    if bound && !v.getLsbD 19 then
      execQueueUnbind page (if s.queueOpen page then s else s.withPage page (fun x => { x with qprio := bitsAt v.toNat 6 3 }))
    else execQueueBind page v s
  | 0x108 => .next (s.withPage page (fun x => if x.bound then x else { x with base := v }))
  | 0x110 => .next (s.withPage page (fun x => if x.bound then x else { x with wiaddr := v }))
  | _ => .next s

/-- The bits of a word of a context-table entry that are not RES (14 R300; 00 R13). -/
def contextMask (off : Nat) : Word :=
  match off % 64 with
  | 0 => 0x00FFFFFF01FFFFFF
  | 8 | 16 => BitVec.allOnes 64
  | 24 => 0x0000FFFFFFFFFFFF
  | _ => 0

/-- A write to a word of the context table: word 0 sets or clears VALID over the entry as written (14 R300). While VALID = 1 only WEIGHT,
TOKMAX and TOKREF change. -/
def State.contextWrite (s : State) (off : Nat) (v : BitVec 64) : Host.Outcome State Fault Refusal :=
  let id := (off - 0x100000) / 64
  let valid := (s.ctxOf id).isSome
  let w := v &&& contextMask off
  let tuned : Word := 0x00FFFFFF00000000
  let kept := if valid then (lookup 0 s.window.plain off &&& ~~~(tuned ||| 0x10000)) ||| (w &&& (tuned ||| 0x10000)) else w
  let s1 := s.keepPlain off kept
  if off % 64 ≠ 0 then .next (if valid then s else s1)
  else if v.getLsbD 16 then
    let e := (List.range 8).foldr (fun k x => (lookup 0 s1.window.plain (0x100000 + 64 * id + 8 * k)).toNat + 2 ^ 64 * x) 0
    .next (s1.createContext id e)
  else execContextRelease id s1

/-- A write to a die's power block (14 R306). CLAMP keeps its calibrated value while no heartbeat comes or the firmware is updated
(R310). -/
def State.powerWrite (s : State) (d reg : Nat) (v : BitVec 64) : State :=
  if reg = 0x58 then s.modDieAt d (fun x => { x with drainmax := v.toNat })
  else if 0x40 ≤ reg && reg < 0x58 && reg % 8 = 0 && s.window.heartbeat && !s.window.updating then
    let c := (reg - 0x40) / 8
    s.modDieAt d (fun x => { x with clamp := x.clamp.set c (min v.toNat (Config.clampLimit d c)) })
  else s

/-- The fault-address queue's read index: the driver takes entries off (13 R288). -/
def State.faultRead (s : State) (v : Nat) : State :=
  let n := min s.errs.queue.length (v - s.window.faultRd)
  { s with
    errs := { s.errs with queue := s.errs.queue.drop n },
    window := { s.window with faultRd := s.window.faultRd + n } }

/-! Reads by offset (14 R296): what the window's registers hold. No read changes anything. -/

/-- A word built from its fields, each a lowest bit and a value. -/
def fields (l : List (Nat × Nat)) : Word := BitVec.ofNat 64 (l.foldl (fun x (b, v) => x + 2 ^ b * v) 0)

def boolNat (b : Bool) : Nat := if b then 1 else 0

/-- STATUS of a queue (10 R216): state, malformed code, the ring offset of the packet at the read index, and why it waits. -/
def Queue.status (q : Queue) : Word :=
  fields [(0, q.state), (8, if q.state = 3 then q.code else 0),
    (16, if q.bound then 64 * (q.rdidx.toNat % q.units) else 0), (48, if q.state = 2 then q.why else 0)]

/-- BIND (14 R298). -/
def Queue.bindWord (q : Queue) : Word :=
  fields [(0, q.logn), (5, boolNat q.hostmem), (6, q.qprio), (9, q.ctx), (19, boolNat q.bound), (20, q.hwq)]

/-- STATUS as die d sees it (10 R216, R220; 14 R297): BLOCKED at its own read index, with WHY = 3 at a WAIT whose condition its own reads do
not find, and else with WHY = 7 where it has still to read the record or waits for what only the acting die performs; outside the die set,
UNBOUND. -/
def State.dieStatus (s : State) (q : Queue) (d : Nat) : Word :=
  match q.reads.find? (fun (x, _) => x = d) with
  | none => 0
  | some (_, r) =>
    let late : Bool := s.lagging q d || (s.actingDie q.ctx ≠ some d && q.state = 2 && q.why ≠ 3 && q.why ≠ 6)
    let waits : Bool := s.lagging q d && s.adoptTo q d = r
    if late then { q with rdidx := r, state := 2, why := if waits then 3 else 7 }.status else q.status

/-- A register of a queue page (14 R297). -/
def State.readPage (s : State) (q : Queue) (reg : Nat) : Word :=
  if reg = 0x00 then q.wridx.setWidth 64
  else if reg = 0x08 then q.status
  else if reg = 0x10 then q.rdidx.setWidth 64
  else if reg = 0x18 then BitVec.ofNat 64 q.drops
  else if 0x40 ≤ reg && reg < 0xC0 && reg % 8 = 0 then s.dieStatus q ((reg - 0x40) / 8)
  else if reg = 0x100 then q.bindWord
  else if reg = 0x108 then q.base
  else if reg = 0x110 then q.wiaddr
  else 0

/-- An entry of the context table as a number (14 R300). -/
def Ctx.entry (c : Ctx) : Nat :=
  c.dieset.toNat + 2 ^ 16 + 2 ^ 17 * boolNat c.retry + 2 ^ 18 * c.vf + 2 ^ 32 * c.weight + 2 ^ 40 * c.tokmax +
    2 ^ 48 * c.tokref + 2 ^ 64 * c.scmBase + 2 ^ 128 * c.scmLen + 2 ^ 192 * c.dwBase + 2 ^ 216 * c.dwLen

/-- A word of the context table: the entry in use, or the words written and not yet made VALID. -/
def State.contextRead (s : State) (off : Nat) : Word :=
  match s.ctxOf ((off - 0x100000) / 64) with
  | some c => BitVec.ofNat 64 (c.entry / 2 ^ (8 * (off % 64)))
  | none =>
    let w := lookup 0 s.window.plain off &&& contextMask off
    if off % 64 = 0 then w &&& ~~~(0x10000 : Word) else w

/-- A register of a die's power block (14 R306). -/
def Die.powerRead (d : Die) (reg : Nat) : Word :=
  BitVec.ofNat 64 (
    if reg = 0x00 then d.freq
    else if reg = 0x08 then d.ceil
    else if 0x10 ≤ reg && reg < 0x28 then d.wear.getD ((reg - 0x10) / 8) 0
    else if 0x28 ≤ reg && reg < 0x40 then d.isense.getD ((reg - 0x28) / 8) 0
    else if 0x40 ≤ reg && reg < 0x58 then d.clamp.getD ((reg - 0x40) / 8) 0
    else if reg = 0x58 then d.drainmax
    else 0)

/-- An entry of the fault-address queue as a number (13 R288). -/
def FaultEntry.entry (e : FaultEntry) : Nat :=
  e.addr % 2 ^ 52 + 2 ^ 52 * (e.kind % 2 ^ 4) + 2 ^ 56 * (e.tag % 2 ^ 11) + 2 ^ 67 * (e.place % 2 ^ 10) + 2 ^ 77 * (e.cycle % 2 ^ 32) + 2 ^ 127

/-- The word of the fault-address queue at an offset: 256 entries of 16 bytes, used in turn. -/
def State.faultWord (s : State) (off : Nat) : Word :=
  let j := off / 16 % 256
  match s.errs.queue[(j + 256 - s.window.faultRd % 256) % 256]? with
  | none => 0
  | some e => BitVec.ofNat 64 (e.entry / 2 ^ (8 * (off % 16)))

/-! The collective group table (14 R296, R305), with the layout of log 71: entry i has 64 bytes. Word 0 holds GROUP in bits [15:0], VALID in
bit 16 and CTX in [41:32]; words 1 and 2 the predecessor and the successor, each as module in [16:0], die in [35:32] and port in [44:40];
words 3 and 4 the receive area's address and length; word 5 L(g). -/

/-- The bits of a word of the table that a write keeps. -/
def groupMask (k : Nat) : Word :=
  match k with
  | 0 => 0x3FF0001FFFF
  | 1 | 2 => 0x1F0F0001FFFF
  | 3 | 4 => BitVec.allOnes 64
  | _ => 0

/-- The entry that the words at an index describe. -/
def State.groupAt (s : State) (i : Nat) (w0 : Word) : GroupEntry :=
  let w (k : Nat) : Nat := (lookup 0 s.window.plain (0x300000 + 64 * i + 8 * k)).toNat
  { index := i, group := bitsAt w0.toNat 0 16, ctx := bitsAt w0.toNat 32 10, predMod := bitsAt (w 1) 0 17, predDie := bitsAt (w 1) 32 4,
    predPort := bitsAt (w 1) 40 5, succMod := bitsAt (w 2) 0 17, succDie := bitsAt (w 2) 32 4, succPort := bitsAt (w 2) 40 5,
    recvVa := w 3, recvLen := w 4 }

/-- Word k of a group's entry. -/
def Group.entryWord (g : Group) (k : Nat) : Word :=
  let e := g.entry
  match k with
  | 0 => fields [(0, e.group), (16, 1), (32, e.ctx)]
  | 1 => fields [(0, e.predMod), (32, e.predDie), (40, e.predPort)]
  | 2 => fields [(0, e.succMod), (32, e.succDie), (40, e.succPort)]
  | 3 => BitVec.ofNat 64 e.recvVa
  | 4 => BitVec.ofNat 64 e.recvLen
  | 5 => BitVec.ofNat 64 g.last
  | _ => 0

/-- The group whose entry stands at an index of the table. -/
def State.groupIn (s : State) (i : Nat) : Option Group := s.fabric.groups.find? (fun g => g.entry.index = i)

/-- A word of the group table: the group's own, or as written while VALID = 0. -/
def State.groupRead (s : State) (off : Nat) : Word :=
  match s.groupIn ((off - 0x300000) / 64) with
  | some g => g.entryWord (off % 64 / 8)
  | none => lookup 0 s.window.plain off

/-- A write to the group table: VALID set creates the group that the entry describes, and cleared dissolves it (14 R305). -/
def State.groupWrite (s : State) (off : Nat) (v : BitVec 64) : Host.Outcome State Fault Refusal :=
  let i := (off - 0x300000) / 64
  let w := v &&& groupMask (off % 64 / 8)
  match s.groupIn i with
  | some g => if off % 64 = 0 && !v.getLsbD 16 then execGroupDissolve g.entry.group s else .next s
  | none =>
    let s1 := s.keepPlain off (w &&& ~~~(if off % 64 = 0 then (0x10000 : Word) else 0))
    if off % 64 = 0 && v.getLsbD 16 then execGroupCreate (s.groupAt i w) s1 else .next s1

/-- The word at an aligned offset of a virtual function's BAR0 (14 R295). -/
def State.functionRead (s : State) (f o : Nat) : Word :=
  if o % 8 ≠ 0 || 64 < f || o < 0x1000000 || 0x1040000 ≤ o then 0
  else match s.queueOf (64 * f + (o - 0x1000000) / 4096) with
    | none => 0
    | some q => s.readPage q (o % 4096)

/-- The word at an aligned offset of the window (14 R296); offsets not listed read as zero. -/
def State.windowRead (s : State) (off : Nat) : Word :=
  if off % 8 ≠ 0 then 0
  else if off = 0x0 then BitVec.ofNat 64 s.blevel
  else if off = 0x8 then BitVec.ofNat 64 (Config.moduleId % 2 ^ 17)
  else if 0x100 ≤ off && off < 0x128 then lookup 0 s.window.plain off
  else if off = 0x1000 then
    fields [(0, s.supply.keep.toNat), (17, boolNat s.supply.b1), (18, boolNat s.supply.b2),
      (19, if s.supply.b2 then s.supply.stage else 0)]
  else if off = 0x1008 then BitVec.ofNat 64 s.window.tickper
  else if off = 0x1010 then fields [(0, boolNat s.window.heartbeat), (1, boolNat s.window.updating)]
  else if off = 0x2000 then s.window.sdaddr
  else if off = 0x2008 then s.window.sdlen
  else if off = 0x2010 then lookup 0 s.window.plain off ||| fields [(62, boolNat s.window.busy)]
  else if off = 0x3000 then BitVec.ofNat 64 s.window.faultRd
  else if off = 0x3008 then BitVec.ofNat 64 (s.window.faultRd + s.errs.queue.length)
  else if off = 0x3010 then BitVec.ofNat 64 s.window.faultOver
  else if 0x10000 ≤ off && off < 0x11000 then s.faultWord (off - 0x10000)
  else if 0x100000 ≤ off && off < 0x110000 then s.contextRead off
  else if 0x200000 ≤ off && off < 0x210000 then
    (match s.allDies.find? (fun d => d.num = (off - 0x200000) / 4096) with
      | none => 0
      | some d => d.powerRead (off % 4096))
  else if 0x300000 ≤ off && off < 0x340000 then s.groupRead off
  else if 0x1000000 ≤ off && off < 0x1000000 + 0x40000 * 65 then
    (match s.queueOf ((off - 0x1000000) / 4096) with
      | none => 0
      | some q => s.readPage q (off % 4096))
  else 0

/-! Accesses of a function's BAR0 (14 R295). -/

/-- A write through the BAR0 of a virtual function, which holds its own queue block only; BIND, BASE and WIADDR are read-only there (14
R295, R297). -/
def State.functionWrite (s : State) (f o : Nat) (v : BitVec 64) : Host.Outcome State Fault Refusal :=
  if 64 < f || o < 0x1000000 || 0x1040000 ≤ o || [0x100, 0x108, 0x110].contains (o % 4096) then .next s
  else s.pageWrite (64 * f + (o - 0x1000000) / 4096) (o % 4096) v

/-- A write of an aligned 8-byte word of the register window (14 R296). A write whose register has an event of its own acts as that
event; offsets not listed ignore it. -/
def State.windowWrite (s : State) (offset : Nat) (value : BitVec 64) : Host.Outcome State Fault Refusal :=
  if 0x100 ≤ offset && offset < 0x128 then .next (s.keepPlain offset value)
  else if offset = 0x128 then
    (if value = 1 then
      execAttestation (BitVec.ofNat 256 ((List.range 4).foldr (fun k x => (lookup 0 s.window.plain (0x100 + 8 * k)).toNat + 2 ^ 64 * x) 0))
        (lookup 0 s.window.plain 0x120) s
     else .next s)
  else if offset = 0x1000 then
    (let s1 := s.modSupply (fun p => { p with keep := value.setWidth 16 ||| 1 })
     if value.getLsbD 16 then execHibreq s1 else .next s1)
  else if offset = 0x1008 then execTickperWrite value s
  else if offset = 0x2000 then .next { s with window := { s.window with sdaddr := value } }
  else if offset = 0x2008 then .next { s with window := { s.window with sdlen := value } }
  else if offset = 0x2010 then execShootdown s.window.sdaddr s.window.sdlen value s
  else if offset = 0x3000 then .next (s.faultRead value.toNat)
  else if offset = 0x3018 then execBloomClear value.toNat s
  else if 0x100000 ≤ offset && offset < 0x110000 then s.contextWrite offset value
  else if 0x200000 ≤ offset && offset < 0x210000 then
    .next (s.powerWrite ((offset - 0x200000) / 4096) ((offset - 0x200000) % 4096) value)
  else if 0x300000 ≤ offset && offset < 0x340000 then s.groupWrite offset value
  else if 0x1000000 ≤ offset && offset < 0x1000000 + 0x40000 * 65 then
    s.pageWrite ((offset - 0x1000000) / 4096) ((offset - 0x1000000) % 4096) value
  else .next s

/-- An access completes: 4 or 8 bytes, naturally aligned, in the BAR0 of a function that there is (14 R295). -/
def barOk (a : BarAccess) : Bool := (a.bytes = 4 || a.bytes = 8) && a.off % a.bytes = 0 && a.off < 2 ^ 26 && a.func ≤ 64

/-- The aligned word that holds an offset of a function's BAR0. -/
def State.barWord (s : State) (func off : Nat) : Word :=
  if func = 0 then s.windowRead (off - off % 8) else s.functionRead func (off - off % 8)

/-- What a read gives; none where it completes as Unsupported Request (14 R295). -/
def State.barRead (s : State) (a : BarAccess) : Option Word :=
  if barOk a then
    let w := s.barWord a.func a.off
    some (if a.bytes = 8 then w else (w >>> (8 * (a.off % 8))) &&& 0xFFFFFFFF)
  else none

/-- The word that a write stores: one of 4 bytes leaves the other half as it reads (log 69). -/
def State.barMerge (s : State) (a : BarAccess) (v : Word) : Word :=
  if a.bytes = 8 then v
  else
    let sh := 8 * (a.off % 8)
    let m : Word := 0xFFFFFFFF <<< sh
    (s.barWord a.func a.off &&& ~~~m) ||| ((v <<< sh) &&& m)

/-- REGISTER_WRITE (14 R295, R296): any access but those of 4 or 8 bytes, naturally aligned, completes as Unsupported Request and has no
effect. -/
def execRegisterWrite (a : BarAccess) (value : BitVec 64) (s : State) : Host.Outcome State Fault Refusal :=
  if !barOk a then .next s
  else
    let v := s.barMerge a value
    if a.func = 0 then s.windowWrite (a.off - a.off % 8) v else s.functionWrite a.func (a.off - a.off % 8) v

end Sys2Proof.Machine
end

