-- ==== Sys2Proof/Machine/Dispatch.lean ====
section
/-! DEFINITION. Which meaning each instruction and event has: one arm per constructor of Instr. -/

namespace Sys2Proof.Machine

def exec (i : Instr) (s : State) : Host.Outcome State Fault Refusal :=
  match i with
  | .add d a b => Sys2Proof.Machine.execAdd d a b s
  | .sub d a b => Sys2Proof.Machine.execSub d a b s
  | .mul d a b => Sys2Proof.Machine.execMul d a b s
  | .mulhiS d a b => Sys2Proof.Machine.execMulhiS d a b s
  | .mulhiU d a b => Sys2Proof.Machine.execMulhiU d a b s
  | .divS d a b => Sys2Proof.Machine.execDivS d a b s
  | .divU d a b => Sys2Proof.Machine.execDivU d a b s
  | .remS d a b => Sys2Proof.Machine.execRemS d a b s
  | .remU d a b => Sys2Proof.Machine.execRemU d a b s
  | .land d a b => Sys2Proof.Machine.execLand d a b s
  | .lor d a b => Sys2Proof.Machine.execLor d a b s
  | .lxor d a b => Sys2Proof.Machine.execLxor d a b s
  | .andn d a b => Sys2Proof.Machine.execAndn d a b s
  | .shl d a b => Sys2Proof.Machine.execShl d a b s
  | .shr d a b => Sys2Proof.Machine.execShr d a b s
  | .sar d a b => Sys2Proof.Machine.execSar d a b s
  | .rotl d a b => Sys2Proof.Machine.execRotl d a b s
  | .minS d a b => Sys2Proof.Machine.execMinS d a b s
  | .minU d a b => Sys2Proof.Machine.execMinU d a b s
  | .maxS d a b => Sys2Proof.Machine.execMaxS d a b s
  | .maxU d a b => Sys2Proof.Machine.execMaxU d a b s
  | .cmpEq d a b => Sys2Proof.Machine.execCmpEq d a b s
  | .cmpNe d a b => Sys2Proof.Machine.execCmpNe d a b s
  | .cmpLt d a b => Sys2Proof.Machine.execCmpLt d a b s
  | .cmpLe d a b => Sys2Proof.Machine.execCmpLe d a b s
  | .cmpLtu d a b => Sys2Proof.Machine.execCmpLtu d a b s
  | .cmpLeu d a b => Sys2Proof.Machine.execCmpLeu d a b s
  | .cmpiEq d a imm => Sys2Proof.Machine.execCmpiEq d a imm s
  | .cmpiNe d a imm => Sys2Proof.Machine.execCmpiNe d a imm s
  | .cmpiLt d a imm => Sys2Proof.Machine.execCmpiLt d a imm s
  | .cmpiLe d a imm => Sys2Proof.Machine.execCmpiLe d a imm s
  | .cmpiLtu d a imm => Sys2Proof.Machine.execCmpiLtu d a imm s
  | .cmpiLeu d a imm => Sys2Proof.Machine.execCmpiLeu d a imm s
  | .sel d a b c => Sys2Proof.Machine.execSel d a b c s
  | .addi d a imm => Sys2Proof.Machine.execAddi d a imm s
  | .li d imm => Sys2Proof.Machine.execLi d imm s
  | .lih d imm => Sys2Proof.Machine.execLih d imm s
  | .clz d a => Sys2Proof.Machine.execClz d a s
  | .popc d a => Sys2Proof.Machine.execPopc d a s
  | .bitrev d a => Sys2Proof.Machine.execBitrev d a s
  | .crc32 d a b => Sys2Proof.Machine.execCrc32 d a b s
  | .extr d a pos len => Sys2Proof.Machine.execExtr d a pos len s
  | .ins d a pos len => Sys2Proof.Machine.execIns d a pos len s
  | .brZ a off => Sys2Proof.Machine.execBrZ a off s
  | .brNz a off => Sys2Proof.Machine.execBrNz a off s
  | .brLtz a off => Sys2Proof.Machine.execBrLtz a off s
  | .brGez a off => Sys2Proof.Machine.execBrGez a off s
  | .jmp off => Sys2Proof.Machine.execJmp off s
  | .call off => Sys2Proof.Machine.execCall off s
  | .ret => Sys2Proof.Machine.execRet s
  | .loop a len => Sys2Proof.Machine.execLoop a len s
  | .loopi imm len => Sys2Proof.Machine.execLoopi imm len s
  | .lbrk => Sys2Proof.Machine.execLbrk s
  | .mfsr d sno => Sys2Proof.Machine.execMfsr d sno s
  | .mtsr a sno => Sys2Proof.Machine.execMtsr a sno s
  | .slack imm => Sys2Proof.Machine.execSlack imm s
  | .trap imm => Sys2Proof.Machine.execTrap imm s
  | .endUnit => Sys2Proof.Machine.execEndUnit s
  | .rft => Sys2Proof.Machine.execRft s
  | .setx a sno => Sys2Proof.Machine.execSetx a sno s
  | .getx d sno => Sys2Proof.Machine.execGetx d sno s
  | .vadd f => Sys2Proof.Machine.execVadd f s
  | .vsub f => Sys2Proof.Machine.execVsub f s
  | .vmul f => Sys2Proof.Machine.execVmul f s
  | .vfma f => Sys2Proof.Machine.execVfma f s
  | .vfms f => Sys2Proof.Machine.execVfms f s
  | .vdiv f => Sys2Proof.Machine.execVdiv f s
  | .vmin f => Sys2Proof.Machine.execVmin f s
  | .vmax f => Sys2Proof.Machine.execVmax f s
  | .vabs f => Sys2Proof.Machine.execVabs f s
  | .vneg f => Sys2Proof.Machine.execVneg f s
  | .vcpsgn f => Sys2Proof.Machine.execVcpsgn f s
  | .vscal f => Sys2Proof.Machine.execVscal f s
  | .vrnd f => Sys2Proof.Machine.execVrnd f s
  | .vrcp f => Sys2Proof.Machine.execVrcp f s
  | .vrsq f => Sys2Proof.Machine.execVrsq f s
  | .vsqrt f => Sys2Proof.Machine.execVsqrt f s
  | .vexp2 f => Sys2Proof.Machine.execVexp2 f s
  | .vlog2 f => Sys2Proof.Machine.execVlog2 f s
  | .vtanh f => Sys2Proof.Machine.execVtanh f s
  | .vcmpEq f => Sys2Proof.Machine.execVcmpEq f s
  | .vcmpNe f => Sys2Proof.Machine.execVcmpNe f s
  | .vcmpLt f => Sys2Proof.Machine.execVcmpLt f s
  | .vcmpLe f => Sys2Proof.Machine.execVcmpLe f s
  | .vcmpGt f => Sys2Proof.Machine.execVcmpGt f s
  | .vcmpGe f => Sys2Proof.Machine.execVcmpGe f s
  | .viadd f => Sys2Proof.Machine.execViadd f s
  | .visub f => Sys2Proof.Machine.execVisub f s
  | .vimul f => Sys2Proof.Machine.execVimul f s
  | .vimad f => Sys2Proof.Machine.execVimad f s
  | .vimin f => Sys2Proof.Machine.execVimin f s
  | .vimax f => Sys2Proof.Machine.execVimax f s
  | .vavg f => Sys2Proof.Machine.execVavg f s
  | .vicmpEq f => Sys2Proof.Machine.execVicmpEq f s
  | .vicmpNe f => Sys2Proof.Machine.execVicmpNe f s
  | .vicmpLt f => Sys2Proof.Machine.execVicmpLt f s
  | .vicmpLe f => Sys2Proof.Machine.execVicmpLe f s
  | .vicmpLtu f => Sys2Proof.Machine.execVicmpLtu f s
  | .vicmpLeu f => Sys2Proof.Machine.execVicmpLeu f s
  | .vand f => Sys2Proof.Machine.execVand f s
  | .vor f => Sys2Proof.Machine.execVor f s
  | .vxor f => Sys2Proof.Machine.execVxor f s
  | .vshl f => Sys2Proof.Machine.execVshl f s
  | .vshr f => Sys2Proof.Machine.execVshr f s
  | .vsar f => Sys2Proof.Machine.execVsar f s
  | .vclz f => Sys2Proof.Machine.execVclz f s
  | .vpopc f => Sys2Proof.Machine.execVpopc f s
  | .vsel f => Sys2Proof.Machine.execVsel f s
  | .vclamp f => Sys2Proof.Machine.execVclamp f s
  | .vcvt f => Sys2Proof.Machine.execVcvt f s
  | .vqnt f => Sys2Proof.Machine.execVqnt f s
  | .vdqn f => Sys2Proof.Machine.execVdqn f s
  | .vcmpr f => Sys2Proof.Machine.execVcmpr f s
  | .vmov f => Sys2Proof.Machine.execVmov f s
  | .vfill f => Sys2Proof.Machine.execVfill f s
  | .vbcs f => Sys2Proof.Machine.execVbcs f s
  | .vperm f => Sys2Proof.Machine.execVperm f s
  | .vsld f => Sys2Proof.Machine.execVsld f s
  | .vzip f => Sys2Proof.Machine.execVzip f s
  | .vunz f => Sys2Proof.Machine.execVunz f s
  | .vrsum f => Sys2Proof.Machine.execVrsum f s
  | .vrmax f => Sys2Proof.Machine.execVrmax f s
  | .vrmin f => Sys2Proof.Machine.execVrmin f s
  | .tcsum f => Sys2Proof.Machine.execTcsum f s
  | .tcmax f => Sys2Proof.Machine.execTcmax f s
  | .tcrd t v idx => Sys2Proof.Machine.execTcrd t v idx s
  | .tcwr t v idx => Sys2Proof.Machine.execTcwr t v idx s
  | .ttrn t ta => Sys2Proof.Machine.execTtrn t ta s
  | .tcfg t rows rowb fmt => Sys2Proof.Machine.execTcfg t rows rowb fmt s
  | .trel t => Sys2Proof.Machine.execTrel t s
  | .vcrc f => Sys2Proof.Machine.execVcrc f s
  | .mcfg f => Sys2Proof.Machine.execMcfg f s
  | .mscl f => Sys2Proof.Machine.execMscl f s
  | .mlds f => Sys2Proof.Machine.execMlds f s
  | .mldsT f => Sys2Proof.Machine.execMldsT f s
  | .mldsh f => Sys2Proof.Machine.execMldsh f s
  | .mldsp f => Sys2Proof.Machine.execMldsp f s
  | .mswp f => Sys2Proof.Machine.execMswp f s
  | .mstr f => Sys2Proof.Machine.execMstr f s
  | .mstrT f => Sys2Proof.Machine.execMstrT f s
  | .mstrh f => Sys2Proof.Machine.execMstrh f s
  | .mgrp f => Sys2Proof.Machine.execMgrp f s
  | .msps f => Sys2Proof.Machine.execMsps f s
  | .mza f => Sys2Proof.Machine.execMza f s
  | .mwra f => Sys2Proof.Machine.execMwra f s
  | .mrda f => Sys2Proof.Machine.execMrda f s
  | .mrds f => Sys2Proof.Machine.execMrds f s
  | .mcan f => Sys2Proof.Machine.execMcan f s
  | .ldB f => Sys2Proof.Machine.execLdB f s
  | .ldBu f => Sys2Proof.Machine.execLdBu f s
  | .ldH f => Sys2Proof.Machine.execLdH f s
  | .ldHu f => Sys2Proof.Machine.execLdHu f s
  | .ldW f => Sys2Proof.Machine.execLdW f s
  | .ldWu f => Sys2Proof.Machine.execLdWu f s
  | .ldD f => Sys2Proof.Machine.execLdD f s
  | .vld f => Sys2Proof.Machine.execVld f s
  | .vlds f => Sys2Proof.Machine.execVlds f s
  | .vldb f => Sys2Proof.Machine.execVldb f s
  | .tld f => Sys2Proof.Machine.execTld f s
  | .thdl f => Sys2Proof.Machine.execThdl f s
  | .ldb f => Sys2Proof.Machine.execLdb f s
  | .pld f => Sys2Proof.Machine.execPld f s
  | .take f => Sys2Proof.Machine.execTake f s
  | .peek f => Sys2Proof.Machine.execPeek f s
  | .stB f => Sys2Proof.Machine.execStB f s
  | .stH f => Sys2Proof.Machine.execStH f s
  | .stW f => Sys2Proof.Machine.execStW f s
  | .stD f => Sys2Proof.Machine.execStD f s
  | .vst f => Sys2Proof.Machine.execVst f s
  | .vsts f => Sys2Proof.Machine.execVsts f s
  | .tst f => Sys2Proof.Machine.execTst f s
  | .lbf f => Sys2Proof.Machine.execLbf f s
  | .putf f => Sys2Proof.Machine.execPutf f s
  | .aadd f => Sys2Proof.Machine.execAadd f s
  | .aminS f => Sys2Proof.Machine.execAminS f s
  | .aminU f => Sys2Proof.Machine.execAminU f s
  | .amaxS f => Sys2Proof.Machine.execAmaxS f s
  | .amaxU f => Sys2Proof.Machine.execAmaxU f s
  | .aand f => Sys2Proof.Machine.execAand f s
  | .aor f => Sys2Proof.Machine.execAor f s
  | .axor f => Sys2Proof.Machine.execAxor f s
  | .aswp f => Sys2Proof.Machine.execAswp f s
  | .acas f => Sys2Proof.Machine.execAcas f s
  | .afadd f => Sys2Proof.Machine.execAfadd f s
  | .afmin f => Sys2Proof.Machine.execAfmin f s
  | .afmax f => Sys2Proof.Machine.execAfmax f s
  | .cpy f => Sys2Proof.Machine.execCpy f s
  | .cpy2 f => Sys2Proof.Machine.execCpy2 f s
  | .cpyt f => Sys2Proof.Machine.execCpyt f s
  | .cpym f => Sys2Proof.Machine.execCpym f s
  | .cpyk f => Sys2Proof.Machine.execCpyk f s
  | .cpyc f => Sys2Proof.Machine.execCpyc f s
  | .cpya f => Sys2Proof.Machine.execCpya f s
  | .cpyg f => Sys2Proof.Machine.execCpyg f s
  | .cpys f => Sys2Proof.Machine.execCpys f s
  | .cpyf f => Sys2Proof.Machine.execCpyf f s
  | .pref f => Sys2Proof.Machine.execPref f s
  | .collRs f => Sys2Proof.Machine.execCollRs f s
  | .collAg f => Sys2Proof.Machine.execCollAg f s
  | .collAr f => Sys2Proof.Machine.execCollAr f s
  | .collBc f => Sys2Proof.Machine.execCollBc f s
  | .spill f => Sys2Proof.Machine.execSpill f s
  | .fill f => Sys2Proof.Machine.execFill f s
  | .zfill f => Sys2Proof.Machine.execZfill f s
  | .ccan f => Sys2Proof.Machine.execCcan f s
  | .fence cmask scope => Sys2Proof.Machine.execFence cmask scope s
  | .ownE sa sl => Sys2Proof.Machine.execOwnE sa sl s
  | .ownP sa sl => Sys2Proof.Machine.execOwnP sa sl s
  | .wchk m sm => Sys2Proof.Machine.execWchk m sm s
  | .weng eng => Sys2Proof.Machine.execWeng eng s
  | .bar sa sn oc => Sys2Proof.Machine.execBar sa sn oc s
  | .barc sa sn oc => Sys2Proof.Machine.execBarc sa sn oc s
  | .sig sa sv oc d => Sys2Proof.Machine.execSig sa sv oc d s
  | .wsig sa sv oc d mode => Sys2Proof.Machine.execWsig sa sv oc d mode s
  | .wsiga sa sv oc d mode => Sys2Proof.Machine.execWsiga sa sv oc d mode s
  | .tickw sv => Sys2Proof.Machine.execTickw sv s
  | .yield => Sys2Proof.Machine.execYield s
  | .alloc d sz lf h st k => Sys2Proof.Machine.execAlloc d sz lf h st k s
  | .free sa => Sys2Proof.Machine.execFree sa s
  | .renew sa => Sys2Proof.Machine.execRenew sa s
  | .mark sa tag => Sys2Proof.Machine.execMark sa tag s
  | .hint sa => Sys2Proof.Machine.execHint sa s
  | .hibq d which => Sys2Proof.Machine.execHibq d which s
  | .qbind q sc fmt => Sys2Proof.Machine.execQbind q sc fmt s
  | .emptyBundle p wait pop => Sys2Proof.Machine.execEmptyBundle p wait pop s
  | .resultLanding err => Sys2Proof.Machine.execResultLanding err s
  | .scoreboardLanding k => Sys2Proof.Machine.execScoreboardLanding k s
  | .quantumExpiry => Sys2Proof.Machine.execQuantumExpiry s
  | .slackExhausted => Sys2Proof.Machine.execSlackExhausted s
  | .watchdogExpiry => Sys2Proof.Machine.execWatchdogExpiry s
  | .softStop => Sys2Proof.Machine.execSoftStop s
  | .debugStop launch rank => Sys2Proof.Machine.execDebugStop launch rank s
  | .resume launch rank place => Sys2Proof.Machine.execResume launch rank place s
  | .unitEnded => Sys2Proof.Machine.execUnitEnded s
  | .allocExpiry => Sys2Proof.Machine.execAllocExpiry s
  | .retnChange die retn => Sys2Proof.Machine.execRetnChange die retn s
  | .latchHeadFetch q => Sys2Proof.Machine.execLatchHeadFetch q s
  | .matrixAccept => Sys2Proof.Machine.execMatrixAccept s
  | .matrixStep load err => Sys2Proof.Machine.execMatrixStep load err s
  | .matrixComplete load => Sys2Proof.Machine.execMatrixComplete load s
  | .bandGate band => Sys2Proof.Machine.execBandGate band s
  | .bandWake => Sys2Proof.Machine.execBandWake s
  | .copyAccept => Sys2Proof.Machine.execCopyAccept s
  | .copyChunk k chunk err => Sys2Proof.Machine.execCopyChunk k chunk err s
  | .copyComplete k => Sys2Proof.Machine.execCopyComplete k s
  | .engineStopTimeout => Sys2Proof.Machine.execEngineStopTimeout s
  | .collSend g => Sys2Proof.Machine.execCollSend g s
  | .collMessage g step data => Sys2Proof.Machine.execCollMessage g step data s
  | .collComplete g err => Sys2Proof.Machine.execCollComplete g err s
  | .fabricRequest port flit => Sys2Proof.Machine.execFabricRequest port flit s
  | .fabricData port flit => Sys2Proof.Machine.execFabricData port flit s
  | .holdFlit g step => Sys2Proof.Machine.execHoldFlit g step s
  | .nackFlit tag wait => Sys2Proof.Machine.execNackFlit tag wait s
  | .hibnFlit g step => Sys2Proof.Machine.execHibnFlit g step s
  | .rejoinFlit g step => Sys2Proof.Machine.execRejoinFlit g step s
  | .retryResend => Sys2Proof.Machine.execRetryResend s
  | .linkLost port => Sys2Proof.Machine.execLinkLost port s
  | .linkRetrainTimeout port => Sys2Proof.Machine.execLinkRetrainTimeout port s
  | .shootdownMulticast port src ctx base len => Sys2Proof.Machine.execShootdownMulticast port src ctx base len s
  | .shootdownAck ack => Sys2Proof.Machine.execShootdownAck ack s
  | .shootdownTimeout modid => Sys2Proof.Machine.execShootdownTimeout modid s
  | .requestAging => Sys2Proof.Machine.execRequestAging s
  | .scrubWriteback addr => Sys2Proof.Machine.execScrubWriteback addr s
  | .llcLineError line slice way dirty => Sys2Proof.Machine.execLlcLineError line slice way dirty s
  | .dieFence cause => Sys2Proof.Machine.execDieFence cause s
  | .dieLinkTimeout die => Sys2Proof.Machine.execDieLinkTimeout die s
  | .dieRejoin die => Sys2Proof.Machine.execDieRejoin die s
  | .thermalTrip die => Sys2Proof.Machine.execThermalTrip die s
  | .pageRetirement page spare => Sys2Proof.Machine.execPageRetirement page spare s
  | .clusterGate die cluster => Sys2Proof.Machine.execClusterGate die cluster s
  | .clusterPowerDown die cluster => Sys2Proof.Machine.execClusterPowerDown die cluster s
  | .clusterUngate die cluster => Sys2Proof.Machine.execClusterUngate die cluster s
  | .placement die => Sys2Proof.Machine.execPlacement die s
  | .drainTimeout die => Sys2Proof.Machine.execDrainTimeout die s
  | .tickBoundary => Sys2Proof.Machine.execTickBoundary s
  | .predecessorRelease launch => Sys2Proof.Machine.execPredecessorRelease launch s
  | .nopPacket q => Sys2Proof.Machine.execNopPacket q s
  | .slotLoad q => Sys2Proof.Machine.execSlotLoad q s
  | .slotEvict q => Sys2Proof.Machine.execSlotEvict q s
  | .invoke q => Sys2Proof.Machine.execInvoke q s
  | .invokeTick q => Sys2Proof.Machine.execInvokeTick q s
  | .mboxPut q => Sys2Proof.Machine.execMboxPut q s
  | .mboxTake q => Sys2Proof.Machine.execMboxTake q s
  | .signalPacket q => Sys2Proof.Machine.execSignalPacket q s
  | .waitAll q => Sys2Proof.Machine.execWaitAll q s
  | .waitAny q => Sys2Proof.Machine.execWaitAny q s
  | .phaseOpen q => Sys2Proof.Machine.execPhaseOpen q s
  | .phaseClose q => Sys2Proof.Machine.execPhaseClose q s
  | .cancelPacket q => Sys2Proof.Machine.execCancelPacket q s
  | .hibList q => Sys2Proof.Machine.execHibList q s
  | .queueResume q => Sys2Proof.Machine.execQueueResume q s
  | .wridxWrite q value => Sys2Proof.Machine.execWridxWrite q value s
  | .statusWrite q value => Sys2Proof.Machine.execStatusWrite q value s
  | .rdidxWrite q value => Sys2Proof.Machine.execRdidxWrite q value s
  | .queueBind q value => Sys2Proof.Machine.execQueueBind q value s
  | .queueUnbind q => Sys2Proof.Machine.execQueueUnbind q s
  | .qprioWrite q prio => Sys2Proof.Machine.execQprioWrite q prio s
  | .contextCreate ctx entry => Sys2Proof.Machine.execContextCreate ctx entry s
  | .contextRelease ctx => Sys2Proof.Machine.execContextRelease ctx s
  | .shootdown base len ctl => Sys2Proof.Machine.execShootdown base len ctl s
  | .tickperWrite value => Sys2Proof.Machine.execTickperWrite value s
  | .hibreq => Sys2Proof.Machine.execHibreq s
  | .flushWrite => Sys2Proof.Machine.execFlushWrite s
  | .attestation nonce buffer => Sys2Proof.Machine.execAttestation nonce buffer s
  | .bloomClear channel => Sys2Proof.Machine.execBloomClear channel s
  | .groupCreate entry => Sys2Proof.Machine.execGroupCreate entry s
  | .groupDissolve g => Sys2Proof.Machine.execGroupDissolve g s
  | .registerWrite offset value => Sys2Proof.Machine.execRegisterWrite offset value s
  | .warnEntry => Sys2Proof.Machine.execWarnEntry s
  | .warnExit => Sys2Proof.Machine.execWarnExit s
  | .b1Entry => Sys2Proof.Machine.execB1Entry s
  | .b1Exit => Sys2Proof.Machine.execB1Exit s
  | .b2Entry cause => Sys2Proof.Machine.execB2Entry cause s
  | .park => Sys2Proof.Machine.execPark s
  | .drain => Sys2Proof.Machine.execDrain s
  | .seal => Sys2Proof.Machine.execSeal s
  | .powerOff => Sys2Proof.Machine.execPowerOff s
  | .warmResume => Sys2Proof.Machine.execWarmResume s
  | .coldBoot => Sys2Proof.Machine.execColdBoot s
  | .budgetRecompute budget => Sys2Proof.Machine.execBudgetRecompute budget s
  | .heartbeat => Sys2Proof.Machine.execHeartbeat s
  | .heartbeatMiss => Sys2Proof.Machine.execHeartbeatMiss s
  | .currentSample die cluster value => Sys2Proof.Machine.execCurrentSample die cluster value s
  | .wearUpdate die cluster weight => Sys2Proof.Machine.execWearUpdate die cluster weight s
  | .clockChange die mhz retn => Sys2Proof.Machine.execClockChange die mhz retn s
  | .bootLevelRise dies => Sys2Proof.Machine.execBootLevelRise dies s
  | .firmwareUpdate image => Sys2Proof.Machine.execFirmwareUpdate image s
  | .writePerforms k => Sys2Proof.Machine.execWritePerforms k s
  | .portRetrained port => Sys2Proof.Machine.execPortRetrained port s
  | .baseDieFault die => Sys2Proof.Machine.execBaseDieFault die s
  | .llcWayReenable slice way => Sys2Proof.Machine.execLlcWayReenable slice way s
  | .termination launch rank => Sys2Proof.Machine.execTermination launch rank s

end Sys2Proof.Machine
end

