-- ==== Sys2Proof/Machine/Schedule.lean ====
section
/-! DEFINITION. What happens next (log 20, 22, 23): events that the world outside brings, requests served at their homes, the
events of the module whose time has come, those without a stated time, and the turns of the strands, one cycle of every die
for each round of them. -/

namespace Sys2Proof.Machine

/-! Events from outside. -/

/-- The first event of the agenda, once its time has come, and the state without it. -/
def State.arrival (s : State) : Option (Instr × State) :=
  match s.agenda with
  | [] => none
  | (t, i) :: r => if t ≤ s.clock then some (i, { s with agenda := r }) else none

/-! Requests served at their homes (09 R207 to R211). -/

/-- A request that its home can serve now. The unit's bundle issues when the selector next gives its strand issue (01 R20). -/
def State.servable (s : State) (x : Waiter) : Bool :=
  x.served.isNone && !Memory.bad (s.mem.eccOf x.addr) &&
  (match x.wait with
    | .take => s.mem.isFull x.addr
    | .putf _ => !s.mem.isFull x.addr
    | .bar _ _ => s.released x
    | _ => false)

/-- The first request that can be served, in the order of their arrival, whatever its unit does meanwhile (09 R208). -/
def State.served (s : State) : Option State :=
  (s.waiters.find? s.servable).map (fun x =>
    if x.who.launch = 0 then s.serveBox x else s.atUnit x.who (fun s => s.serveOne x))

/-- The last bundle of a strand whose stop waits for it issues at once, and then the stop is taken (11 R245 step 3). -/
def State.issueLate (run : Instr → State → Host.Outcome State Fault Refusal) (s : State) (p : Place) :
    Host.Outcome State Fault Refusal :=
  let q := s.u.place
  let s1 := s.focus p
  match s1.fetch with
  | .error _ => .next (s1.lateStop.focus q)
  | .ok b => match s1.issueBundle run (Header.ofBundle b) (bundleSlots b) with
    | .next t => .next (t.lateStop.focus q)
    | o => o

/-! Events whose time has come. -/

/-- An answer that lands no later than its instruction's bound: ALLOC's in 8 cycles, HIBQ's in 64 (15 R322, R339). -/
def State.answerDue (s : State) : Option Nat :=
  s.u.accs.findIdx? (fun a => match a.act with
    | .granted _ _ => a.issued + 8 ≤ s.now
    | .hibq _ _ => a.issued + 64 ≤ s.now
    | _ => false)

/-- The waiting bands of the core in front are awake. -/
def State.wakeDue (s : State) : Bool :=
  match s.core.matrix.waking, s.core.matrix.waiting with
  | some t, some _ => t ≤ s.now
  | _, _ => false

/-- A result lands with a fault in the cycle in which the array accepts a command of the unit: whichever instruction issued first is
recorded (11 R246), so the acceptance comes before the landing. -/
def State.acceptFirst (s : State) : Bool :=
  s.u.flights.any (fun f => f.land ≤ s.now && (f.fault.isSome || f.flags ≠ 0)) && (s.wakeDue || s.mAccepts) &&
    (match s.core.matrix.waiting with | some c => decide (c.who = s.u.who) | none => false)

/-- Of the strand in front. -/
def State.strandDue (s : State) : Option State :=
  if s.u.dueNow s.now then
    some (if s.acceptFirst then (if s.wakeDue then s.bandWake else s.matrixAccept) else s.resultLanding none)
  else if s.answerDue.isSome then s.answerDue.map s.performOne
  else if s.watchdogDue then some s.forcedStop
  else if s.settleDue then some s.softStop
  else if s.u.trap.soft ≠ 0 && s.softDue then some s.softStop
  else if s.endDone then some s.unitEnded
  else if s.agingDue then some s.ageRequests
  else match s.u.trap.settle with
    | none => none
    | some f => if f + Config.engineStop ≤ s.now && !(s.core.copiesOf s.u.who).isEmpty then some s.engineStopTimeout else none

/-- A band of the core in front gates now. -/
def State.gateDue (s : State) : Option Nat :=
  if s.core.matrix.gated.length = 4 then none
  else [0, 1, 2, 3].find? (fun b => ((s.bandGate b).core.matrix.gated.contains b) && !s.core.matrix.gated.contains b)

/-- Of the other strands of the core in front: their results land before any strand of it takes its turn. -/
def State.peersDue (s : State) : Option State :=
  let others := s.strands.filter (fun u => Place.sameCore u.place s.u.place && u.st.onStrand)
  others.findSome? (fun u => ((s.focus u.place).strandDue).map (fun t => t.focus s.u.place))

/-- Of the core in front. -/
def State.coreDue (s : State) : Option State :=
  if s.expiryDue then some s.expireAllocs
  else if s.wakeDue then some s.bandWake
  else if s.mAccepts then some s.matrixAccept
  else s.gateDue.map s.bandGate

/-- Of the module. -/
def State.moduleDue (s : State) : Option State :=
  match s.allDies.find? (fun d => d.fwFault) with
  | some d => some (s.fence d.num true)
  | none =>
    if s.tickDue then some s.tickBoundary
    else if s.beatMissed then some s.missBeat
    else match (List.range s.fabric.ports.length).find? (fun p => !s.portUp p && !(s.portWaits p).isEmpty) with
      | some p => some (s.linkRetrainTimeout p)
      | none => match s.lateModule with
        | some m => some (s.shootdownTimeout m)
        | none =>
          if !s.resendDue.isEmpty then some s.retryResend
          else (s.allDies.find? (fun d => !d.drains.isEmpty && (s.drainDue d.num).isSome)).map (fun d => s.drainTimeout d.num)

/-- The first event that is due. -/
def State.due (s : State) : Option State :=
  match s.strandDue with
  | some t => some t
  | none => match s.peersDue with
    | some t => some t
    | none => match s.coreDue with
      | some t => some t
      | none => s.moduleDue

/-! Events without a stated time: the manual says that they come, not when (log 23). -/

/-- Accesses and latches of the strand in front (09 R196, 16 R363). -/
def State.strandReady (s : State) : List (State → State) :=
  ((List.range s.u.accs.length).filter (fun k => s.eligible k &&
    (match s.u.accs[k]? with | some a => s.goes (s.accReq a) | none => false))).map (fun k s => s.performOne k) ++
  (s.latchesReady.filter (fun q => s.goes (s.latchReq q))).map (fun q s => (s.latchStep q).getD s)

/-- Whether a command of the unit in front is complete, and whether its next step may begin (08 R181, R183). -/
def State.mDone (s : State) (load : Bool) : Bool :=
  match s.core.matrix.runningOf load with
  | none => false
  | some c => decide (c.who = s.u.who) && c.steps ≤ c.next && c.began + c.minCycles ≤ s.now
def State.mSteps (s : State) (load : Bool) : Bool :=
  match s.stepReady load with
  | none => false
  | some c => (s.matrixReqs c).all s.goes

/-- The array's next actions for the unit in front. -/
def State.matrixReady (s : State) : List (State → State) :=
  if s.core.matrix.buf.isEmpty then []
  else
    ([true, false].filter s.mDone).map (fun b s => s.matrixComplete b) ++
    ([true, false].filter s.mSteps).map (fun b s => s.matrixStep b none)

/-- A copy that has moved everything can complete: the follow-on command of CPYM waits for a place (08 R187). -/
def State.copyEnds (s : State) (c : CCmd) : Bool :=
  c.running && !c.coll && c.todo.isEmpty && decide (c.who = s.u.who) && s.signalMay c &&
    !(c.op = 4 && c.code.isNone && !s.followBad c && mOp c.mword ≠ 0x11 &&
      Config.bufferEntries ≤ s.core.matrix.buf.length)
def State.copyTakes (s : State) (c : CCmd) : Bool :=
  decide (c.who = s.u.who) && !s.heldAtBl1 c && (c.coll || s.core.runningCopies < Config.runningCopies)

/-- The copy engine's next actions for the unit in front (08 R185). -/
def State.copyReady (s : State) : List (State → State) :=
  if s.core.cbuf.isEmpty then []
  else
    let at' (k : Nat) (f : CCmd → Bool) : Bool := match s.core.cbuf[k]? with | some c => f c | none => false
    let ks := List.range s.core.cbuf.length
    (ks.filter (fun k => at' k s.copyEnds)).map (fun k s => s.copyComplete k) ++
    (s.chunksReady.filter (fun (_, c, n) => s.goes (s.chunkReq c n))).map (fun (k, _, n) s => s.copyChunk k n none) ++
    (match s.core.waitingCopy with
      | some c => if s.copyTakes c then [State.copyAccept] else []
      | none => [])

/-- The next part of a power-fail (12 R270). -/
def State.b2Ready (s : State) : List (State → State) :=
  if !s.supply.b2 then []
  else match s.supply.stage with
    | 1 => if s.allStopped then [State.park] else []
    | 2 => [if s.imageUnused then State.openSwitch else State.drain]
    | 3 => if s.nextRegion.isSome then (if s.drainReq.all s.goes then [State.drain] else []) else [State.seal]
    | 4 => [State.openSwitch]
    | _ => []

/-- The group's next command may be served at its channels (07 R171). -/
def State.collGoes (s : State) (g : Nat) : Bool :=
  match s.collFront g with
  | none => true
  | some c => match s.strandOf c.who with
    | none => true
    | some u => s.goes ((s.focus u.place).collReq c)

/-- The module's: groups, queues, launches, placements, shoot-downs, scrubs and the supply. -/
def State.moduleReady (s : State) : List (State → State) :=
  (((s.fabric.groups.map (fun x => x.entry.group)).filter (fun g => s.collSendDue g && s.collGoes g)).map (fun g s => s.collSend g)) ++
  (((s.fabric.groups.map (fun x => x.entry.group)).filter (fun g => s.collDue g && s.collGoes g)).map (fun g s => s.collComplete g none)) ++
  (((s.work.queues.map Queue.page).filter (fun p => (s.packetStep p).isSome)).map (fun p s => (s.packetStep p).getD s)) ++
  (((s.work.launches.filter s.predDone).map Launch.uid).map (fun l s => s.predecessorRelease l)) ++
  (((s.allDies.map Die.num).filter (fun d => (s.place d).isSome)).map (fun d s => (s.place d).getD s)) ++
  (if s.shootStep.isSome then [fun s => (s.shootStep).getD s] else []) ++
  (s.adoptions.map (fun (p, d) s => s.adopt p d)) ++ (s.regrantDue.map (fun c s => s.regrantLeases c)) ++
  ((s.errs.scrubs.filter (fun x => s.goes (s.scrubReq x))).map (fun x s => s.scrub x.1)) ++
  (if s.b1Step.isSome then [fun s => (s.b1Step).getD s] else []) ++
  s.b2Ready

def State.ready (s : State) : List (State → State) := s.strandReady ++ s.matrixReady ++ s.copyReady ++ s.moduleReady

/-- While something can happen at no stated time, `lull` counts a freely drawn number of rounds; then one of them, freely
chosen, happens. Answers none where the strand in front takes its turn. -/
def State.untimed (s : State) : Option State :=
  match s.ready with
  | [] => none
  | f :: r =>
    match s.lull with
    | none => some { s with lull := some (Config.freeNat s.freeCount), freeCount := s.freeCount + 1 }
    | some 0 =>
      let k := Config.freeNat s.freeCount % (r.length + 1)
      some { ((f :: r).getD k f) { s with freeCount := s.freeCount + 1 } with lull := none }
    | some (_ + 1) => none

/-! Turns and rounds. -/

def placeKey (p : Place) : Nat := 4 * placeIndex p + p.strand

/-- The strands that hold a unit. -/
def State.occupied (s : State) : List Strand := s.allStrands.filter (fun u => decide (u.st ≠ .absent))

/-- The strand of the least key in a list. -/
def firstPlace : List Strand → Option Place
  | [] => none
  | u :: r => some (r.foldl (fun p v => if placeKey v.place < placeKey p then v.place else p) u.place)

/-- One cycle of every die, and of the reference time (14 R302; log 20). -/
def State.endRound (s : State) : State :=
  let s1 := s.mapDies (fun d => { d with cycle := d.cycle + 1, tickPh := d.tickPh + 1 })
  { s1 with clock := s.clock + 1, lull := match s.lull with | some (n + 1) => some n | x => x }

/-- The turn passes to the next strand with a unit; after the last one the round ends. -/
def State.advance (s : State) : State :=
  let us := s.occupied
  match firstPlace (us.filter (fun u => placeKey s.u.place < placeKey u.place)) with
  | some p => s.focus p
  | none => match firstPlace us with
    | some p => s.endRound.focus p
    | none => s.endRound

/-- What happens when nothing else does: the turn of the strand in front, and then the next one's. -/
def State.takeTurn (run : Instr → State → Host.Outcome State Fault Refusal) (s : State) :
    Host.Outcome State Fault Refusal :=
  match s.turn run with
  | .next t => .next t.advance
  | o => o

/-- The events that the host link brings. -/
def hostWrite (i : Instr) : Bool :=
  match i with
  | .wridxWrite _ _ | .statusWrite _ _ | .rdidxWrite _ _ | .queueBind _ _ | .queueUnbind _ | .qprioWrite _ _ | .contextCreate _ _
  | .contextRelease _ | .tickperWrite _ | .attestation _ _ | .shootdown _ _ _ | .registerWrite _ _ | .groupCreate _
  | .groupDissolve _ | .bloomClear _ => true
  | _ => false

/-- The host link accepts nothing more once B2 has begun (12 R270), and nothing without power. -/
def State.hostShut (s : State) (i : Instr) : Bool := hostWrite i && (s.supply.b2 || !s.supply.powered)

/-- A strand's writes to counters that land now: what an event counts in the same cycle is added after them (05 R121). -/
def Strand.landCounters (now : Nat) (u : Strand) : Strand :=
  let mine (f : Flight) : Bool := match f.dest with
    | .special n => [0xF, 0x10, 0x11, 0x19].contains n && f.land ≤ now && f.fault.isNone
    | _ => false
  if u.trap.settle.isNone && u.flights.any mine then
    (u.flights.filter mine).foldl (fun u f => f.rows.foldl (fun u r => landRow u f.dest 0 r) u)
      { u with flights := u.flights.filter (fun f => !mine f) }
  else u

/-- The state in which an event acts: a landing acts on its results itself. -/
def State.beforeEvent (s : State) (i : Instr) : State :=
  match i with
  | .resultLanding _ => s
  | _ => s.mapStrands (fun u => u.landCounters (s.cycleOf u.place.die))

/-- One step of the module. -/
def State.stepWith (run : Instr → State → Host.Outcome State Fault Refusal) (s : State) :
    Host.Outcome State Fault Refusal :=
  match s.arrival with
  | some (i, t) => if s.hostShut i then .next t else run i (t.beforeEvent i)
  | none =>
    if !s.supply.powered then .next s.endRound
    else match s.allStrands.find? (fun u => u.trap.late.isSome) with
      | some u => s.issueLate run u.place
      | none => match s.served with
        | some t => .next t
        | none => match s.due with
          | some t => .next t
          | none => match s.untimed with
            | some t => .next t
            | none => s.takeTurn run

/-- Nothing comes before the turn of the strand in front. -/
def State.quiet (s : State) : Bool :=
  s.arrival.isNone && s.supply.powered && !(s.allStrands.any (fun u => u.trap.late.isSome)) && s.served.isNone && s.due.isNone && s.untimed.isNone

/-! A program from outside (log 24). -/

/-- Where a test unit's code lies: an EXEC extent of 64 KiB in global memory. -/
def testCode : BitVec 256 := mkExt 0x10000 0x10000 false false true false 0 0 0 0

/-- A unit running on the strand in front with its first bundle to issue, its code the 64 bytes given. -/
def State.withBundle (s : State) (b : Bundle) : State :=
  let s1 := s.modU (fun u => { u with
    who := ⟨1, 0⟩, st := .running, pc := 0, regs := { u.regs with x := [(0, testCode)] } })
  ((s1.modCore (fun c => { c with holder := s.u.place.strand })).modDie (fun d => { d with cycle := 64 })).modMem
    (fun m => m.poke 0x10000 (rowBytes b))

end Sys2Proof.Machine
end

