-- ==== Sys2Proof/Machine/Step.lean ====
section
/-! DEFINITION. One step of the module, and an instruction placed where the next step fetches it. -/

namespace Sys2Proof.Machine

/-- One step (Machine/Schedule.lean): an event, or the turn of the strand in front. -/
def step (s : State) : Host.Outcome State Fault Refusal := s.stepWith exec

/-- The state with a unit on the strand in front whose next bundle has the bits w (log 24). -/
def State.withFetchWord (s : State) (nbits w : Nat) : State := s.withBundle (BitVec.ofNat 512 (w % 2 ^ nbits))

end Sys2Proof.Machine
end

