-- ==== Sys2Proof/Safety.lean ====
section
/-! DEFINITION. The terms claims use: when an instruction passes its checks, when the model's memory and registers keep their
form, and what an instruction that only schedules a result may change. -/

namespace Sys2Proof.Machine

/-- The checks before issue let i run at s: its bundle's checks have been made, or they find nothing (03 R88). -/
def State.Passes (s : State) (i : Instr) : Prop := s.checked = true ∨ s.bundleTrap [(s.slotFor i, i)] = none

/-- The step takes the machine to a next state: no fault, no refusal. -/
def GoesOn (o : Host.Outcome State Fault Refusal) : Prop := ∃ t, o = .next t

/-- Every byte of memory reads in t as it does in s. -/
def SameMemory (s t : State) : Prop := ∀ a, t.mem.byte a = s.mem.byte a

/-- The architectural registers of the strand in front are the same (05 R107). -/
def SameRegisters (s t : State) : Prop := t.u.regs = s.u.regs

/-- The rows of a result, row 0 to row cnt, all of tag `tag`, are `lane` row by row and lane by lane, in lanes of e bytes, and
the flags of each row are those that some lane of it raised (17 R380, 06 R132). -/
def RowsAre (rows : List VReg) (flags : List Nat) (cnt tag e : Nat) (lane : Nat → Nat → Flagged) : Prop :=
  rows.length = cnt + 1 ∧ flags.length = cnt + 1 ∧
  (∀ j r, rows[j]? = some r → r.tag = tag ∧ ∀ k, k < 64 / e → elem e r.data k = (lane j k).val % 2 ^ (8 * e)) ∧
  (∀ (j fl b : Nat), flags[j]? = some fl → (fl.testBit b = true ↔ ∃ k, k < 64 / e ∧ (lane j k).flags.testBit b = true))

/-- Instructions of the S and V slots that only schedule results: none transfers control, takes the divider, ends or traps its
unit, writes the slacks or a special register, or changes the shape of a tile group. -/
def schedules (i : Instr) : Bool :=
  (i.slotKind = some .S || i.slotKind = some .V) &&
  (match i with
    | .divS _ _ _ | .divU _ _ _ | .remS _ _ _ | .remU _ _ _ => false
    | .brZ _ _ | .brNz _ _ | .brLtz _ _ | .brGez _ _ | .jmp _ | .call _ | .ret | .loop _ _ | .loopi _ _ | .lbrk => false
    | .mtsr _ _ | .slack _ | .trap _ | .endUnit | .rft => false
    | .ttrn _ _ | .tcfg _ _ _ _ | .trel _ => false
    | _ => true)

/-- Instructions of the L and W slots that only issue an access: none takes or fills a mailbox or grants or frees a block. -/
def accesses (i : Instr) : Bool :=
  (i.slotKind = some .L || i.slotKind = some .W) &&
  (match i with
    | .take _ | .putf _ | .ldb _ | .lbf _ => false
    | _ => true)

end Sys2Proof.Machine
end

