-- ==== Sys2Proof/Certificates/Slice0/Obligations.lean ====
section
/-! DEFINITION. The statements about the model, each from the rules of spec/ that its docstring names. -/

open Sys2Proof Sys2Proof.Machine

/-- 15 R321, 16 R348: ADD, SUB, ADDI, LI and LIH complete, and schedule the sum, the difference or the immediate one cycle
later. 16 R348, 06 R137: MUL gives the low half of the product and MULHI its high half, signed or unsigned, three cycles
later. 15 R321, 16 R348, 17 R405, 06 R137: AND, OR, XOR and ANDN bit by bit; the shifts and ROTL by the low six bits of b.
16 R348: MIN and MAX, signed and unsigned, give an operand that is least or greatest. 15 R334, 16 R348, 06 R137, 02 R51: a
quotient or a remainder is scheduled 18 cycles later and takes the core's divider until then; signed division truncates
toward zero; with a zero divisor the write to land carries DIVZERO with its register. -/
def Obligations.ScalarArithmetic : Prop :=
  (∀ (s : State) (d a b : BitVec 6) (imm : BitVec 32),
    (s.Passes (.add d a b) → exec (.add d a b) s = .next (s.landS 0 d (s.S a + s.S b) 1)) ∧
    (s.Passes (.sub d a b) → exec (.sub d a b) s = .next (s.landS 0 d (s.S a - s.S b) 1)) ∧
    (s.Passes (.addi d a imm) → exec (.addi d a imm) s = .next (s.landS 0 d (s.S a + imm.signExtend 64) 1)) ∧
    (s.Passes (.li d imm) → exec (.li d imm) s = .next (s.landS 0 d (imm.signExtend 64) 1)) ∧
    (s.Passes (.lih d imm) →
      exec (.lih d imm) s = .next (s.landS 0 d (BitVec.ofNat 64 (imm.toNat * 2 ^ 32 + (s.S d).toNat % 2 ^ 32)) 1))) ∧
  (∀ (s : State) (d a b : BitVec 6),
    (s.Passes (.mul d a b) →
      exec (.mul d a b) s = .next (s.landS 0 d (BitVec.ofNat 64 ((s.S a).toNat * (s.S b).toNat)) 3)) ∧
    (s.Passes (.mulhiS d a b) →
      exec (.mulhiS d a b) s = .next (s.landS 0 d (((s.S a).signExtend 128 * (s.S b).signExtend 128).extractLsb' 64 64) 3)) ∧
    (s.Passes (.mulhiU d a b) →
      exec (.mulhiU d a b) s = .next (s.landS 0 d (((s.S a).setWidth 128 * (s.S b).setWidth 128).extractLsb' 64 64) 3))) ∧
  (∀ (s : State) (d a b : BitVec 6),
    (s.Passes (.land d a b) → exec (.land d a b) s = .next (s.landS 0 d (s.S a &&& s.S b) 1)) ∧
    (s.Passes (.lor d a b) → exec (.lor d a b) s = .next (s.landS 0 d (s.S a ||| s.S b) 1)) ∧
    (s.Passes (.lxor d a b) → exec (.lxor d a b) s = .next (s.landS 0 d (s.S a ^^^ s.S b) 1)) ∧
    (s.Passes (.andn d a b) → exec (.andn d a b) s = .next (s.landS 0 d (s.S a &&& ~~~(s.S b)) 1)) ∧
    (s.Passes (.shl d a b) → exec (.shl d a b) s = .next (s.landS 0 d (s.S a <<< ((s.S b).toNat % 64)) 1)) ∧
    (s.Passes (.shr d a b) → exec (.shr d a b) s = .next (s.landS 0 d (s.S a >>> ((s.S b).toNat % 64)) 1)) ∧
    (s.Passes (.sar d a b) → exec (.sar d a b) s = .next (s.landS 0 d ((s.S a).sshiftRight ((s.S b).toNat % 64)) 1)) ∧
    (s.Passes (.rotl d a b) → exec (.rotl d a b) s = .next (s.landS 0 d ((s.S a).rotateLeft ((s.S b).toNat % 64)) 1))) ∧
  (∀ (s : State) (d a b : BitVec 6),
    (s.Passes (.minS d a b) → ∃ v, exec (.minS d a b) s = .next (s.landS 0 d v 1) ∧ v.toInt = min (s.S a).toInt (s.S b).toInt) ∧
    (s.Passes (.minU d a b) → ∃ v, exec (.minU d a b) s = .next (s.landS 0 d v 1) ∧ v.toNat = min (s.S a).toNat (s.S b).toNat) ∧
    (s.Passes (.maxS d a b) → ∃ v, exec (.maxS d a b) s = .next (s.landS 0 d v 1) ∧ v.toInt = max (s.S a).toInt (s.S b).toInt) ∧
    (s.Passes (.maxU d a b) → ∃ v, exec (.maxU d a b) s = .next (s.landS 0 d v 1) ∧ v.toNat = max (s.S a).toNat (s.S b).toNat)) ∧
  (∀ (s : State) (d a b : BitVec 6),
    (s.Passes (.divS d a b) →
      exec (.divS d a b) s = .next (s.divide d (BitVec.ofInt 64 ((s.S a).toInt.tdiv (s.S b).toInt)) (s.S b = 0))) ∧
    (s.Passes (.divU d a b) → exec (.divU d a b) s = .next (s.divide d (s.S a / s.S b) (s.S b = 0))) ∧
    (s.Passes (.remS d a b) →
      exec (.remS d a b) s = .next (s.divide d (BitVec.ofInt 64 ((s.S a).toInt.tmod (s.S b).toInt)) (s.S b = 0))) ∧
    (s.Passes (.remU d a b) → exec (.remU d a b) s = .next (s.divide d (s.S a % s.S b) (s.S b = 0))) ∧
    (∀ (v : Word) (zero : Bool), (s.divide d v zero).core = { s.core with divUntil := s.now + 18 } ∧
      ∃ f, (s.divide d v zero).u.flights.getLast? = some f ∧ f.dest = .scalar d.toNat ∧ f.land = s.now + 18 ∧
        f.rows = [⟨v.setWidth 512, 0⟩] ∧ f.div = true ∧
        f.fault = if zero then some ⟨0x10, d.toNat⟩ else none))

/-- 15 R327: each compare of two scalars writes 1 or 0, one cycle later; its word holds d, a and b behind the opcode. 15 R327:
each compare with an immediate compares with the sign-extended imm32, the unsigned ones too; its word holds d, a and imm32. -/
def Obligations.ScalarCompares : Prop :=
  (∀ (s : State) (d a b : BitVec 6),
    (s.Passes (.cmpEq d a b) → exec (.cmpEq d a b) s = .next (s.landS 0 d (if s.S a = s.S b then 1 else 0) 1)) ∧
    (s.Passes (.cmpNe d a b) → exec (.cmpNe d a b) s = .next (s.landS 0 d (if s.S a = s.S b then 0 else 1) 1)) ∧
    (s.Passes (.cmpLt d a b) →
      exec (.cmpLt d a b) s = .next (s.landS 0 d (if (s.S a).toInt < (s.S b).toInt then 1 else 0) 1)) ∧
    (s.Passes (.cmpLe d a b) →
      exec (.cmpLe d a b) s = .next (s.landS 0 d (if (s.S a).toInt ≤ (s.S b).toInt then 1 else 0) 1)) ∧
    (s.Passes (.cmpLtu d a b) → exec (.cmpLtu d a b) s = .next (s.landS 0 d (if s.S a < s.S b then 1 else 0) 1)) ∧
    (s.Passes (.cmpLeu d a b) → exec (.cmpLeu d a b) s = .next (s.landS 0 d (if s.S a ≤ s.S b then 1 else 0) 1)) ∧
    encode (.cmpEq d a b) = 0x16#8 ++ d ++ a ++ b ++ 0#6 ++ 0#32 ∧ encode (.cmpNe d a b) = 0x17#8 ++ d ++ a ++ b ++ 0#6 ++ 0#32 ∧
    encode (.cmpLt d a b) = 0x18#8 ++ d ++ a ++ b ++ 0#6 ++ 0#32 ∧ encode (.cmpLe d a b) = 0x19#8 ++ d ++ a ++ b ++ 0#6 ++ 0#32 ∧
    encode (.cmpLtu d a b) = 0x1A#8 ++ d ++ a ++ b ++ 0#6 ++ 0#32 ∧ encode (.cmpLeu d a b) = 0x1B#8 ++ d ++ a ++ b ++ 0#6 ++ 0#32) ∧
  (∀ (s : State) (d a : BitVec 6) (imm : BitVec 32),
    let v : Word := imm.signExtend 64
    (s.Passes (.cmpiEq d a imm) → exec (.cmpiEq d a imm) s = .next (s.landS 0 d (if s.S a = v then 1 else 0) 1)) ∧
    (s.Passes (.cmpiNe d a imm) → exec (.cmpiNe d a imm) s = .next (s.landS 0 d (if s.S a = v then 0 else 1) 1)) ∧
    (s.Passes (.cmpiLt d a imm) →
      exec (.cmpiLt d a imm) s = .next (s.landS 0 d (if (s.S a).toInt < imm.toInt then 1 else 0) 1)) ∧
    (s.Passes (.cmpiLe d a imm) →
      exec (.cmpiLe d a imm) s = .next (s.landS 0 d (if (s.S a).toInt ≤ imm.toInt then 1 else 0) 1)) ∧
    (s.Passes (.cmpiLtu d a imm) → exec (.cmpiLtu d a imm) s = .next (s.landS 0 d (if s.S a < v then 1 else 0) 1)) ∧
    (s.Passes (.cmpiLeu d a imm) → exec (.cmpiLeu d a imm) s = .next (s.landS 0 d (if s.S a ≤ v then 1 else 0) 1)) ∧
    encode (.cmpiEq d a imm) = 0x1C#8 ++ d ++ a ++ imm ++ 0#12 ∧ encode (.cmpiNe d a imm) = 0x1D#8 ++ d ++ a ++ imm ++ 0#12 ∧
    encode (.cmpiLt d a imm) = 0x1E#8 ++ d ++ a ++ imm ++ 0#12 ∧ encode (.cmpiLe d a imm) = 0x1F#8 ++ d ++ a ++ imm ++ 0#12 ∧
    encode (.cmpiLtu d a imm) = 0x20#8 ++ d ++ a ++ imm ++ 0#12 ∧ encode (.cmpiLeu d a imm) = 0x21#8 ++ d ++ a ++ imm ++ 0#12)

/-- 15 R321, R333, 16 R348: SEL, CLZ, POPC, BITREV, CRC32, EXTR and INS. CLZ is said by the place of the highest set bit. -/
def Obligations.ScalarBits : Prop := ∀ (s : State) (d a b c pos len : BitVec 6),
  (s.Passes (.sel d a b c) → exec (.sel d a b c) s = .next (s.landS 0 d (if s.S c ≠ 0 then s.S a else s.S b) 1)) ∧
  (s.Passes (.clz d a) → ∃ n : Nat, exec (.clz d a) s = .next (s.landS 0 d (BitVec.ofNat 64 n) 1) ∧ n ≤ 64 ∧
    (∀ k, k < n → (s.S a).getLsbD (63 - k) = false) ∧ (n < 64 → (s.S a).getLsbD (63 - n) = true)) ∧
  (s.Passes (.popc d a) → exec (.popc d a) s = .next
    (s.landS 0 d (BitVec.ofNat 64 ((List.range 64).countP (fun k => (s.S a).getLsbD k))) 1)) ∧
  (s.Passes (.bitrev d a) → ∃ v : Word, exec (.bitrev d a) s = .next (s.landS 0 d v 1) ∧
    ∀ k, k < 64 → v.getLsbD k = (s.S a).getLsbD (63 - k)) ∧
  (s.Passes (.crc32 d a b) → exec (.crc32 d a b) s = .next
    (s.landS 0 d ((crcBytes ((s.S a).setWidth 32) (wordBytes (s.S b))).setWidth 64) 2)) ∧
  (s.Passes (.extr d a pos len) → ∃ v : Word, exec (.extr d a pos len) s = .next (s.landS 0 d v 1) ∧
    ∀ k, k < 64 → v.getLsbD k = (decide (k ≤ len.toNat) && (s.S a).getLsbD (pos.toNat + k))) ∧
  (s.Passes (.ins d a pos len) → ∃ v : Word, exec (.ins d a pos len) s = .next (s.landS 0 d v 1) ∧
    ∀ k, k < 64 → v.getLsbD k =
      (if pos.toNat ≤ k ∧ k ≤ pos.toNat + len.toNat then (s.S a).getLsbD (k - pos.toNat) else (s.S d).getLsbD k))

/-- 15 R324, R325: a taken branch and JMP name PC + SignExtend(off26) as the next bundle and pop, from the innermost on, the
loop levels that do not hold the target; a branch not taken changes nothing. 15 R324, 16 R365: CALL writes the index of the
next bundle to s63, one cycle later, and pops no level; RET goes to the index in s63. -/
def Obligations.ControlTransfers : Prop :=
  (∀ (s : State) (a : BitVec 6) (off : BitVec 26),
    let t : Word := s.u.pc + off.signExtend 64
    let there : State := { s with u := { s.u with
      target := some t,
      loops := s.u.loops.dropWhile (fun l => !(decide (l.start.toNat ≤ t.toNat) && decide (t.toNat ≤ l.start.toNat + l.len.toNat - 1))) } }
    (s.Passes (.brZ a off) → exec (.brZ a off) s = .next (if s.S a = 0 then there else s)) ∧
    (s.Passes (.brNz a off) → exec (.brNz a off) s = .next (if s.S a = 0 then s else there)) ∧
    (s.Passes (.brLtz a off) → exec (.brLtz a off) s = .next (if (s.S a).toInt < 0 then there else s)) ∧
    (s.Passes (.brGez a off) → exec (.brGez a off) s = .next (if (s.S a).toInt < 0 then s else there)) ∧
    (s.Passes (.jmp off) → exec (.jmp off) s = .next there)) ∧
  (∀ (s : State) (off : BitVec 26),
    (s.Passes (.call off) → ∃ t, exec (.call off) s = .next t ∧ t.u.target = some (s.u.pc + off.signExtend 64) ∧
      t.u.loops = s.u.loops ∧ t.u.flights = (s.landS 0 63 (s.u.pc + 1) 1).u.flights) ∧
    (s.Passes .ret → exec .ret s = .next { s with u := { s.u with target := some (s.u.scalar 63) } }))

/-- 15 R344: LOOP and LOOPI, with the scalar or the immediate as the count. A count other than zero pushes a level whose body is
the len bundles from the next one on, at index 0, and the next bundle follows. With a count of zero nothing is pushed: the
next bundle is the one after the body, and the loop stack and the next bundle are then what the back-edge rule makes of
them at the last bundle of the body. A body that leaves the body of the innermost level raises ILLEGAL with EINFO 0x30,
whatever the count, and a count other than zero with six levels open LOOP_OVF with EINFO 0, each before issue. 15 R345: the
back-edge rule at index p: with no level open, or while p is not the last bundle of the innermost body, nothing changes; at
that bundle a level with iterations left counts one more, and its first bundle is the next; in its last iteration it is
popped, p + 1 is the next, and the rule looks at the level outside it. A bundle that ends without a transfer applies the
rule at its own index; one with a transfer does not. -/
def Obligations.LoopStack : Prop :=
  (∀ (s : State) (a : BitVec 6) (imm : BitVec 20) (len : BitVec 16),
    let last := s.u.pc.toNat + len.toNat
    let after := backEdge last s.u.loops (last + 1)
    let runs (n : Word) : State :=
      if n = 0 then { s with u := { s.u with target := some (BitVec.ofNat 64 after.2), loops := after.1 } }
      else { s with u := { s.u with
        target := some (s.u.pc + 1), loops := ⟨(s.u.pc + 1).setWidth 52, len, n, 0⟩ :: s.u.loops } }
    (s.Passes (.loop a len) → exec (.loop a len) s = .next (runs (s.S a))) ∧
    (s.Passes (.loopi imm len) → exec (.loopi imm len) s = .next (runs (imm.setWidth 64)))) ∧
  (∀ (s : State) (a : BitVec 6) (imm : BitVec 20) (len : BitVec 16) (top : Loop) (rest : List Loop),
    s.checked = false → s.hdr.pop = 0 → s.u.regs.sr.chk = 0 → s.u.loops = top :: rest →
    let last := top.start.toNat + top.len.toNat - 1
    let traps (i : Instr) (count : Word) : Prop := i.wellFormed = true →
      (last < s.u.pc.toNat + len.toNat → exec i s = .next (s.trapBefore ⟨0x01, 0x30⟩)) ∧
      (s.u.pc.toNat + len.toNat ≤ last → s.u.loops.length = 6 → count ≠ 0 → exec i s = .next (s.trapBefore ⟨0x14, 0⟩))
    traps (.loop a len) (s.S a) ∧ traps (.loopi imm len) (imm.setWidth 64)) ∧
  (∀ (p next : Nat) (top : Loop) (rest : List Loop),
    let last := top.start.toNat + top.len.toNat - 1
    backEdge p [] next = ([], next) ∧
    (p ≠ last → backEdge p (top :: rest) next = (top :: rest, next)) ∧
    (p = last → top.index.toNat + 1 < top.count.toNat →
      backEdge p (top :: rest) next = ({ top with index := top.index + 1 } :: rest, top.start.toNat)) ∧
    (p = last → top.count.toNat ≤ top.index.toNat + 1 → backEdge p (top :: rest) next = backEdge p rest (p + 1))) ∧
  (∀ (s : State), s.hdr.pop = 0 →
    let after := backEdge s.u.pc.toNat s.u.loops (s.u.pc.toNat + 1)
    (s.u.target = none → s.finish.u.pc = BitVec.ofNat 64 after.2 ∧ s.finish.u.loops = after.1) ∧
    (∀ t, s.u.target = some t → s.finish.u.pc = t ∧ s.finish.u.loops = s.u.loops))

/-- 15 R346: LBRK pops the innermost level and makes START + LEN of that level the next bundle, as a control transfer: the
back-edge rule does not apply to its bundle. With no level it raises ILLEGAL with EINFO 0x30 before issue. Its word has
every field zero. -/
def Obligations.LoopBreaks : Prop := ∀ (s : State),
  encode .lbrk = 0x3500000000000000 ∧
  (s.Passes .lbrk → ∀ top rest, s.u.loops = top :: rest → ∃ t, exec .lbrk s = .next t ∧ t = { s with u := { s.u with
    target := some (top.start.setWidth 64 + top.len.setWidth 64), loops := rest } } ∧
    (s.hdr.pop = 0 → t.finish.u.pc = top.start.setWidth 64 + top.len.setWidth 64 ∧ t.finish.u.loops = rest)) ∧
  (s.checked = false → s.hdr.pop = 0 → s.u.regs.sr.chk = 0 → s.u.loops = [] →
    exec .lbrk s = .next (s.trapBefore ⟨0x01, 0x30⟩))

/-- 16 R356, R367, R369, 15 R338: MFSR schedules the register's value two cycles later and MTSR its write one cycle later, where
FLUSH saves the DIRTY groups of other units for a 1 (05 R126); SLACK sets the two slacks; SETX and GETX write and read a
word of an extent register. 05 R121: what a landed write of a special register leaves: PERIODMAX clamps to 256 to 65536, CHK
keeps two bits, FPCTL and FPSTAT five, PROM is at most 4, and ASHAPE ignores zero. -/
def Obligations.SpecialRegisters : Prop :=
  (∀ (s : State) (d a : BitVec 6) (n : BitVec 12) (imm : BitVec 32),
    (s.Passes (.mfsr d n) → exec (.mfsr d n) s = .next (s.landS 0 d (s.readSr n.toNat) 2)) ∧
    (s.Passes (.mtsr a n) → n ≠ 0x108 →
      exec (.mtsr a n) s = .next (s.sched 0 (.special n.toNat) 1 [⟨(s.S a).setWidth 512, 0⟩] false 0 0)) ∧
    (s.Passes (.mtsr a 0x108) → exec (.mtsr a 0x108) s = .next (if s.S a = 1 then s.flushGroups else s)) ∧
    (s.Passes (.slack imm) → exec (.slack imm) s = .next { s with u := { s.u with time := { s.u.time with
      mslack := (imm.extractLsb' 16 16).toNat, cslack := (imm.extractLsb' 0 16).toNat } } }) ∧
    (s.Passes (.setx a n) → exec (.setx a n) s =
      .next (s.sched 0 (.extent (n.toNat / 4) (n.toNat % 4)) 1 [⟨(s.S a).setWidth 512, 0⟩] false 0 0)) ∧
    (s.Passes (.getx d n) → exec (.getx d n) s =
      .next (s.landS 0 d ((s.u.ext (n.toNat / 4)).extractLsb' (64 * (n.toNat % 4)) 64) 1))) ∧
  (∀ (u : Strand) (v : Word),
    ((u.writeSr 0x009 v).regs.sr.periodmax.toNat = max 256 (min 65536 v.toNat)) ∧
    ((u.writeSr 0x00A v).regs.sr.chk = v &&& 3) ∧ ((u.writeSr 0x00B v).regs.sr.fpctl = v &&& 31) ∧
    ((u.writeSr 0x00C v).regs.sr.fpstat = v &&& 31) ∧ ((u.writeSr 0x00E v).regs.sr.prom.toNat = min 4 v.toNat) ∧
    ((u.writeSr 0x00D v).regs.sr.ashape = if v &&& 15 = 0 then u.regs.sr.ashape else v &&& 15) ∧
    ((u.writeSr 0x015 v).regs.sr.handler = v) ∧ ((u.writeSr 0x013 v).regs.sr.estimate = v) ∧
    ((u.writeSr 0x00F v).regs.sr.accovf = v) ∧ ((u.writeSr 0x010 v).regs.sr.trailcnt = v) ∧
    ((u.writeSr 0x011 v).regs.sr.errcnt = v) ∧ ((u.writeSr 0x019 v).regs.sr.misscnt = v))

/-- 03 R88, R89: an S-slot instruction with clean bits and operands in range passes, where nothing else of its checks concerns
it: its privilege is held, its special number is valid, its own entry finds nothing, no latch is popped and CHK is 0. 03
R89, R90: bits that the encoding fixes at zero raise ILLEGAL with EINFO 0x28 + slot, before issue, for every instruction of
a slot. 03 R70, R89, R90: a privileged instruction outside a firmware core raises PRIV with EINFO 0x40 + slot, before issue.
03 R89, R90: an operand out of range raises ILLEGAL with EINFO 0x30 + slot, before issue. 01 R22: an M-slot instruction of a
unit that is not the array owner raises ILLEGAL with EINFO 1, before issue. 05 R112: a vector instruction whose first
failing register lies in a group that is not configured raises TILE_UNCONF with its group, row, kind 0 and slot, before
issue. Said of VADD on one row. -/
def Obligations.ChecksBeforeIssue : Prop :=
  (∀ (s : State) (i : Instr),
    i.slotKind = some .S → i.wellFormed = true → (privilegedOp i = true → s.u.privileged = true) → specialTrap i = none →
    s.entryTrap 0 i = none → s.hdr.pop = 0 → s.u.regs.sr.chk = 0 → s.Passes i) ∧
  (∀ (s : State) (i : Instr) (k : SlotKind),
    i.slotKind = some k → s.checked = false → i.clean ≠ i →
    exec i s = .next (s.trapBefore ⟨0x01, 0x28 + s.slotFor i⟩)) ∧
  (∀ (s : State) (i : Instr),
    privilegedOp i = true → s.u.privileged = false → s.checked = false → i.clean = i →
    exec i s = .next (s.trapBefore ⟨0x03, 0x40⟩)) ∧
  (∀ (s : State) (i : Instr) (k : SlotKind),
    i.slotKind = some k → s.checked = false → i.clean = i → i.inRange = false →
    (privilegedOp i = true → s.u.privileged = true) →
    exec i s = .next (s.trapBefore ⟨0x01, 0x30 + s.slotFor i⟩)) ∧
  (∀ (s : State) (i : Instr),
    i.slotKind = some .M → i.wellFormed = true → s.checked = false → s.hdr.pop = 0 → s.core.matrix.owner ≠ some s.u.who →
    exec i s = .next (s.trapBefore ⟨0x01, 1⟩)) ∧
  (∀ (s : State) (f : VR),
    (Instr.vadd f).wellFormed = true → s.checked = false → s.slot = 1 → s.hdr.pop = 0 → s.u.regs.sr.chk = 0 →
    f.cnt = 0 → f.d.toNat ≤ f.a.toNat → f.d.toNat ≤ f.b.toNat → (∀ j, (s.u.latch j).bound = false) →
    s.u.configured (f.d.toNat / 16) = false →
    exec (.vadd f) s = .next (s.trapBefore ⟨0x05, f.d.toNat / 16 + 128 * (f.d.toNat % 16) + 8192⟩))

/-- 07 R151, R162, R163, 15 R317: a scalar load or store, or an AADD, whose address fails its check raises that check's cause,
before issue. 07 R162, R163, R152: an access through an extent faults with LEASE where the extent is not leased (kind 2),
ends before the access (kind 0), or lacks the permission (kind 1; 10 R239: so where this module is fenced from the range, whose
kind is the model's, log 88), and with ALIGN where the offset is not a multiple of the size; else it reaches the bytes at the
extent's base plus the offset. -/
def Obligations.AddressChecks : Prop :=
  (∀ (s : State) (f : MemF) (t : Trap),
    s.checked = false → s.hdr.pop = 0 → s.u.regs.sr.chk = 0 →
    let traps := fun (i : Instr) (slot log : Nat) (k : AccKind) (load : Bool) =>
      i.wellFormed = true → s.memSpan slot f log k load = .error t → exec i s = .next (s.trapBefore t)
    traps (.ldB f) 4 0 kRead true ∧ traps (.ldBu f) 4 0 kRead true ∧ traps (.ldH f) 4 1 kRead true ∧
    traps (.ldHu f) 4 1 kRead true ∧ traps (.ldW f) 4 2 kRead true ∧ traps (.ldWu f) 4 2 kRead true ∧
    traps (.ldD f) 4 3 kRead true ∧ traps (.stB f) 5 0 kWrite false ∧ traps (.stH f) 5 1 kWrite false ∧
    traps (.stW f) 5 2 kWrite false ∧ traps (.stD f) 5 3 kWrite false ∧ traps (.aadd f) 5 3 kBoth true) ∧
  (∀ (s : State) (slot log : Nat) (a : Word) (k : AccKind),
    pSpace a = 3 →
    let x := s.u.ext (pXi a)
    let bad (cause kind off : Nat) : Except Trap Span := .error ⟨cause, memInfo (pXi a) kind slot k.wr off⟩
    let permitted : Prop := (k.rd = true → extRd x = true) ∧ (k.wr = true → extWr x = true) ∧
      s.cutAway x (pOff a) (2 ^ log) = false
    (extLen x = 0 → s.check slot a (2 ^ log) k log = bad 0x09 2 (pOff a)) ∧
    (extLen x ≠ 0 → extLen x < pOff a + 2 ^ log → s.check slot a (2 ^ log) k log = bad 0x09 0 (max (pOff a) (extLen x))) ∧
    (pOff a + 2 ^ log ≤ extLen x → ¬ permitted → s.check slot a (2 ^ log) k log = bad 0x09 1 (pOff a)) ∧
    (pOff a + 2 ^ log ≤ extLen x → permitted → pOff a % 2 ^ log ≠ 0 → s.check slot a (2 ^ log) k log = bad 0x08 log (pOff a)) ∧
    (pOff a + 2 ^ log ≤ extLen x → permitted → pOff a % 2 ^ log = 0 → ∃ sp, s.check slot a (2 ^ log) k log = .ok sp ∧
      sp.homes = List.range' (extBase x + pOff a) (2 ^ log)))

/-- 16 R378, 11 R245: TRAP takes its exception after its bundle has issued: EPC is its bundle, the resume index the next. 11
R251, R255: TRAP 0 in a handler with no fault pending returns: the resume index and the parked loop stack come back,
INHANDLER is cleared, and the parked writes land again, each its DELAY after cycle c + 1, before those that the handler has
issued. 15 R335, 01 R21: END ends its
unit: it is ENDING, not abandoned for it, nothing of it is still to land, its latches are unbound, and its requests at homes
are withdrawn. 11 R254, R260: RFT, for a unit of this die whose saved state stands alone and may resume, in the context of the
strand, whose core it fits, with no fault pending: the unit stands on the strand in unprivileged mode, READY at the resume index of its area. 11 R254: RFT on an area
without VALID raises ILLEGAL with EINFO 0x30, before issue. -/
def Obligations.TrapsAndReturns : Prop :=
  (∀ (s : State) (imm : BitVec 32),
    s.Passes (.trap imm) → ¬ (imm = 0 ∧ s.u.trap.inHandler = true) →
    exec (.trap imm) s = .next (s.finish.hardStop ⟨0x15, imm.toNat⟩ s.u.pc s.finish.u.pc)) ∧
  (∀ (s : State),
    s.Passes (.trap 0) → s.u.trap.inHandler = true → s.u.trap.pend = none → s.hdr.pop = 0 →
    ∃ t, exec (.trap 0) s = .next t ∧ t.u.pc = s.u.trap.ridx ∧ t.u.loops = s.u.trap.parkedLoops ∧
      t.u.trap.inHandler = false ∧ t.u.trap.ifq = [] ∧ t.u.flights.map Flight.land =
        (s.u.trap.ifq ++ s.u.trap.odd).map (fun f => s.now + 1 + f.land) ++ s.u.flights.map Flight.land ∧
      t.u.time.prevIssue = s.now + 1 - s.u.trap.lastiss) ∧
  (∀ (s : State), s.Passes .endUnit → ∃ t, exec .endUnit s = .next t ∧
    t.u.st = .ending ∧ t.u.own.abandoned = s.u.own.abandoned ∧ t.u.flights = [] ∧ t.u.regs.q = [] ∧
    ∀ x ∈ t.waiters, x.who ≠ s.u.who) ∧
  (∀ (s : State) (sv : Saved),
    s.Passes .rft → s.hdr.pop = 0 → s.work.saved = [sv] → sv.area = areaOf s.u.regs.pr.savebase → sv.own.ctx = s.u.own.ctx →
    s.core.at s.u.place = true → s.u.place.cluster < 3 → s.die.num = s.u.place.die → sv.die = s.u.place.die →
    s.mayResume sv = true → s.memberFits (.saved sv) s.core = true → sv.cause ≠ 0x11 →
    (∀ u ∈ s.strands, u.st.onStrand = true → u.who.launch ≠ sv.who.launch) → (∀ u ∈ s.strands, groupsOf u sv.who = []) →
    (readAreaHeader s.mem sv.area).pendf = false →
    ∃ t, exec .rft s = .next t ∧ t.u.who = sv.who ∧ t.u.st = .ready ∧ t.u.privileged = false ∧
      t.u.pc = BitVec.ofNat 64 (readAreaHeader s.mem sv.area).ridx ∧ t.work.saved = []) ∧
  (∀ (s : State),
    s.checked = false → s.u.privileged = true → s.hdr.pop = 0 → s.u.regs.sr.chk = 0 →
    (readAreaHeader s.mem (areaOf s.u.regs.pr.savebase)).valid = false →
    exec .rft s = .next (s.trapBefore ⟨0x01, 0x30⟩))

/-- 11 R245, R247, R249 to R251: a delegable cause in a unit with a handler, outside it, with nothing in flight: EPC, ECAUSE and
EINFO are written, the loop stack is parked, the resume index is kept, the unit stays in its state, and the next bundle is
HANDLER. 11 R247, R253, R257:
a cause that is not delegated, or that finds no handler, with nothing in flight and no copy pending, checkpoints the unit
for firmware: its strand is free, and what is saved names the cause and the resume index. 07 R162, 11 R253: LEASE, with
nothing in flight, ends the unit: it is ENDING and counts as abandoned; so do MEM_UE, and PIPE_ERR of a unit that has no retry copy or
has used it (13 R281, R283). 11 R252: a cause at the first bundle of a handler
ends the unit with HANDLER_FAULT, whose EINFO holds both causes; on a firmware core the die is to be fenced. 11 R245, 05
R123: at a stop, the scalar and vector writes still to land become in-flight entries whose DELAY counts from the cycle of
the stop, and none is left on the strand. -/
def Obligations.ExceptionsDeliver : Prop :=
  (∀ (s : State) (t : Trap) (epc ridx : Word),
    delegable t.cause = true → s.u.regs.sr.handler ≠ 0 → s.u.trap.inHandler = false → s.u.trap.first = false →
    s.u.trap.late = none → s.u.flights = [] → s.u.accs = [] → s.waiters = [] →
    let u := (s.hardStop t epc ridx).u
    u.pc = s.u.regs.sr.handler ∧ u.regs.sr.epc = epc ∧ u.regs.sr.ecause = BitVec.ofNat 64 t.cause ∧
    u.regs.sr.einfo = BitVec.ofNat 64 t.einfo ∧ u.trap.ridx = ridx ∧ u.trap.inHandler = true ∧ u.loops = [] ∧
    u.trap.parkedLoops = s.u.loops ∧ u.st = s.u.st ∧ u.time.prevIssue = s.now + 1 ∧
    u.regs.s = s.u.regs.s ∧ u.regs.v = s.u.regs.v) ∧
  (∀ (s : State) (t : Trap) (epc ridx : Word),
    (delegable t.cause = false ∨ s.u.regs.sr.handler = 0) → t.cause ≠ 0x09 → t.cause ≠ 0x12 →
    (t.cause = 0x11 → s.u.own.copy.isSome = true ∧ s.u.own.retried = false) → s.u.trap.first = false →
    s.u.trap.late = none → s.u.trap.inHandler = false → s.u.flights = [] → s.u.accs = [] → s.waiters = [] → s.core.copiesOf s.u.who = [] →
    let r := s.hardStop t epc ridx
    r.u.st = .absent ∧ ∃ sv ∈ r.work.saved, sv.who = s.u.who ∧ sv.firmware = true ∧ sv.cause = t.cause ∧ sv.kept.trap.resume = ridx) ∧
  (∀ (s : State) (t : Trap) (epc ridx : Word),
    t.cause = 0x09 ∨ t.cause = 0x12 ∨ (t.cause = 0x11 ∧ (s.u.own.copy = none ∨ s.u.own.retried = true)) →
    s.u.trap.first = false → s.u.trap.late = none → s.u.trap.inHandler = false → s.u.flights = [] → s.u.accs = [] →
    s.waiters = [] → (s.hardStop t epc ridx).u.st = .ending ∧ (s.hardStop t epc ridx).u.own.abandoned = true) ∧
  (∀ (s : State) (t : Trap) (epc ridx : Word),
    s.u.trap.first = true → s.u.trap.late = none →
    let r := s.hardStop t epc ridx
    r.u.regs.sr.ecause = 0x25 ∧
    r.u.regs.sr.einfo.toNat = s.u.regs.sr.ecause.toNat % 256 + 256 * (t.cause % 256) ∧
    (s.u.privileged = false → r.u.st = .ending) ∧ (s.u.privileged = true → r.die.fwFault = true)) ∧
  (∀ (s : State),
    s.u.trap.inHandler = false → (∀ f ∈ s.u.flights, s.now < f.land ∧ f.next ≤ f.cnt ∧ f.same = false ∧ f.isEntry = true) →
    s.freeze.u.flights = [] ∧
    ∀ f, f ∈ s.freeze.u.trap.ifq ↔ ∃ g ∈ s.u.flights, f = { g with land := g.land - s.now })

/-- 02 R51, R54, 05 R106: a scalar scheduled with latency L, while no other write to land names its register: until cycle c + L
a landing leaves the register as it was; at c + L it holds the value, except s0, which stays zero; and no other scalar
changes unless a write to it lands. 15 R334, R343, 11 R246: the landing of a write that carries a
fault (a quotient's DIVZERO, a LOC load's MEM_UE) writes nothing and raises it at its instruction. 02 R51, R54, 06 R132: row j of a range lands at issue + L + j: of a vector flight of n
rows from cycle c on, the rows due at `now` are those up to now − c, and the flags are raised with the last one. -/
def Obligations.ResultsLand : Prop :=
  (∀ (s : State) (slot lat n : Nat) (d : BitVec 6) (v : Word),
    s.u.trap.settle = none → 0 < lat → (∀ f ∈ s.u.flights, f.dest ≠ .scalar d.toNat ∧ f.fault = none ∧ f.flags = 0) →
    wfTab 0 s.u.regs.s = true →
    let later : State := (s.landS slot d v lat).modDie (fun x => { x with cycle := s.now + n })
    ∃ r, exec (.resultLanding none) later = .next r ∧ r.mem = s.mem ∧
      (n < lat → r.u.scalar d.toNat = s.u.scalar d.toNat) ∧
      (n = lat → r.u.scalar d.toNat = if d = 0 then 0 else v)) ∧
  (∀ (now : Nat) (u : Strand) (f : Flight) (t : Trap),
    f.fault = some t → f.cnt = 0 → f.next = 0 → f.same = false → f.land ≤ now →
    landFlight now u f = (u.raiseFlags f.flags, none, some ⟨t, f.epc⟩)) ∧
  (∀ (now : Nat) (u : Strand) (f : Flight) (d : Nat),
    f.dest = .vector d → f.fault = none → f.same = false → f.next ≤ f.cnt → f.rows.length = f.cnt + 1 - f.next →
    let due := min (now + 1 - f.land) (f.cnt + 1 - f.next)
    let written := ((f.rows.take due).zipIdx).foldl (fun w (r, j) => w.setVreg (d + (f.next + j)) r) u
    (now < f.land → landFlight now u f = (u, some f, none)) ∧
    (f.land ≤ now → now - f.land < f.cnt - f.next → landFlight now u f =
      (written, some { f with next := f.next + due, land := f.land + due, rows := f.rows.drop due }, none)) ∧
    (f.land ≤ now → f.cnt - f.next ≤ now - f.land → (landFlight now u f).1 = written.raiseFlags f.flags ∧
      (landFlight now u f).2.1 = none))

/-- 17 R382: VADD, VSUB, VMUL, VDIV, VMIN, VMAX, VFMA and VFMS give, in every lane of every row, the one rounded result of 06
R128 to R134 in the instruction's format, with latency 4, VDIV with 14. -/
def Obligations.VectorFloatingArithmetic : Prop := ∀ (s : State) (f : VR),
  let m := f.fmt.toNat
  let e := tagBytes m
  let x := fun j k => readFp m (elem e (s.u.srcRow f.a j).data k)
  let y := fun j k => readFp m (elem e (s.u.srcRow f.b j).data k)
  let z := fun j k => readFp m (elem e (s.u.srcRow f.c j).data k)
  let gives := fun (i : Instr) (lat : Nat) (lane : Nat → Nat → Flagged) => ∃ rows fl,
    exec i s = .next (s.landV (s.slotFor i) f.d.toNat lat rows fl) ∧ RowsAre rows fl f.cnt.toNat m e lane
  let r := f.rnd.toNat
  let c := f.sat.toNat
  (s.Passes (.vadd f) → gives (.vadd f) 4 (fun j k => fpAdd m r c (x j k) (y j k))) ∧
  (s.Passes (.vsub f) → gives (.vsub f) 4 (fun j k => fpAdd m r c (x j k) (y j k).negate)) ∧
  (s.Passes (.vmul f) → gives (.vmul f) 4 (fun j k => fpMul m r c (x j k) (y j k))) ∧
  (s.Passes (.vdiv f) → gives (.vdiv f) 14 (fun j k => fpDiv m r c (x j k) (y j k))) ∧
  (s.Passes (.vmin f) → gives (.vmin f) 4 (fun j k => fpMinMax m c false (x j k) (y j k))) ∧
  (s.Passes (.vmax f) → gives (.vmax f) 4 (fun j k => fpMinMax m c true (x j k) (y j k))) ∧
  (s.Passes (.vfma f) → gives (.vfma f) 4 (fun j k => fpFma m r c (x j k) (y j k) (z j k))) ∧
  (s.Passes (.vfms f) → gives (.vfms f) 4 (fun j k => fpFma m r c (x j k) (y j k) (z j k).negate))

/-- 17 R381, R395, R401, 06 R135: the sign instructions, VSCAL, VRND, VSQRT and the approximations, lane by lane. A value within
the bound of 06 R135 is the model's free value (log 8). -/
def Obligations.VectorFloatingUnary : Prop := ∀ (s : State) (f : VR) (g : VS),
  let m := f.fmt.toNat
  let e := tagBytes m
  let w := fun j k => elem e (s.u.srcRow f.a j).data k
  let x := fun j k => readFp m (w j k)
  let gives := fun (i : Instr) (lat : Nat) (lane : Nat → Nat → Flagged) => ∃ rows fl,
    exec i s = .next (s.landV (s.slotFor i) f.d.toNat lat rows fl) ∧ RowsAre rows fl f.cnt.toNat m e lane
  let sign := fun (neg : Bool) (v : Nat) => (if (readFp m v).isNan then ⟨nanOf m, snanFlag [readFp m v]⟩
    else ⟨v % 2 ^ (fpWidth m - 1) + signBit m neg, 0⟩ : Flagged)
  let r := f.rnd.toNat
  let c := f.sat.toNat
  (s.Passes (.vabs f) → gives (.vabs f) 4 (fun j k => sign false (w j k))) ∧
  (s.Passes (.vneg f) → gives (.vneg f) 4 (fun j k => sign (!(w j k).testBit (fpWidth m - 1)) (w j k))) ∧
  (s.Passes (.vcpsgn f) → gives (.vcpsgn f) 4 (fun j k =>
    sign ((elem e (s.u.srcRow f.b j).data k).testBit (fpWidth m - 1)) (w j k))) ∧
  (s.Passes (.vrnd f) → gives (.vrnd f) 4 (fun j k => fpRoundInt m r c (x j k))) ∧
  (s.Passes (.vsqrt f) → gives (.vsqrt f) 8 (fun j k => fpSqrt m r c (x j k))) ∧
  (s.Passes (.vrcp f) → gives (.vrcp f) 8 (fun j k => fpRcp m r c (w j k) (x j k))) ∧
  (s.Passes (.vrsq f) → gives (.vrsq f) 8 (fun j k => fpRsq m r c (w j k) (x j k))) ∧
  (s.Passes (.vexp2 f) → gives (.vexp2 f) 8 (fun j k => fpExp2 m r c (w j k) (x j k))) ∧
  (s.Passes (.vlog2 f) → gives (.vlog2 f) 8 (fun j k => fpLog2 m r c (w j k) (x j k))) ∧
  (s.Passes (.vtanh f) → gives (.vtanh f) 8 (fun j k => fpTanh m r c (w j k) (x j k))) ∧
  (s.Passes (.vscal g) → ∃ rows fl, exec (.vscal g) s = .next (s.landV (s.slotFor (.vscal g)) g.d.toNat 4 rows fl) ∧
    rows.length = g.cnt.toNat + 1 ∧ ∀ j v, rows[j]? = some v →
      let t := (s.u.srcRow g.a j).tag
      v.tag = t ∧ ∀ k, k < 64 / tagBytes t → elem (tagBytes t) v.data k =
        (fpScale t g.rnd.toNat (s.S g.s).toInt (readFp t (elem (tagBytes t) (s.u.srcRow g.a j).data k))).val
          % 2 ^ (8 * tagBytes t))

/-- 17 R389, 06 R134: a compare gives all ones or all zeros in every lane, with latency 4 and the integer tag of its width:
VCMP's EQ and NE are quiet, its ordered compares set the invalid flag for any NaN, and a NaN compares only unequal; VICMP
compares as its format reads, LTU and LEU the stored patterns, and sets no flag. Each word holds its opcode, with rnd and
sat zero. -/
def Obligations.VectorCompares : Prop := ∀ (s : State) (f : VR),
  let m := f.fmt.toNat
  let e := tagBytes m
  let u := fun j k => elem e (s.u.srcRow f.a j).data k
  let v := fun j k => elem e (s.u.srcRow f.b j).data k
  let tag := if e = 4 then 4 else if e = 2 then 5 else 6
  let ones := 2 ^ (8 * e) - 1
  let is := fun (i : Instr) (op : BitVec 8) (fmts : List (BitVec 4)) =>
    encode i = op ++ f.d ++ f.a ++ f.b ++ f.c ++ f.rnd ++ f.cnt ++ f.sat ++ f.fmt ∧
    (i.wellFormed = true → f.rnd = 0 ∧ f.sat = 0 ∧ f.c = 0 ∧ f.fmt ∈ fmts)
  let gives := fun (i : Instr) (lane : Nat → Nat → Flagged) => s.Passes i → ∃ rows fl,
    exec i s = .next (s.landV (s.slotFor i) f.d.toNat 4 rows fl) ∧ RowsAre rows fl f.cnt.toNat tag e lane
  let fp := fun (i : Instr) (op : BitVec 8) (quiet nan : Bool) (rel : Fp → Fp → Bool) =>
    is i op [1, 2, 3] ∧ gives i (fun j k =>
      let x := readFp m (u j k)
      let y := readFp m (v j k)
      if x.isNan || y.isNan then ⟨if nan then ones else 0, if quiet then snanFlag [x, y] else 1⟩
      else ⟨if rel x y then ones else 0, 0⟩)
  let int := fun (i : Instr) (op : BitVec 8) (rel : Nat → Nat → Bool) =>
    is i op [4, 5, 6, 7] ∧ gives i (fun j k => ⟨if rel (u j k) (v j k) then ones else 0, 0⟩)
  let n := readInt m
  fp (.vcmpEq f) 0x14 true false fpEq ∧ fp (.vcmpNe f) 0x15 true true (fun p q => !fpEq p q) ∧
  fp (.vcmpLt f) 0x16 false false fpLt ∧ fp (.vcmpLe f) 0x17 false false (fun p q => !fpLt q p) ∧
  fp (.vcmpGt f) 0x18 false false (fun p q => fpLt q p) ∧ fp (.vcmpGe f) 0x19 false false (fun p q => !fpLt p q) ∧
  int (.vicmpEq f) 0x21 (fun p q => decide (n p = n q)) ∧ int (.vicmpNe f) 0x22 (fun p q => decide (n p ≠ n q)) ∧
  int (.vicmpLt f) 0x23 (fun p q => decide (n p < n q)) ∧ int (.vicmpLe f) 0x24 (fun p q => decide (n p ≤ n q)) ∧
  int (.vicmpLtu f) 0x25 (fun p q => decide (p < q)) ∧ int (.vicmpLeu f) 0x26 (fun p q => decide (p ≤ q))

/-- 17 R384, 06 R136: the integer arithmetic gives the exact result, wrapped, or clamped to the format's range with sat 1, in
every lane, with latency 4 and no flag; VAVG gives half the sum, rounded in rnd. Each word holds its opcode, and rnd is zero
but for VAVG. -/
def Obligations.VectorIntegers : Prop := ∀ (s : State) (f : VR),
  let m := f.fmt.toNat
  let e := tagBytes m
  let x := fun j k => readInt m (elem e (s.u.srcRow f.a j).data k)
  let y := fun j k => readInt m (elem e (s.u.srcRow f.b j).data k)
  let z := fun j k => readInt m (elem e (s.u.srcRow f.c j).data k)
  let is := fun (i : Instr) (op : BitVec 8) (rnd c : Bool) =>
    encode i = op ++ f.d ++ f.a ++ f.b ++ f.c ++ f.rnd ++ f.cnt ++ f.sat ++ f.fmt ∧
    (i.wellFormed = true → (rnd = false → f.rnd = 0) ∧ (c = false → f.c = 0) ∧ f.sat.toNat ≤ 1 ∧ 4 ≤ m ∧ m ≤ 7)
  let gives := fun (i : Instr) (lane : Nat → Nat → Nat) => s.Passes i → ∃ rows,
    exec i s = .next (s.landV (s.slotFor i) f.d.toNat 4 rows (rows.map (fun _ => 0))) ∧
    RowsAre rows (rows.map (fun _ => 0)) f.cnt.toNat m e (fun j k => ⟨lane j k, 0⟩)
  let fit := fun (n : Int) => truncInt (8 * e) (if f.sat = 1 then max (intLo m) (min (intHi m) n) else n)
  (is (.viadd f) 0x1A false false ∧ gives (.viadd f) (fun j k => fit (x j k + y j k))) ∧
  (is (.visub f) 0x1B false false ∧ gives (.visub f) (fun j k => fit (x j k - y j k))) ∧
  (is (.vimul f) 0x1C false false ∧ gives (.vimul f) (fun j k => fit (x j k * y j k))) ∧
  (is (.vimad f) 0x1D false true ∧ gives (.vimad f) (fun j k => fit (x j k * y j k + z j k))) ∧
  (is (.vimin f) 0x1E false false ∧ gives (.vimin f) (fun j k => truncInt (8 * e) (min (x j k) (y j k)))) ∧
  (is (.vimax f) 0x1F false false ∧ gives (.vimax f) (fun j k => truncInt (8 * e) (max (x j k) (y j k)))) ∧
  (is (.vavg f) 0x20 true false ∧ gives (.vavg f) (fun j k =>
    truncInt (8 * e) (roundToInt f.rnd.toNat (x j k + y j k < 0) (x j k + y j k).natAbs (-1)).1))

/-- 17 R388: the shifts by a lane's own count, zeros in, or copies of the top bit for VSAR, where a count of the width or more
leaves nothing of the value; leading zeros and set bits. No flag is set, the tag is fmt, the latency 4. -/
def Obligations.VectorShifts : Prop := ∀ (s : State) (f : VR),
  let m := f.fmt.toNat
  let e := tagBytes m
  let w := 8 * e
  let x := fun j k => elem e (s.u.srcRow f.a j).data k
  let y := fun j k => elem e (s.u.srcRow f.b j).data k
  let is := fun (i : Instr) (op : BitVec 8) (b : Bool) =>
    encode i = op ++ f.d ++ f.a ++ f.b ++ f.c ++ f.rnd ++ f.cnt ++ f.sat ++ f.fmt ∧
    (i.wellFormed = true → f.rnd = 0 ∧ f.sat = 0 ∧ f.c = 0 ∧ (b = false → f.b = 0) ∧ 4 ≤ m ∧ m ≤ 7)
  let gives := fun (i : Instr) (good : Nat → Nat → Nat → Prop) => s.Passes i → ∃ rows,
    exec i s = .next (s.landV (s.slotFor i) f.d.toNat 4 rows (rows.map (fun _ => 0))) ∧ rows.length = f.cnt.toNat + 1 ∧
    ∀ j r, rows[j]? = some r → r.tag = m ∧ ∀ k, k < 64 / e → good (x j k) (y j k) (elem e r.data k)
  (is (.vshl f) 0x2A true ∧ gives (.vshl f) (fun x y r => ∀ b, b < w → r.testBit b = (decide (y ≤ b) && x.testBit (b - y)))) ∧
  (is (.vshr f) 0x2B true ∧ gives (.vshr f) (fun x y r => ∀ b, b < w → r.testBit b = (decide (b + y < w) && x.testBit (b + y)))) ∧
  (is (.vsar f) 0x2C true ∧ gives (.vsar f) (fun x y r => ∀ b, b < w → r.testBit b = x.testBit (min (b + y) (w - 1)))) ∧
  (is (.vclz f) 0x2D false ∧ gives (.vclz f) (fun x _ r => r ≤ w ∧ (∀ b, b < r → x.testBit (w - 1 - b) = false) ∧
    (r < w → x.testBit (w - 1 - r) = true))) ∧
  (is (.vpopc f) 0x2E false ∧ gives (.vpopc f) (fun x _ r => r = (List.range w).countP (fun b => x.testBit b)))

/-- 17 R383, R387: the logical instructions, VSEL and VCLAMP, lane by lane. 17 R400, 16 R374: a row reduction combines the lanes
of each row by a pairwise tree into lane 0, and a column reduction the rows, one after another, into one row; a NaN of the
first row is canonical from the start (06 R129). -/
def Obligations.VectorBitsAndReductions : Prop :=
  (∀ (s : State) (f : VR),
    let m := f.fmt.toNat
    let e := tagBytes m
    let x := fun j k => elem e (s.u.srcRow f.a j).data k
    let y := fun j k => elem e (s.u.srcRow f.b j).data k
    let z := fun j k => elem e (s.u.srcRow f.c j).data k
    let gives := fun (i : Instr) (lane : Nat → Nat → Flagged) => ∃ rows fl,
      exec i s = .next (s.landV (s.slotFor i) f.d.toNat 4 rows fl) ∧ RowsAre rows fl f.cnt.toNat m e lane
    (s.Passes (.vand f) → gives (.vand f) (fun j k => ⟨x j k &&& y j k, 0⟩)) ∧
    (s.Passes (.vor f) → gives (.vor f) (fun j k => ⟨x j k ||| y j k, 0⟩)) ∧
    (s.Passes (.vxor f) → gives (.vxor f) (fun j k => ⟨x j k ^^^ y j k, 0⟩)) ∧
    (s.Passes (.vsel f) → gives (.vsel f) (fun j k => ⟨if z j k = 0 then y j k else x j k, 0⟩)) ∧
    (s.Passes (.vclamp f) → gives (.vclamp f) (fun j k => clampLane m (x j k) (y j k) (z j k)))) ∧
  (∀ (s : State) (f : VR),
    let m := f.fmt.toNat
    let e := tagBytes m
    let sum := sumLanes m f.rnd.toNat f.sat.toNat
    let gives := fun (i : Instr) (cnt : Nat) (lane : Nat → Nat → Flagged) => ∃ rows fl,
      exec i s = .next (s.landV (s.slotFor i) f.d.toNat 6 rows fl) ∧ RowsAre rows fl cnt m e lane
    let tree := fun (g : Nat → Nat → Flagged) (j k : Nat) =>
      if k = 0 then treeReduce g 6 (elems e (s.u.srcRow f.a j).data) else ⟨0, 0⟩
    let first := fun (v : Nat) => (if isFp m && (readFp m v).isNan then ⟨nanOf m, snanFlag [readFp m v]⟩ else ⟨v, 0⟩ : Flagged)
    let down := fun (g : Nat → Nat → Flagged) (_ k : Nat) => (List.range f.cnt.toNat).foldl (fun (acc : Flagged) j =>
      let r := g acc.val (elem e (s.u.srcRow f.a (j + 1)).data k)
      ⟨r.val, acc.flags ||| r.flags⟩) (first (elem e (s.u.srcRow f.a 0).data k))
    (s.Passes (.vrsum f) → gives (.vrsum f) f.cnt.toNat (tree sum)) ∧
    (s.Passes (.vrmax f) → gives (.vrmax f) f.cnt.toNat (tree (maxLanes m true))) ∧
    (s.Passes (.vrmin f) → gives (.vrmin f) f.cnt.toNat (tree (maxLanes m false))) ∧
    (s.Passes (.tcsum f) → gives (.tcsum f) 0 (down sum)) ∧
    (s.Passes (.tcmax f) → gives (.tcmax f) 0 (down (maxLanes m true))))

/-- 17 R385, R386, R391, R398, R399: the moves, the fills and the permutations, byte by byte or lane by lane of the source's own
tag, and VCRC over the payload of its rows. -/
def Obligations.VectorMoves : Prop := ∀ (s : State) (f : VR) (g : VS),
  let a := fun j => s.u.srcRow f.a j
  let b := fun j => s.u.srcRow f.b j
  let gives := fun (i : Instr) (d : BitVec 11) (n : Nat) (P : Nat → VReg → Prop) => ∃ rows,
    exec i s = .next (s.landV (s.slotFor i) d.toNat 4 rows (rows.map (fun _ => 0))) ∧ rows.length = n + 1 ∧
      ∀ j r, rows[j]? = some r → P j r
  let lanes := fun (t : Nat) (r : VReg) (lane : Nat → Nat) =>
    r.tag = t ∧ ∀ k, k < 64 / tagBytes t → elem (tagBytes t) r.data k = lane k
  let z := g.imm.toNat % 4
  let p := g.imm.toNat / 4 % 64
  (s.Passes (.vmov f) → gives (.vmov f) f.d f.cnt.toNat (fun j r => r = a j)) ∧
  (s.Passes (.vperm f) → gives (.vperm f) f.d f.cnt.toNat (fun j r => r.tag = (a j).tag ∧ ∀ k, k < 64 →
    elem 1 r.data k = if 128 ≤ elem 1 (b j).data k then 0 else elem 1 (a j).data (elem 1 (b j).data k % 64))) ∧
  (s.Passes (.vzip f) → gives (.vzip f) f.d f.cnt.toNat (fun j r => lanes (a j).tag r (fun k =>
    elem (tagBytes (a j).tag) (if k % 2 = 0 then (a j).data else (b j).data) (k / 2)))) ∧
  (s.Passes (.vunz f) → gives (.vunz f) f.d f.cnt.toNat (fun j r => lanes (a j).tag r (fun k =>
    let n := 64 / tagBytes (a j).tag
    if k < n / 2 then elem (tagBytes (a j).tag) (a j).data (2 * k)
    else elem (tagBytes (a j).tag) (b j).data (2 * (k - n / 2))))) ∧
  (s.Passes (.vcrc f) → gives (.vcrc f) f.d 0 (fun _ r => r = ⟨(crcBytes ((s.u.vreg f.d.toNat).data.setWidth 32)
    ((rangeOf f.a f.cnt).flatMap s.u.payload)).setWidth 512, 11⟩)) ∧
  (s.Passes (.vfill g) → gives (.vfill g) g.d g.cnt.toNat (fun _ r => r.tag = g.imm.toNat % 16 ∧ ∀ k, k < 64 →
    elem 1 r.data k = (s.S g.s).toNat / 2 ^ (8 * (k % fillWidth (g.imm.toNat % 16))) % 256)) ∧
  (s.Passes (.vbcs g) → (p + 1) * 2 ^ z ≤ 64 → gives (.vbcs g) g.d g.cnt.toNat (fun j r =>
    r.tag = (s.u.srcRow g.a j).tag ∧ ∀ k, k < 64 →
      elem 1 r.data k = elem 1 (s.u.srcRow g.a j).data (p * 2 ^ z + k % 2 ^ z))) ∧
  (s.Passes (.vsld g) → gives (.vsld g) g.d g.cnt.toNat (fun j r => r.tag = (s.u.srcRow g.a j).tag ∧ ∀ k, k < 64 →
    let n := g.imm.toNat % 128
    elem 1 r.data k = if g.imm.toNat / 128 % 2 = 0 then (if k + n < 64 then elem 1 (s.u.srcRow g.a j).data (k + n) else 0)
      else if n ≤ k then elem 1 (s.u.srcRow g.a j).data (k - n) else 0))

/-- 17 R392 to R394, R390: VCVT, VDQN, VQNT and VCMPR, with latency 6: each conversion row by row, the quantised rows followed
by their trailer, and the kept values from d with the masks from b. -/
def Obligations.VectorConversions : Prop := ∀ (s : State) (f : VR),
  let m := f.fmt.toNat
  let e := tagBytes m
  let a := fun j => s.u.srcRow f.a j
  let fs := (s.u.vreg f.a.toNat).tag
  let xs := fun j => fpValues fs (a j).data
  let qs := fun j => quantRow m f.rnd.toNat f.sat.toNat (xs j)
  let p := 64 / tagBytes fs / 16 * bseBlock m
  (s.Passes (.vcvt f) → ∃ rows fl, exec (.vcvt f) s = .next (s.landV (s.slotFor (.vcvt f)) f.d.toNat 6 rows fl) ∧
    RowsAre rows fl f.cnt.toNat m e (fun j k => if k < 64 / tagBytes (a j).tag then
      convert (a j).tag m f.rnd.toNat f.sat.toNat (elem (tagBytes (a j).tag) (a j).data k) else ⟨0, 0⟩)) ∧
  (s.Passes (.vdqn f) → ∃ rows fl, exec (.vdqn f) s = .next (s.landV (s.slotFor (.vdqn f)) f.d.toNat 6 rows fl) ∧
    RowsAre rows fl f.cnt.toNat m e (fun j k =>
      match ((rowBlocks (a j).tag (s.u.rowb (f.a.toNat + j)) (a j).data).flatMap (bseValues (a j).tag))[k]? with
      | some v => roundFmt m f.rnd.toNat 0 v
      | none => ⟨0, 0⟩)) ∧
  (s.Passes (.vqnt f) → ∃ rows tr fl,
    exec (.vqnt f) s = .next (s.landV (s.slotFor (.vqnt f)) f.d.toNat 6 (rows ++ [⟨tr, 11⟩]) fl) ∧
    rows = (List.range (f.cnt.toNat + 1)).map (fun j => ⟨ofBlocks m ((qs j).map Quantised.block), m⟩) ∧
    tr = bytesRow (trailerBytes (amaxBits ((List.range (f.cnt.toNat + 1)).flatMap xs))
      (((List.range (f.cnt.toNat + 1)).flatMap qs).map Quantised.satcount).sum
      (rows.flatMap (fun r => (rowBytes r.data).take p)) m (f.cnt.toNat + 1) p)) ∧
  (s.Passes (.vcmpr f) → ∃ t pre g h, exec (.vcmpr f) s = .next t ∧ t.u.flights = pre ++ [g, h] ∧
    let out := fun j => compressRow m (s.u.rowb (f.a.toNat + j)) (a j).data
    g.dest = .vector f.d.toNat ∧ h.dest = .vector f.b.toNat ∧ g.land = s.now + 6 ∧ h.land = s.now + 6 ∧ h.pair = true ∧
    g.rows = (List.range (f.cnt.toNat + 1)).map (fun j => (out j).1.row) ∧
    h.rows = (List.range (f.cnt.toNat + 1)).map (fun j => (out j).2))

/-- 05 R114, 16 R372, R373, R379: TCFG gives a group its shape and sixteen zero rows from the next cycle on, TREL clears CONF
and DIRTY, TCRD gathers and TCWR writes one 4-byte column, and TTRN transposes, its rows 20 cycles later. -/
def Obligations.TileOperations : Prop := ∀ (s : State) (t ta : BitVec 7) (rows fmt idx : BitVec 4) (rowb : BitVec 5) (v : BitVec 11),
  let src := fun j => (s.u.vreg (16 * t.toNat + j)).data
  let ga := s.u.group ta.toNat
  let e := if ga.gfmt = 11 then 4 else tagBytes ga.gfmt
  (s.Passes (.tcfg t rows rowb fmt) → ∃ n pre f g, exec (.tcfg t rows rowb fmt) s = .next n ∧
    n.u.flights = pre ++ [f, g] ∧
    f.dest = .shape t.toNat ⟨true, rows.toNat + 1, (rowb.toNat + 1) * 4, fmt.toNat, true, s.u.who⟩ ∧ f.land = s.now + 1 ∧
    g.dest = .vector (16 * t.toNat) ∧ g.land = s.now + 1 ∧ g.same = true ∧ g.rows = List.replicate 16 ⟨0, fmt.toNat⟩) ∧
  (s.Passes (.trel t) → exec (.trel t) s = .next
    (s.landShape (s.slotFor (.trel t)) t.toNat { s.u.group t.toNat with conf := false, dirty := false })) ∧
  (s.Passes (.tcrd t v idx) → ∃ out fl, exec (.tcrd t v idx) s = .next (s.landV (s.slotFor (.tcrd t v idx)) v.toNat 6 out fl) ∧
    RowsAre out fl 0 (s.u.group t.toNat).gfmt 4 (fun _ k =>
      ⟨if k < s.u.tileRows t.toNat then elem 4 (src k) idx.toNat else 0, 0⟩)) ∧
  (s.Passes (.tcwr t v idx) → ∃ out, exec (.tcwr t v idx) s =
      .next (s.landTile (s.slotFor (.tcwr t v idx)) t.toNat 6 out) ∧ out.length = s.u.tileRows t.toNat ∧
    ∀ j r, out[j]? = some r → r.tag = (s.u.group t.toNat).gfmt ∧ ∀ k, k < 16 →
      elem 4 r.data k = if k = idx.toNat then elem 4 (s.u.vreg v.toNat).data j else elem 4 (src j) k) ∧
  (s.Passes (.ttrn t ta) → ∃ n pre f g, exec (.ttrn t ta) s = .next n ∧ n.u.flights = pre ++ [f, g] ∧
    f.dest = .shape t.toNat ⟨true, ga.rowb / e, 4 * ((ga.rows * e + 3) / 4), ga.gfmt, true, s.u.who⟩ ∧ f.land = s.now + 1 ∧
    g.dest = .vector (16 * t.toNat) ∧ g.land = s.now + 20 ∧ g.rows.length = 16 ∧
    ∀ j r, g.rows[j]? = some r → r.tag = ga.gfmt ∧ ∀ k, k < 64 / e → elem e r.data k =
      if j < ga.rowb / e ∧ k < ga.rows then elem e (s.u.vreg (16 * ta.toNat + k)).data j else 0)

/-- 16 R350, R351, 02 R61, 08 R182: each matrix command enters the M buffer behind the others with its word, the operands, shape
mask and PROM as they stand at issue, not yet running; MCFG also writes the configuration word at once. Memory and the
registers do not change. 15 R331, 02 R61, 08 R187: each copy command enters the C buffer behind the others with its operands
as they stand at issue, not yet running; CPYT clears its mask unless RESUME is set. Memory does not change. 09 R196: the
start of either command becomes an access of its class, behind those outstanding; SPILL and FILL have none. 02 R55: the
writes still to land keep everything but their marks of being overtaken. The clause that the matrix command carries the handle of its register as it stands at issue is the model's (log 29): no rule lists the handle among what is captured. -/
def Obligations.CommandsEnter : Prop :=
  let plain := fun (f : Flight) => { f with overtaken := [] }
  (∀ (s : State) (f : MA),
    let enters := fun (i : Instr) => ∃ t c, exec i s = .next t ∧
      t.core = { s.core with matrix := { s.core.matrix with buf := s.core.matrix.buf ++ [c] } } ∧
      c.who = s.u.who ∧ c.word = encode i ∧ c.sav = s.S f.sa ∧ c.snv = s.S f.sn ∧ c.hnd = s.u.handle f.h.toNat ∧
      c.mask = s.u.regs.sr.ashape.toNat % 16 ∧ c.prom = s.u.regs.sr.prom.toNat % 8 ∧ c.epc = s.u.pc ∧ c.entered = s.now ∧
      c.running = false ∧ c.next = 0 ∧ t.mem = s.mem ∧ t.u.regs = s.u.regs ∧ t.u.flights.map plain = s.u.flights.map plain ∧
      t.u.accs = s.u.accs ++ [⟨.start true, mOc (encode i), [], 3, s.u.pc, 0, s.now, 0, false, [], []⟩] ∧
      t.u.cfg = if mOp (encode i) = 1 then s.S f.sn &&& 1 else s.u.cfg
    (s.Passes (.mcfg f) → enters (.mcfg f)) ∧ (s.Passes (.mscl f) → enters (.mscl f)) ∧
    (s.Passes (.mlds f) → enters (.mlds f)) ∧ (s.Passes (.mldsT f) → enters (.mldsT f)) ∧
    (s.Passes (.mldsh f) → enters (.mldsh f)) ∧ (s.Passes (.mldsp f) → enters (.mldsp f)) ∧
    (s.Passes (.mswp f) → enters (.mswp f)) ∧ (s.Passes (.mstr f) → enters (.mstr f)) ∧
    (s.Passes (.mstrT f) → enters (.mstrT f)) ∧ (s.Passes (.mstrh f) → enters (.mstrh f)) ∧
    (s.Passes (.mgrp f) → enters (.mgrp f)) ∧ (s.Passes (.msps f) → enters (.msps f)) ∧
    (s.Passes (.mza f) → enters (.mza f)) ∧ (s.Passes (.mwra f) → enters (.mwra f)) ∧
    (s.Passes (.mrda f) → enters (.mrda f)) ∧ (s.Passes (.mrds f) → enters (.mrds f))) ∧
  (∀ (s : State) (f : CC),
    let enters := fun (i : Instr) (op : Nat) => ∃ t c, exec i s = .next t ∧
      t.core = { s.core with cbuf := s.core.cbuf ++ [c] } ∧
      c.who = s.u.who ∧ c.op = op ∧ c.tok = f.tok.toNat ∧ c.sa = s.S f.sa ∧ c.sd = s.S f.sd ∧ c.sl = s.S f.sl ∧
      c.oc = f.oc.toNat ∧ c.epc = s.u.pc ∧ c.entered = s.now ∧ c.running = false ∧ c.moved = 0 ∧
      t.mem = s.mem ∧ t.u.flights.map plain = s.u.flights.map plain ∧
      t.u.accs = s.u.accs ++
        [⟨.start false, if op = 0x10 ∨ op = 0x11 then 16 else f.oc.toNat, [], 6, s.u.pc, 0, s.now, 0, false, [], []⟩] ∧
      t.u.regs = if op = 3 ∧ (s.S f.sl).getLsbD 63 = false then (s.u.setMask (f.md.toNat % 8) 0).regs else s.u.regs
    (s.Passes (.cpy f) → enters (.cpy f) 0x01) ∧ (s.Passes (.cpy2 f) → enters (.cpy2 f) 0x02) ∧
    (s.Passes (.cpyt f) → enters (.cpyt f) 0x03) ∧ (s.Passes (.cpym f) → enters (.cpym f) 0x04) ∧
    (s.Passes (.cpyk f) → enters (.cpyk f) 0x05) ∧ (s.Passes (.cpyc f) → enters (.cpyc f) 0x06) ∧
    (s.Passes (.cpya f) → enters (.cpya f) 0x07) ∧ (s.Passes (.cpyg f) → enters (.cpyg f) 0x08) ∧
    (s.Passes (.cpys f) → enters (.cpys f) 0x09) ∧ (s.Passes (.cpyf f) → enters (.cpyf f) 0x0A) ∧
    (s.Passes (.pref f) → enters (.pref f) 0x0B) ∧ (s.Passes (.collRs f) → enters (.collRs f) 0x0C) ∧
    (s.Passes (.collAg f) → enters (.collAg f) 0x0D) ∧ (s.Passes (.collAr f) → enters (.collAr f) 0x0E) ∧
    (s.Passes (.collBc f) → enters (.collBc f) 0x0F) ∧ (s.Passes (.spill f) → enters (.spill f) 0x10) ∧
    (s.Passes (.fill f) → enters (.fill f) 0x11) ∧ (s.Passes (.zfill f) → enters (.zfill f) 0x12))

/-- 16 R355, 15 R326, 08 R189: MCAN takes every command of the unit out of the buffer, and a plane that one was loading becomes
INVALID; CCAN ends the unit's copy of the token, no collective, with code 6 and the bytes moved (a CPYK whose scalar is another
register than its token); without a copy of the token it changes nothing. -/
def Obligations.CancelsTakeCommandsOut : Prop := ∀ (s : State) (f : MA) (g : CC),
  (s.Passes (.mcan f) → ∃ t, exec (.mcan f) s = .next t ∧
    t.core.matrix.buf = s.core.matrix.buf.filter (fun c => decide (c.who ≠ s.u.who)) ∧
    (s.core.matrix.buf.any (fun c => decide (c.who = s.u.who) && c.running && isLoadOp (mOp c.word)) = true →
      s.core.matrix.shadow.st = .loading → t.core.matrix.shadow.st = .invalid) ∧ t.mem = s.mem ∧ t.u = s.u) ∧
  (s.Passes (.ccan g) → ∀ c, s.core.cbuf.find? (fun c => decide (c.who = s.u.who) && c.tok = g.tok.toNat) = some c →
    c.coll = false → g.tok ≠ 0 → (c.op ≠ 5 ∨ c.mreg % 64 ≠ c.tok) → wfTab 0 s.u.regs.s = true →
    ∃ t, exec (.ccan g) s = .next t ∧ t.u.scalar g.tok.toNat = BitVec.ofNat 64 (6 + 65536 * c.moved) ∧
      t.core.cbuf = s.core.cbuf.filter (fun x => x.seq ≠ c.seq) ∧ t.mem = s.mem) ∧
  (s.Passes (.ccan g) → s.core.cbuf.find? (fun c => decide (c.who = s.u.who) && c.tok = g.tok.toNat) = none →
    exec (.ccan g) s = .next s)

/-- 15 R342, R343, 02 R51: a scalar load from the unit's own scratchpad, its granules sound, lands the 1, 2, 4 or 8 bytes at its
address six cycles later, sign-extended or not. 15 R343, 02 R53, 09 R196: a scalar load from another space becomes the
strand's last outstanding access, with the bytes it reaches and the class of its oc field; no register changes yet. -/
def Obligations.ScalarLoads : Prop :=
  (∀ (s : State) (f : MemF),
    let lands := fun (i : Instr) (log : Nat) (sg : Bool) => s.Passes i → ∀ sp, s.memSpan 4 f log kRead true = .ok sp →
      sp.space = 0 → (∀ a ∈ sp.homes, s.mem.eccOf a = .clean) →
      let x := bytesNat (sp.homes.map s.mem.byte)
      exec i s = .next (s.landS 4 (f.r.setWidth 6)
        (if sg then BitVec.ofInt 64 (signedAt (8 * 2 ^ log) x) else BitVec.ofNat 64 x) 6)
    lands (.ldB f) 0 true ∧ lands (.ldBu f) 0 false ∧ lands (.ldH f) 1 true ∧ lands (.ldHu f) 1 false ∧
    lands (.ldW f) 2 true ∧ lands (.ldWu f) 2 false ∧ lands (.ldD f) 3 false) ∧
  (∀ (s : State) (f : MemF),
    let pends := fun (i : Instr) (log : Nat) (sg : Bool) => s.Passes i → ∀ sp, s.memSpan 4 f log kRead true = .ok sp →
      sp.space ≠ 0 → ∃ t, exec i s = .next t ∧ t.u.regs = s.u.regs ∧ t.mem = s.mem ∧
        t.u.accs = s.u.accs ++ [⟨.load (f.r.toNat % 64) (2 ^ log) sg, f.oc.toNat, [sp], 4, s.u.pc, f.svc.toNat, s.now,
          s.deadlineLeft, false, s.blocksAt sp.homes, []⟩]
    pends (.ldB f) 0 true ∧ pends (.ldBu f) 0 false ∧ pends (.ldH f) 1 true ∧ pends (.ldHu f) 1 false ∧
    pends (.ldW f) 2 true ∧ pends (.ldWu f) 2 false ∧ pends (.ldD f) 3 false)

/-- 17 R396, R397: VLD, VLDS and VLDB take shape and tag from the register's group: from the unit's own scratchpad, its granules
sound, the row lands six cycles later, a BSE row with zeros after its last whole block (05 R113); from elsewhere it becomes an
outstanding access. 16 R359, R375, R377, R360: TLD, THDL
and PEEK become outstanding accesses that will write their tile, handle or scalar; PLD asks for the line of its address, or
does nothing where the address fails its check. -/
def Obligations.VectorAndTileLoads : Prop :=
  (∀ (s : State) (f : MemF),
    let sh := s.u.rowShape f.r.toNat
    let loads := fun (i : Instr) (mode : Nat) => s.Passes i → ∀ sps, s.rowSpans 4 f mode false = .ok sps →
      let homes := sps.flatMap Span.homes
      let raw := homes.map s.mem.byte
      let bs := if isBse sh.fmt then takePad 0 raw.length (raw.take (wholeBytes sh.fmt raw.length)) else raw
      (f.sp = 0 → (∀ a ∈ homes, s.mem.eccOf a = .clean) → exec i s = .next (s.landV 4 f.r.toNat 6
        [⟨bytesRow ((if mode = 2 then repeatTo (sh.k * sh.u) bs else bs).take sh.width), sh.fmt⟩] [])) ∧
      (f.sp ≠ 0 → ∃ t, exec i s = .next t ∧ t.u.regs = s.u.regs ∧ t.mem = s.mem ∧ t.u.accs = s.u.accs ++
        [⟨.vload f.r.toNat sh.width sh.fmt (mode = 2), f.oc.toNat, sps, 4, s.u.pc, f.svc.toNat, s.now, s.deadlineLeft, false,
          s.blocksAt homes, []⟩])
    loads (.vld f) 0 ∧ loads (.vlds f) 1 ∧ loads (.vldb f) 2) ∧
  (∀ (s : State) (f : MemF) (g : MemT),
    let h := readHandle (s.u.handle g.h.toNat)
    (s.Passes (.tld g) → ∀ sps, s.tilePlan 4 g false = .ok sps → ∃ t, exec (.tld g) s = .next t ∧ t.u.regs = s.u.regs ∧
      t.mem = s.mem ∧ t.u.accs = s.u.accs ++ [⟨.tld g.t.toNat h.fmt h.rows h.rowb g.h.toNat h.trl, g.oc.toNat, sps, 4, s.u.pc,
        g.svc.toNat, s.now, s.deadlineLeft, false, s.blocksAt (sps.flatMap Span.homes), []⟩]) ∧
    (s.Passes (.thdl f) → ∀ sp, s.memSpan 4 f 5 kRead true = .ok sp → ∃ t, exec (.thdl f) s = .next t ∧ t.u.regs = s.u.regs ∧
      t.mem = s.mem ∧ t.u.accs = s.u.accs ++
        [⟨.thdl (f.r.toNat % 32), f.oc.toNat, [sp], 4, s.u.pc, f.svc.toNat, s.now, s.deadlineLeft, false, s.blocksAt sp.homes, []⟩]) ∧
    (s.Passes (.peek f) → ∀ sp, s.memSpan 4 f 3 kRead true = .ok sp → ∃ t, exec (.peek f) s = .next t ∧ t.u.regs = s.u.regs ∧
      t.mem = s.mem ∧ t.u.accs = s.u.accs ++
        [⟨.peek (f.r.toNat % 64), f.oc.toNat, [sp], 4, s.u.pc, f.svc.toNat, s.now, s.deadlineLeft, false, s.blocksAt sp.homes, []⟩]) ∧
    (s.Passes (.pld f) → ∀ sp, s.check 4 (s.effAddr f) 1 kRead 0 = .ok sp → ∃ t a, exec (.pld f) s = .next t ∧
      t.u.regs = s.u.regs ∧ t.mem = s.mem ∧ t.u.accs = s.u.accs ++ [a] ∧ a.act = .pld ∧ a.svc = f.svc.toNat ∧
      a.spans.flatMap Span.homes = List.range' (sp.homes.headD 0 / 64 * 64) 64) ∧
    (s.Passes (.pld f) → ∀ t, s.check 4 (s.effAddr f) 1 kRead 0 = .error t → exec (.pld f) s = .next s))

/-- 15 R341, 07 R165: LDB of 1 to 64 lines is granted a block and asks for its lines; with no free tag, too few lines, an
overlap or a count out of range its token will hold code 1, 2, 3 or 4, and no block is granted. A block that LBF frees counts no
more. That a block which LBF frees counts no more from its issue on, while its write-back is outstanding, is the model's choice (log 42). -/
def Obligations.BlockLoads : Prop := ∀ (s : State) (f : MemF),
  let n := (s.S f.o).toNat
  let r := f.r.toNat % 64
  let live := s.core.blocks.filter (fun b => !b.leaving)
  let used := (live.map Block.lines).sum
  let asks := fun (a : Act) (sps : List Span) (t : State) => t.u.accs = s.u.accs ++
    [⟨a, f.oc.toNat, sps, 4, s.u.pc, f.svc.toNat, s.now, s.deadlineLeft, false, s.blocksAt (sps.flatMap Span.homes), []⟩] ∧ t.mem = s.mem ∧ t.u.regs = s.u.regs
  s.Passes (.ldb f) →
  ((n = 0 ∨ 64 < n) → ∃ t, exec (.ldb f) s = .next t ∧ asks (.value r 4) [] t ∧ t.core = s.core) ∧
  (1 ≤ n → n ≤ 64 → ∀ sp, s.check 4 (s.effAddr f) (64 * n) kRead 6 = .ok sp →
    let base := sp.homes.headD 0
    let meets := live.any (fun b => decide (b.who = s.u.who) && (b.base < base + 64 * n && base < b.base + 64 * b.lines))
    (16 ≤ live.length → ∃ t, exec (.ldb f) s = .next t ∧ asks (.value r 1) [] t ∧ t.core = s.core) ∧
    (live.length < 16 → 1024 < used + n →
      ∃ t, exec (.ldb f) s = .next t ∧ asks (.value r 2) [] t ∧ t.core = s.core) ∧
    (live.length < 16 → used + n ≤ 1024 → meets = true →
      ∃ t, exec (.ldb f) s = .next t ∧ asks (.value r 3) [] t ∧ t.core = s.core) ∧
    (live.length < 16 → used + n ≤ 1024 → meets = false → ∃ t b, exec (.ldb f) s = .next t ∧
      asks (.ldb r n base b.id) [sp] t ∧ t.core.blocks = s.core.blocks ++ [b] ∧ b.who = s.u.who ∧ b.base = base ∧ b.lines = n ∧
      b.dirty = [] ∧ b.filled = 0 ∧ b.leaving = false ∧ b.id = s.core.nextBlock))

/-- 16 R371, R377, 17 R397, 15 R341: a store becomes the strand's last outstanding access with the bytes that its source holds
at issue, at the addresses of its check; LBF leaves such an access over its block's bytes, and the block is leaving; one that
names no block of the unit does nothing. Memory and the registers do not change before the store performs. 15 R318 to R320: an atomic becomes an outstanding access with its operation, the
operand and the register that will receive the old value; ACAS also takes the comparison value from that register. That LBF is one access over its block's bytes and that the block leaves at issue is the model's choice (log 42). -/
def Obligations.StoresAndAtomicsPend : Prop :=
  (∀ (s : State) (f : MemF) (g : MemT),
    let pends := fun (i : Instr) (oc svc : Nat) (data : List (List Byte)) (sps : List Span) => ∃ t, exec i s = .next t ∧
      t.u.regs = s.u.regs ∧ t.mem = s.mem ∧
      t.u.accs = s.u.accs ++ [⟨.store data, oc, sps, 5, s.u.pc, svc, s.now, s.deadlineLeft, false, s.blocksAt (sps.flatMap Span.homes), []⟩]
    let scalar := fun (i : Instr) (log : Nat) => s.Passes i → ∀ sp, s.memSpan 5 f log kWrite false = .ok sp →
      pends i f.oc.toNat f.svc.toNat [(wordBytes (s.u.scalar (f.r.toNat % 64))).take (2 ^ log)] [sp]
    let row := rowBytes (s.u.vreg f.r.toNat).data
    let sh := s.u.rowShape f.r.toNat
    let h := readHandle (s.u.handle g.h.toNat)
    let regs := (rowsOf g.t.toNat h.rows).map s.u.vreg
    let rows := regs.map (fun r => (rowBytes r.data).take h.rowb)
    let a := s.effAddr f
    let base := extBase (s.u.ext (pXi a)) + pOff a
    scalar (.stB f) 0 ∧ scalar (.stH f) 1 ∧ scalar (.stW f) 2 ∧ scalar (.stD f) 3 ∧
    (s.Passes (.vst f) → ∀ sps, s.rowSpans 5 f 0 true = .ok sps →
      pends (.vst f) f.oc.toNat f.svc.toNat [row.take sh.width] sps) ∧
    (s.Passes (.vsts f) → ∀ sps, s.rowSpans 5 f 1 true = .ok sps →
      pends (.vsts f) f.oc.toNat f.svc.toNat (pieces sh.u sh.k row) sps) ∧
    (s.Passes (.tst g) → ∀ sps, s.tilePlan 5 g true = .ok sps → pends (.tst g) g.oc.toNat g.svc.toNat
      (rows ++ if h.trl then [trailerBytes (amaxBits (regs.flatMap (fun r =>
        (rowBlocks h.fmt h.rowb r.data).flatMap (bseValues h.fmt)))) 0 rows.flatten h.fmt h.rows h.rowb] else []) sps) ∧
    let mine := (s.core.blocks.filter (fun b => !b.leaving)).find? (fun b => decide (b.who = s.u.who) && b.base = base)
    (s.Passes (.lbf f) → mine = none → exec (.lbf f) s = .next s) ∧
    (s.Passes (.lbf f) → ∀ b, mine = some b →
      ∃ t sp, exec (.lbf f) s = .next t ∧ t.u.regs = s.u.regs ∧ t.mem = s.mem ∧ sp.homes = List.range' b.base (64 * b.lines) ∧
        t.u.accs = s.u.accs ++ [⟨.lbf b.id, f.oc.toNat, [sp], 5, s.u.pc, f.svc.toNat, s.now, s.deadlineLeft, false,
          s.blocksAt sp.homes, []⟩] ∧
        t.core = { s.core with blocks := updFirst (fun x => x.id = b.id) (fun x => { x with leaving := true }) s.core.blocks })) ∧
  (∀ (s : State) (f : MemF),
    let pends := fun (i : Instr) (op : AtomOp) (cmp : Word) => s.Passes i → ∀ sp, s.memSpan 5 f 3 kBoth true = .ok sp →
      ∃ t, exec i s = .next t ∧ t.u.regs = s.u.regs ∧ t.mem = s.mem ∧ t.u.accs = s.u.accs ++
        [⟨.atomic op (s.S f.o) cmp (f.r.toNat % 64), f.oc.toNat, [sp], 5, s.u.pc, f.svc.toNat, s.now, s.deadlineLeft, false,
          s.blocksAt sp.homes, []⟩]
    pends (.aadd f) .add 0 ∧ pends (.aminS f) .minS 0 ∧ pends (.aminU f) .minU 0 ∧ pends (.amaxS f) .maxS 0 ∧
    pends (.amaxU f) .maxU 0 ∧ pends (.aand f) .and 0 ∧ pends (.aor f) .or 0 ∧ pends (.axor f) .xor 0 ∧
    pends (.aswp f) .swp 0 ∧ pends (.acas f) .cas (s.u.scalar (f.r.toNat % 64)) ∧ pends (.afadd f) .fadd 0 ∧
    pends (.afmin f) .fmin 0 ∧ pends (.afmax f) .fmax 0)

/-- 09 R195, 13 R284, 09 R207: an outstanding store of bytes of one word that may perform, outside the unit's blocks and with its granules
sound, writes its bytes at its homes and no other byte of memory, and leaves the word EMPTY. 09 R197: of a store of a range of several
words, the bytes in the first word are written, and it stays outstanding with the rest; that words come in ascending order is the
model's choice (log 90). 15 R343, 02 R53: an
outstanding scalar load that may perform, its granules sound, puts its bytes into its register, sign-extended or not, and no
byte of memory changes; s0 keeps zero. 15 R318, R319, 09 R203: an integer atomic that may perform, at a sound word, puts the
old word into its register and the new one into memory, where no other byte changes. Said of AADD, ASWP and ACAS. -/
def Obligations.AccessesPerform : Prop :=
  (∀ (s : State) (k : Nat) (a : Access) (data : List Byte) (sp : Span),
    s.mem.wf = true → s.u.accs[k]? = some a → a.act = .store [data] → a.spans = [sp] → sp.peer = none → a.deadline = 0 →
    s.eligible k = true → sp.homes.Nodup → data.length = sp.homes.length → a.part = [] →
    (∀ h ∈ sp.homes, h / 8 = sp.homes.headD 0 / 8) →
    (∀ h ∈ sp.homes, s.blockOf a.blks h = none ∧ s.mem.eccOf h = .clean) →
    ∃ t, exec (.writePerforms k) s = .next t ∧
      (∀ (n : Nat) (h : Nat) (b : Byte), sp.homes[n]? = some h → data[n]? = some b → t.mem.byte h = b) ∧
      (∀ h, h ∉ sp.homes → t.mem.byte h = s.mem.byte h) ∧ (∀ h ∈ sp.homes, t.mem.isFull h = false) ∧
      t.u.regs = s.u.regs ∧ t.u.accs = dropAt s.u.accs k) ∧
  (∀ (s : State) (k b n : Nat) (a : Access) (data : List Byte) (sp : Span),
    s.mem.wf = true → s.u.accs[k]? = some a → a.act = .store [data] → a.spans = [sp] → sp.peer = none →
    s.eligible k = true → sp.homes = List.range' b n → data.length = n → 8 - b % 8 < n → a.part = [] →
    (∀ h ∈ sp.homes, s.blockOf a.blks h = none ∧ s.mem.eccOf h = .clean) →
    let w := 8 - b % 8
    ∃ t, exec (.writePerforms k) s = .next t ∧
      (∀ (i : Nat) (x : Byte), i < w → data[i]? = some x → t.mem.byte (b + i) = x) ∧
      (∀ h, h < b ∨ b + w ≤ h → t.mem.byte h = s.mem.byte h) ∧ t.u.regs = s.u.regs ∧
      t.u.accs = s.u.accs.set k { a with part := (data.take w).map (fun x => (x, false)) }) ∧
  (∀ (s : State) (k r n : Nat) (sg : Bool) (a : Access) (sp : Span),
    s.u.accs[k]? = some a → a.act = .load r n sg → a.spans = [sp] → sp.peer = none → a.deadline = 0 → s.eligible k = true →
    (∀ h ∈ sp.homes, s.mem.eccOf h = .clean) → wfTab 0 s.u.regs.s = true →
    let x := bytesNat (sp.homes.map (s.loadByte a.blks))
    ∃ t, exec (.scoreboardLanding k) s = .next t ∧ SameMemory s t ∧ t.u.accs = dropAt s.u.accs k ∧
      t.u.scalar r = if r = 0 then 0 else if sg then BitVec.ofInt 64 (signedAt (8 * n) x) else BitVec.ofNat 64 x) ∧
  (∀ (s : State) (k r h : Nat) (op : AtomOp) (v cmp : Word) (a : Access) (sp : Span),
    s.mem.wf = true → s.u.accs[k]? = some a → a.act = .atomic op v cmp r → a.spans = [sp] → sp.peer = none → a.deadline = 0 →
    s.eligible k = true → sp.homes = List.range' h 8 → h % 8 = 0 → s.mem.eccOf h = .clean → wfTab 0 s.u.regs.s = true →
    op = .add ∨ op = .swp ∨ op = .cas →
    let old := s.mem.word h
    let new := match op with | .add => old + v | .swp => v | _ => if old = cmp then v else old
    ∃ t, exec (.scoreboardLanding k) s = .next t ∧ t.mem.word h = new ∧
      (∀ b, b < h ∨ h + 8 ≤ b → t.mem.byte b = s.mem.byte b) ∧ t.u.scalar r = if r = 0 then 0 else old)

/-- 09 R198, 16 R347, R358, R368, 15 R339, R340: FENCE, SIG, MARK, HIBQ and OWN.E become outstanding accesses, in program order
behind the others; HINT schedules ESTIMATE one cycle later; OWN.P clears the pins of its chunks and of pending flips. That OWN.P takes its chunks out of the flips of a pending OWN.E is the model's choice (log 41). -/
def Obligations.SynchronisationPends : Prop := ∀ (s : State) (sa sb d : BitVec 6) (oc : BitVec 4) (mask tag : BitVec 16)
    (scope : BitVec 3) (which : BitVec 2),
  let pends := fun (i : Instr) (a : Act) (cls : Nat) (sps : List Span) => ∃ t, exec i s = .next t ∧ t.u.regs = s.u.regs ∧
    t.mem = s.mem ∧ t.core = s.core ∧ t.u.accs = s.u.accs ++ [⟨a, cls, sps, 7, s.u.pc, 1, s.now, 0, false, s.blocksAt (sps.flatMap Span.homes), []⟩]
  (s.Passes (.fence mask scope) → pends (.fence mask scope) (.fence mask.toNat scope.toNat) 16 []) ∧
  (s.Passes (.sig sa sb oc d) → ∀ sp, s.sigSpan (s.S sa) kBoth = .ok sp →
    pends (.sig sa sb oc d) (.atomic .add (s.S sb) 0 d.toNat) oc.toNat [sp]) ∧
  (s.Passes (.mark sa tag) → pends (.mark sa tag) (.mark tag.toNat (s.S sa)) 16 []) ∧
  (s.Passes (.hibq d which) → pends (.hibq d which) (.hibq d.toNat which.toNat) 16 []) ∧
  (s.Passes (.hint sa) → exec (.hint sa) s =
    .next (s.sched 7 (.special 0x13) 1 [⟨(s.S sa).setWidth 512, 0⟩] false 0 0)) ∧
  (s.Passes (.ownE sa sb) → ∀ sp, s.ownSpan (s.S sa) (s.S sb) = .ok sp → sp.homes ≠ [] →
    pends (.ownE sa sb) .pin 16 [sp]) ∧
  (s.Passes (.ownP sa sb) → ∀ sp, s.ownSpan (s.S sa) (s.S sb) = .ok sp → ∃ t, exec (.ownP sa sb) s = .next t ∧
    t.mem = s.mem ∧ t.u.regs = s.u.regs ∧
    (∀ k, k ∈ t.core.pinned ↔ k ∈ s.core.pinned ∧ k ∉ chunksOf sp.homes) ∧
    ∀ a ∈ t.u.accs, a.act = .pin → ∀ sp' ∈ a.spans, ∀ h ∈ sp'.homes, chunkOf h ∉ chunksOf sp.homes)

/-- 17 R402, R403, R406, 01 R43: WCHK and WENG wait before they issue and change nothing as they do; YIELD counts the strand's
hold on issue as a full quantum. 16 R376: TICKW issues once TICK has reached its target; before that the unit is BLOCKED. 02
R48, R49, R52: a bundle with no slot enabled is no operation: where it pops nothing, the next bundle follows it outside
loops, its cycle is the one that the next WAIT counts from, and at a period both slacks become 0. -/
def Obligations.WaitsComplete : Prop :=
  (∀ (s : State) (m : BitVec 3) (sm : BitVec 6) (eng : BitVec 2),
    (s.Passes (.wchk m sm) → exec (.wchk m sm) s = .next s) ∧ (s.Passes (.weng eng) → exec (.weng eng) s = .next s) ∧
    (s.Passes .yield → exec .yield s = .next { s with core := { s.core with yielded := true } }) ∧
    (s.waitsEngine (.wchk m sm) = true ↔ s.u.mask m.toNat &&& s.S sm ≠ s.S sm) ∧
    (s.waitsEngine (.weng eng) = true ↔ (eng ≠ 1 ∧ s.core.commandsOf s.u.who ≠ []) ∨ (eng ≠ 0 ∧ s.core.copiesOf s.u.who ≠ []))) ∧
  (∀ (s : State) (sv : BitVec 6),
    s.Passes (.tickw sv) → s.waiters = [] →
    ((s.S sv).toNat ≤ s.window.tick → s.window.tick < 2 ^ 64 → exec (.tickw sv) s = .next s) ∧
    (s.window.tick < (s.S sv).toNat → exec (.tickw sv) s = .next { s with u := { s.u with st := .blocked } })) ∧
  (∀ (s : State) (p : Bool) (wait : BitVec 5),
    s.u.target = none → s.u.loops = [] → ∃ t, exec (.emptyBundle p wait 0) s = .next t ∧ t.u.pc = s.u.pc + 1 ∧
      t.u.time.prevIssue = s.now ∧ t.u.regs = s.u.regs ∧ t.mem = s.mem ∧
      t.u.time.mslack = (if p then 0 else s.u.time.mslack) ∧ t.u.time.cslack = (if p then 0 else s.u.time.cslack))

/-- 15 R322, 07 R155: ALLOC of a size, a life and a place that are there grants the lowest base and records the allocation,
expiring after its life or the retention, whichever is less; its failures give their codes and grant nothing. 15 R337, 16
R364, 07 R159, R160: FREE takes back the allocation whose base it names, with the pins of its chunks (what the unit has outstanding in
them performs first, log 100); RENEW restarts its
life. That a grant takes the lowest free chunks is the model's choice (log 40). -/
def Obligations.Allocations : Prop :=
  (∀ (s : State) (d sz lf : BitVec 6) (h st k : Bool),
    let z := (s.S sz).toNat
    let life := (s.S lf).toNat
    let i : Instr := .alloc d sz lf h st k
    let answers := fun (v : Word) (t : State) => ∃ pre, t.u.accs = pre ++ [⟨.granted d.toNat v, 16, [], 7, s.u.pc, 1, s.now, 0, false, [], []⟩]
    let fails := fun (n : Nat) => ∃ t, exec i s = .next t ∧ answers (BitVec.ofNat 64 (0x3C00000000000000 + n)) t ∧
      t.core = s.core ∧ t.mem = s.mem
    s.Passes i →
    ((z = 0 ∨ 320 < z) → fails 1) ∧
    (1 ≤ z → z ≤ 320 → life = 0 → fails 2) ∧
    (1 ≤ z → z ≤ 320 → life ≠ 0 → 64 ≤ s.core.allocs.length → fails 3) ∧
    (1 ≤ z → z ≤ 320 → life ≠ 0 → s.core.allocs.length < 64 → s.core.freeFor s.u.who < 2 * z → fails 4) ∧
    (1 ≤ z → z ≤ 320 → life ≠ 0 → s.core.allocs.length < 64 → 2 * z ≤ s.core.freeFor s.u.who →
      (s.core.lowestBase s.u.who z = none → fails 5) ∧
      (∀ g, s.core.lowestBase s.u.who z = some g → ∃ t a, exec i s = .next t ∧
        answers (BitVec.ofNat 64 (g * 1024)) t ∧ t.core.allocs = s.core.allocs ++ [a] ∧ a.who = s.u.who ∧ a.base = g ∧ a.size = z ∧
        a.life = life ∧ a.expired = false ∧ a.expiry = s.now + min life s.die.retn ∧ a.h = h ∧ a.stg = st ∧ a.k = k ∧
        a.chunks = s.core.freeChunks.take (2 * z)))) ∧
  (∀ (s : State) (sa : BitVec 6) (a : Alloc),
    s.core.allocBase s.u.who (s.S sa) = some a →
    (s.Passes (.free sa) → ∃ t, exec (.free sa) s = .next t ∧ (∀ c ∈ a.chunks, s.core.index * 1024 + c ∉ t.core.pinned) ∧
      (s.u.accs = [] → t.mem = s.mem ∧ t.u = s.u ∧ t.core.allocs = dropFirst (fun b => decide (b = a)) s.core.allocs)) ∧
    (s.Passes (.renew sa) → ∃ t, exec (.renew sa) s = .next t ∧ t.mem = s.mem ∧ t.u = s.u ∧
      { a with lastren := s.now, expiry := s.now + min a.life s.die.retn } ∈ t.core.allocs))

/-- 16 R363: QBIND with s0 unbinds its latch; with another scalar it binds the latch to the channel that the scalar names,
empty, and asks for the channel's header as an access of class 0. 16 R363, 02 R64: the fetch of a bound latch's head: with
no item pushed nothing changes; with one, the latch holds the 64 bytes at its position in the ring; a fault in reading the
channel is recorded in the latch. -/
def Obligations.QueueLatches : Prop :=
  (∀ (s : State) (q : BitVec 3) (sc : BitVec 6) (fmt : BitVec 4),
    s.Passes (.qbind q sc fmt) → wfTab Latch.none s.u.regs.q = true → ∃ t, exec (.qbind q sc fmt) s = .next t ∧ t.mem = s.mem ∧
      (sc = 0 → t.u.latch q.toNat = Latch.none) ∧
      (sc ≠ 0 → t.u.latch q.toNat = ⟨true, s.S sc, fmt.toNat, 0, none, none, none⟩ ∧
        ∃ a, t.u.accs.getLast? = some a ∧ a.act = .qhead q.toNat ∧ a.cls = 0)) ∧
  (∀ (s : State) (q : BitVec 3) (n : Nat) (hs bs : List (List Byte)),
    let l := s.u.latch q.toNat
    let r := s.engineReads 7 [(l.chan, 64, 0)]
    let x := bytesNat hs.flatten
    let i := r.st.engineReads 7 [(addOff l.chan (64 + 64 * (l.pos.toNat % 2 ^ n)), 64, 0)]
    l.bound = true → l.head = none → l.cause = none → l.logn = some n → wfTab Latch.none s.u.regs.q = true →
    s.u.accs.any (fun a => match a.act with | .qhead p => p = q.toNat | _ => false) = false →
    (∀ c, r.data = .error c → ∃ t, exec (.latchHeadFetch q) s = .next t ∧ t.u.latch q.toNat = { l with cause := some c }) ∧
    (r.data = .ok hs → x % 2 ^ 64 ≤ l.pos.toNat → exec (.latchHeadFetch q) s = .next s) ∧
    (r.data = .ok hs → l.pos.toNat < x % 2 ^ 64 → i.data = .ok bs → ∃ t, exec (.latchHeadFetch q) s = .next t ∧
      t.u.latch q.toNat = { l with head := some (bytesRow bs.flatten) }))

/-- 09 R207, 16 R359: TAKE of a FULL word, with no access of the unit outstanding and no CPYC of it to add to the word, gives the word to its register and leaves it EMPTY;
PUTF of an EMPTY one writes its value and leaves it FULL. No other byte of memory changes. 09 R207, R208: TAKE of an EMPTY
word and PUTF of a FULL one leave their request at the word's home, and the unit is BLOCKED. -/
def Obligations.Mailboxes : Prop :=
  (∀ (s : State) (f : MemF) (sp : Span) (h : Nat),
    s.waiters = [] → s.u.accs = [] → s.core.addsTo s.u.who s.now 0 [h / 8] = false → (chunksOf sp.homes).any s.heldChunk = false →
    sp.peer = none → sp.homes = List.range' h 8 → h % 8 = 0 → s.mem.eccOf h = .clean → s.mem.wf = true →
    (s.Passes (.take f) → s.memSpan 4 f 3 kBoth true = .ok sp → s.mem.isFull h = true → ∃ t, exec (.take f) s = .next t ∧
      t.mem.isFull h = false ∧ SameMemory s t ∧
      t.u.accs = [⟨.value (f.r.toNat % 64) (s.mem.word h), 16, [], 4, s.u.pc, f.svc.toNat, s.now, s.deadlineLeft, false, [], []⟩]) ∧
    (s.Passes (.putf f) → s.memSpan 5 f 3 kBoth true = .ok sp → s.mem.isFull h = false → ∃ t, exec (.putf f) s = .next t ∧
      t.mem.isFull h = true ∧ t.mem.word h = s.S f.o ∧ (∀ b, b < h ∨ h + 8 ≤ b → t.mem.byte b = s.mem.byte b) ∧ t.u.accs = [])) ∧
  (∀ (s : State) (f : MemF) (sp : Span) (h : Nat),
    s.waiters = [] → s.u.accs = [] → s.core.addsTo s.u.who s.now 0 [h / 8] = false → (chunksOf sp.homes).any s.heldChunk = false →
    sp.peer = none → sp.homes = List.range' h 8 → h % 8 = 0 → s.mem.eccOf h = .clean →
    (s.Passes (.take f) → s.memSpan 4 f 3 kBoth true = .ok sp → s.mem.isFull h = false →
      exec (.take f) s = .next { s with u := { s.u with st := .blocked }, waiters := [⟨s.u.who, h, .take, none⟩] }) ∧
    (s.Passes (.putf f) → s.memSpan 5 f 3 kBoth true = .ok sp → s.mem.isFull h = true →
      exec (.putf f) s = .next { s with u := { s.u with st := .blocked }, waiters := [⟨s.u.who, h, .putf (s.S f.o), none⟩] }))

/-- 17 R404, 09 R205, R206, 03 R85: WSIG and WSIGA issue once the signal satisfies their mode, at least, equal, not equal, all
bits or any bit, and give its value to their register; before that the unit is BLOCKED. 09 R211, 15 R323: the last of n
members at a barrier goes on, the count returns to zero and the generation advances; an earlier one counts itself, leaves
its request, and is BLOCKED. -/
def Obligations.SignalsAndBarriers : Prop :=
  (∀ (s : State) (sa sv d : BitVec 6) (oc mode : BitVec 4) (sp : Span) (h : Nat),
    s.waiters = [] → s.u.accs = [] → s.core.addsTo s.u.who s.now 0 [h / 8] = false → (chunksOf sp.homes).any s.heldChunk = false →
    sp.peer = none → sp.homes = List.range' h 8 → h % 8 = 0 → s.mem.eccOf h = .clean → s.sigSpan (s.S sa) kRead = .ok sp → mode.toNat ≤ 4 →
    let v := s.mem.word h
    let x := s.S sv
    let holds : Prop := match mode.toNat with | 0 => x.toNat ≤ v.toNat | 1 => v = x | 2 => v ≠ x | 3 => v &&& x = x | _ => v &&& x ≠ 0
    let waits : State := { s with u := { s.u with st := .blocked } }
    (holds → (s.Passes (.wsig sa sv oc d mode) → exec (.wsig sa sv oc d mode) s = .next (s.landSoon 7 d.toNat v)) ∧
      (s.Passes (.wsiga sa sv oc d mode) → exec (.wsiga sa sv oc d mode) s = .next (s.landSoon 7 d.toNat v))) ∧
    (¬ holds → (s.Passes (.wsig sa sv oc d mode) → exec (.wsig sa sv oc d mode) s = .next waits) ∧
      (s.Passes (.wsiga sa sv oc d mode) → exec (.wsiga sa sv oc d mode) s = .next waits))) ∧
  (∀ (s : State) (sa sn : BitVec 6) (oc : BitVec 4) (sp : Span) (h : Nat),
    s.waiters = [] → s.u.accs = [] → s.core.addsTo s.u.who s.now 0 [h / 8] = false → (chunksOf sp.homes).any s.heldChunk = false →
    sp.peer = none → sp.homes = List.range' h 8 → h % 8 = 0 → s.mem.eccOf h = .clean → s.mem.wf = true → s.sigSpan (s.S sa) kBoth = .ok sp →
    let n := max 1 ((s.S sn).toNat % 2 ^ 32)
    let count := (s.mem.word h).toNat % 2 ^ 32
    let gen := (s.mem.word h).toNat / 2 ^ 32
    let goes := fun (t : State) => (t.mem.word h).toNat = (gen + 1) % 2 ^ 32 * 2 ^ 32 ∧ t.waiters = [] ∧ t.u = s.u
    let stays := fun (t : State) => t.u = { s.u with st := .blocked } ∧ t.waiters = [⟨s.u.who, h, .bar gen n, none⟩] ∧
      t.mem.word h = s.mem.word h + 1
    (s.Passes (.bar sa sn oc) → (n ≤ count + 1 → ∃ t, exec (.bar sa sn oc) s = .next t ∧ goes t) ∧
      (count + 1 < n → ∃ t, exec (.bar sa sn oc) s = .next t ∧ stays t)) ∧
    (s.Passes (.barc sa sn oc) → (n ≤ count + 1 → ∃ t, exec (.barc sa sn oc) s = .next t ∧ goes t) ∧
      (count + 1 < n → ∃ t, exec (.barc sa sn oc) s = .next t ∧ stays t)))

/-- 01 R43, 02 R62, R63: once the strand that holds issue has had its quantum while another of its priority is ready, issue
passes to the strand chosen, which may issue two cycles later; a RUNNING strand whose slack is exhausted is BLOCKED, and issue
passes on where it held it, but not at a bundle with CCAN, which slack never holds back (15 R326; that its whole bundle is spared is the
model's, log 94). -/
def Obligations.IssueIsHandedOver : Prop := ∀ (s : State) (v : Strand),
  (s.holderReady = true → s.quantumOver = true → pickBest s.otherReady = some v → ∃ t, exec .quantumExpiry s = .next t ∧
    t.core.holder = v.place.strand ∧ t.core.switchUntil = s.now + 2 ∧ t.u.regs = s.u.regs ∧ t.mem = s.mem) ∧
  (s.u.st = .running → s.u.trap.settle = none → s.waitsSlack = true → (∀ x ∈ s.nextSlots, isCcan x.2 = false) →
    ∃ t, exec .slackExhausted s = .next t ∧
    t.u.st = .blocked ∧ t.u.regs = s.u.regs ∧ t.mem = s.mem ∧
    (s.core.holder = s.u.place.strand → pickBest s.otherReady = some v →
      t.core.holder = v.place.strand ∧ t.core.switchUntil = s.now + 2)) ∧
  ((∃ x ∈ s.nextSlots, isCcan x.2 = true) → exec .slackExhausted s = .next s)

/-- 02 R59, 11 R242, R243: a soft stop that is due, with CANCEL among its causes or no copy of its unit pending, is recorded: the
cause of highest rank among those pending, with EINFO 0; CANCEL ends the unit, abandoned. Otherwise the stop waits for the
copies, and is recorded once they are done; a stop that is recorded already then comes to its checkpoint. No other strand stands at the
place of the one in front. A watchdog that has
run out records the cause of highest rank, with EINFO 0x8000; where the home has served the request that the unit waits for,
that forced stop waits for the request's bundle (09 R209). DEBUG_STOP becomes pending on its unit and on the other members
of its group (01 R24; that they take the same cause is the model's, log 78). -/
def Obligations.SoftStops : Prop := ∀ (s : State),
  let records := fun (einfo : BitVec 64) (t : State) =>
    t.u.regs.sr.ecause = BitVec.ofNat 64 (softCause s.u.trap.soft) ∧ t.u.regs.sr.einfo = einfo
  let ends := s.u.trap.soft.getLsbD 3 = true ∨ (s.u.trap.soft.getLsbD 0 = true ∧ s.u.trap.kill = true)
  let quick := ends ∨ (s.core.copiesOf s.u.who = [] ∧ ∀ a ∈ s.u.accs, s.heldByCopy a = false)
  (∀ v ∈ s.strands, v.place ≠ s.u.place) →
  (s.settleDue = false → s.softDue = true → quick → ∃ t, exec .softStop s = .next t ∧ records 0 t ∧
    (s.u.trap.soft.getLsbD 3 = true → t.u.st = .ending ∧ t.u.own.abandoned = true)) ∧
  (s.settleDue = false → s.softDue = true → ¬ ends → s.core.copiesOf s.u.who ≠ [] → ∃ t, exec .softStop s = .next t ∧
    t.u.trap.settle = some s.now ∧ t.u.trap.unrec = true ∧ t.u.st = s.u.st ∧ t.core.cbuf = s.core.cbuf) ∧
  (s.settleDue = true → s.u.trap.unrec = true → ∃ t, exec .softStop s = .next t ∧ records 0 t) ∧
  (s.settleDue = true → s.u.trap.unrec = false → ∃ t, exec .softStop s = .next t ∧ t.u.st = .absent ∧
    ∃ sv ∈ t.work.saved, sv.who = s.u.who ∧ sv.cause = s.u.regs.sr.ecause.toNat) ∧
  (s.watchdogDue = true → s.servedMine = false → ∃ t, exec .watchdogExpiry s = .next t ∧ records 0x8000 t) ∧
  (s.watchdogDue = true → s.servedMine = true → ∃ t, exec .watchdogExpiry s = .next t ∧
    t = { s with u := { s.u with trap := { s.u.trap with late := some ⟨⟨softCause s.u.trap.soft, 0x8000⟩, s.u.pc⟩ } } }) ∧
  (s.u.st.onStrand = true → s.u.st ≠ .ending → ∃ t, exec (.debugStop s.u.who.launch s.u.who.rank) s = .next t ∧
    t.u.trap.soft = s.u.trap.soft ||| 16 ∧ t.u.regs = s.u.regs ∧ t.mem = s.mem ∧
    t.strands = s.strands.map (fun v =>
      if v.sameGroup s.u.who s.u.own.nbh = true ∧ v.st ≠ .ending then v.requestSoft 0x24 s.now else v))

/-- 01 R20, R21, 11 R253, R256: a unit that ENDS gives back its strand, its allocations and the array; firmware's termination of
a saved unit removes it; copies that outlast a stop by 65,536 cycles are cancelled with code 6. 11 R260: RESUME of the one
unit saved, which may resume, onto a free strand in front of its die that it fits and that nothing reserves, in the strand's context and with no fault pending, makes it READY
there, unprivileged, at the resume index of its area. -/
def Obligations.UnitsGoAndResume : Prop :=
  (∀ (s : State) (l r : Nat) (sv : Saved) (c : CCmd) (f : Nat),
    (s.endDone = true → ∃ t, exec .unitEnded s = .next t ∧ t.u.st = .absent ∧ (∀ a ∈ t.core.allocs, a.who ≠ s.u.who) ∧
      t.core.matrix.owner ≠ some s.u.who ∧ (s.core.matrix.owner ≠ some s.u.who → t.core.matrix.owner = s.core.matrix.owner)) ∧
    (s.work.saved.find? (fun x => decide (x.who = ⟨l, r⟩) && x.firmware) = some sv → ∃ t, exec (.termination l r) s = .next t ∧
      t.work.saved = s.work.saved.filter (fun x => decide (x.who ≠ ⟨l, r⟩))) ∧
    (s.u.trap.settle = some f → f + 65536 ≤ s.now → s.core.copiesOf s.u.who = [c] → c.coll = false → c.tok ≠ 0 →
      (c.op ≠ 5 ∨ c.mreg % 64 ≠ c.tok) →
      wfTab 0 s.u.regs.s = true → ∃ t, exec .engineStopTimeout s = .next t ∧
        t.u.scalar c.tok = BitVec.ofNat 64 (6 + 65536 * c.moved) ∧ t.core.cbuf = s.core.cbuf.filter (fun x => x.seq ≠ c.seq) ∧
        t.mem = s.mem)) ∧
  (∀ (s : State) (sv : Saved) (x : Die),
    s.work.saved = [sv] → s.u.st = .absent → s.core.at s.u.place = true → s.u.place.cluster < 3 → s.die.num = s.u.place.die →
    sv.die = s.u.place.die → s.dieAt s.u.place.die = some x → s.dieServes s.u.place.die = true → x.coreServes s.core = true →
    s.reservedCore x sv.who.launch sv.own.prio s.core = false → s.mayResume sv = true →
    (∀ u ∈ s.strands, u.st.onStrand = true → u.who.launch ≠ sv.who.launch) → s.memberFits (.saved sv) s.core = true → sv.cause ≠ 0x11 → sv.own.ctx = s.u.own.ctx →
    (∀ u ∈ s.strands, groupsOf u sv.who = []) → (readAreaHeader s.mem sv.area).pendf = false →
    ∃ t, exec (.resume sv.who.launch sv.who.rank s.u.place) s = .next t ∧ t.u.who = sv.who ∧ t.u.st = .ready ∧
      t.u.privileged = false ∧ t.u.pc = BitVec.ofNat 64 (readAreaHeader s.mem sv.area).ridx ∧ t.work.saved = [])

/-- 07 R157, R158, R171, 05 R126, 00 R8: allocations whose EXPIRY has come expire; a fall of RETN pulls every EXPIRY in; a
revision that comes within 1400 cycles of the one before it, or below the retention guaranteed, changes nothing; the strand's
requests and its unit's commands that have waited 8192 cycles rise one class, the requests and copies to URGENT at most;
FLUSH leaves no group of a saved unit DIRTY. That a RETN below the guarantee changes nothing (log 60) and that a unit's matrix commands rise in class (log 85) are the model's choices. -/
def Obligations.TimersAndFlushes : Prop := ∀ (s : State) (n : Nat),
  (∃ t, exec .allocExpiry s = .next t ∧ t.core.allocs = s.core.allocs.map (fun a =>
    { a with expired := a.expired || decide (a.expiry ≤ s.now) }) ∧ t.u = s.u ∧ t.mem = s.mem) ∧
  ((∀ c, s.die.lastRev = some c → c + 1400 ≤ s.die.cycle) → 168000 * s.die.freq ≤ n * 1400 →
    ∃ t, exec (.retnChange s.die.num n) s = .next t ∧ t.die.retn = n ∧ t.die.lastRev = some s.die.cycle ∧ t.u = s.u ∧
      t.mem = s.mem ∧ (s.core.die = s.die.num → n < s.die.retn → t.core.allocs.map Alloc.expiry =
        s.core.allocs.map (fun a => min a.expiry (a.lastren + n)))) ∧
  ((∃ c, s.die.lastRev = some c ∧ s.die.cycle < c + 1400) ∨ n * 1400 < 168000 * s.die.freq →
    exec (.retnChange s.die.num n) s = .next s) ∧
  (let old := fun (aged : Bool) (c : Nat) => aged = false ∧ c + 8192 ≤ s.now
    ∃ t, exec .requestAging s = .next t ∧ t.u.regs = s.u.regs ∧ t.mem = s.mem ∧
      t.u.accs = s.u.accs.map (fun a => if old a.aged a.issued then { a with aged := true, svc := min 3 (a.svc + 1) } else a) ∧
      t.core.cbuf = s.core.cbuf.map (fun c => if c.who = s.u.who ∧ old c.aged c.entered then
        { c with aged := true, svc := min 3 (c.svc + 1) } else c) ∧
      t.core.matrix.buf = s.core.matrix.buf.map (fun c => if c.who = s.u.who ∧ old c.aged c.entered then
        { c with aged := true } else c)) ∧
  (wfTab TGroup.none s.u.regs.t = true → ∃ t, exec .flushWrite s = .next t ∧ t.u.regs.s = s.u.regs.s ∧ t.u.regs.v = s.u.regs.v ∧
    ∀ k ∈ foreignDirty s.u, (∃ sv ∈ s.work.saved, sv.who = (s.u.group k).holder) →
      t.u.group k = { s.u.group k with dirty := false })

/-- 02 R61, 08 R175, R176: the oldest waiting matrix command, whose issuer is not stopped, is accepted once the array has room for
it: planes that it exchanges are exchanged first, and it runs, a load with the shadow plane LOADING; a cause that its checks
find faults it. A load at the head whose bands are gated first wakes them: 200 cycles later they are gated no more, and the
load is accepted, or waits for room. A band gates 64 cycles after the last in which it held a valid row, unless a load fills
it or waits for it at the head (the last is the model's, log 80). 08 R183, R176, R179, R182: a step of the running command,
once it may begin, counts one more; MZA's clears its tile and no other, the second of MLDS and MLDS.T leaves the shadow plane
VALID, and one of MSTR adds up to 16 rows into its tile. 13 R280: with a checker error in a STRICT launch it is PIPE_ERR. 08
R181, R184, 06 R133: a command whose steps are done and whose least time has passed leaves the buffer with its flags raised;
where ACC_OVF is enabled and a value saturated it is raised at the issuer instead, with the tile and the count, and the
issuer's later commands go with it. Before that nothing changes. -/
def Obligations.TheArrayRuns : Prop :=
  (∀ (s : State) (c : MCmd),
    s.strandOf c.who = some s.u → s.u.trap.settle = none → s.core.matrix.waiting = some c →
    let m := s.core.matrix
    let op := mOp c.word
    let with' := fun (m' : Matrix) => ({ s with core := { s.core with matrix := m' } } : State)
    let runs := fun (m' : Matrix) (t : State) => t.u = s.u ∧ t.mem = s.mem ∧ t.core.matrix.active = m'.active ∧
      t.core.matrix.acc = m'.acc ∧ t.core.matrix.gated = m'.gated ∧ t.core.matrix.waking = m'.waking ∧
      t.core.matrix.buf = updFirst (fun x => x.seq = c.seq) (fun _ => { c with running := true, began := s.now }) m.buf ∧
      t.core.matrix.shadow = if isLoadOp op then ⟨.loading, c.fmt, c.mask, op = 6, c.loadDepth, [], []⟩ else m'.shadow
    let swapped := if swapsOp op then (m.noteHeld s.now).exchange else m
    let awake : Matrix := { m with waking := none, gated := m.gated.filter (fun b => !c.mask.testBit b) }
    (∀ b, m.waking = some b → exec .matrixAccept s = .next s ∧ (s.now < b → exec .bandWake s = .next s)) ∧
    (m.waking = none → isLoadOp op = true → m.gatedFor c = true →
      exec .matrixAccept s = .next (with' { m with waking := some (s.now + 200) })) ∧
    (m.waking = none → (isLoadOp op = true → m.gatedFor c = false) →
      (m.room c = false → exec .matrixAccept s = .next s) ∧
      (m.room c = true → (with' swapped).acceptTrap c = none → ∃ t, exec .matrixAccept s = .next t ∧ runs swapped t) ∧
      (∀ e, m.room c = true → (with' swapped).acceptTrap c = some e →
        exec .matrixAccept s = .next ((with' swapped).matrixFault c e))) ∧
    (∀ b, m.waking = some b → b ≤ s.now → isLoadOp op = true →
      (m.room c = false → exec .bandWake s = .next (with' awake)) ∧
      (m.room c = true → (with' awake).acceptTrap c = none → ∃ t, exec .bandWake s = .next t ∧ runs awake t) ∧
      (∀ e, m.room c = true → (with' awake).acceptTrap c = some e →
        exec .bandWake s = .next ((with' awake).matrixFault c e)))) ∧
  (∀ (s : State) (b : Nat), b < 4 → s.core.matrix.gated.contains b = false →
    let m := s.core.matrix
    (m.bandHeld b = false → m.wanted b = false → lookup 0 m.heldAt b + 64 ≤ s.now → exec (.bandGate b) s = .next
      { s with core := { s.core with matrix := { m with gated := insertBy id b m.gated } } }) ∧
    (m.bandHeld b = true ∨ m.wanted b = true ∨ s.now < lookup 0 m.heldAt b + 64 → exec (.bandGate b) s = .next s)) ∧
  (∀ (s : State) (c : MCmd) (load : Bool) (err : Option Mismatch),
    s.strandOf c.who = some s.u → s.core.matrix.runningOf load = some c →
    let m := s.core.matrix
    let op := mOp c.word
    let counts := fun (t : State) => ∃ x ∈ t.core.matrix.buf, x.seq = c.seq ∧ x.next = c.next + 1 ∧ x.began = s.now
    (s.stepMay c = false → exec (.matrixStep load err) s = .next s) ∧
    (s.stepMay c = true →
      (op = 13 → ∃ t, exec (.matrixStep load none) s = .next t ∧ counts t ∧ t.mem = s.mem ∧ t.u = s.u ∧
        (∀ j n, t.core.matrix.accAt (mAcc c.word) j n = 0) ∧
        ∀ k j n, k ≠ mAcc c.word → j < 128 → n < 128 → t.core.matrix.accAt k j n = m.accAt k j n) ∧
      (op = 3 ∨ op = 4 → ∀ l, (s.engineReads 3 ((c.loadParts c.next).map (fun x =>
          (x.addr, x.size, if x.inMasks then 0 else blockOfFmt c.fmt)))).data = .ok l →
        ∃ t, exec (.matrixStep load none) s = .next t ∧ counts t ∧
          t.core.matrix.shadow.st = if c.next = 1 then .valid else .loading) ∧
      (op = 8 → wfTab 0 m.acc = true → s.streamFault c (m.depthFor c) = none →
        ∀ l, (s.engineReads 3 (c.rowParts (m.depthFor c) (16 * c.next) (min 16 (c.rows - 16 * c.next)))).data = .ok l →
        ∃ t, exec (.matrixStep load none) s = .next t ∧ counts t ∧
          ∀ i bs n, l[i]? = some bs → n < 128 → 16 * c.next + i < 128 →
            t.core.matrix.accAt (mAcc c.word) (16 * c.next + i) n = BitVec.ofNat 32 (arrayElt m.active c.fmt c.prom
              ⟨bs, none⟩ n (if mZ c.word then 0 else (m.accAt (mAcc c.word) (16 * c.next + i) n).toNat)).val) ∧
      (∀ e, s.u.own.tolerant = false → exec (.matrixStep load (some e)) s = .next ((s.logFault 0 7).matrixFault c
        ⟨0x11, pipeInfo 3 (if e.control then 6 else 2) e.kind (mAcc c.word) 0 c.next⟩)))) ∧
  (∀ (s : State) (c : MCmd) (load : Bool),
    s.strandOf c.who = some s.u → s.core.matrix.runningOf load = some c →
    let m := s.core.matrix
    let u := s.u.raiseFlags c.flags
    (c.next < c.steps ∨ s.now < c.began + c.minCycles → exec (.matrixComplete load) s = .next s) ∧
    (c.steps ≤ c.next → c.began + c.minCycles ≤ s.now →
      (c.ovf = false ∨ c.sat = 0 → exec (.matrixComplete load) s = .next
        { s with u := u, core := { s.core with matrix := { m with buf := m.buf.filter (fun x => x.seq ≠ c.seq) } } }) ∧
      (c.ovf = true → c.sat ≠ 0 → s.u.st ≠ .ending →
        (∀ x ∈ m.buf, x.who = c.who → c.seq ≤ x.seq → isLoadOp (mOp x.word) = false) →
        let f : Trap := ⟨0x0E, mAcc c.word + 2 ^ 32 * min c.sat (2 ^ 32 - 1)⟩
        let left : State := { s with u := u, core := { s.core with matrix := { m with
          buf := m.buf.filter (fun x => !(decide (x.who = c.who) && c.seq ≤ x.seq)), waking := none } } }
        (s.u.trap.inHandler = false → s.u.trap.settle = none → s.u.flights = [] →
          exec (.matrixComplete load) s = .next (left.hardStop f c.epc s.u.pc)) ∧
        (s.u.trap.inHandler = true ∨ s.u.trap.settle ≠ none →
          exec (.matrixComplete load) s = .next { left with u := { u with trap := { u.trap with
            pend := some (s.u.trap.pend.getD ⟨f, c.epc⟩) } } }))))

/-- 08 R185, R187, 15 R331: a copy is accepted in the buffer's order and runs, or ends with the code of its check and no bytes;
a chunk of ZFILL writes zeros, and one of CPY the source's bytes, at the destination's homes and nowhere else; a chunk with
an operand on a module that is cut off ends its command with code 10 and no further byte; a ZFILL or a CPY that has nothing
left to move writes its token, zero for success. -/
def Obligations.CopiesRun : Prop := ∀ (s : State) (c : CCmd) (k n : Nat) (sp : Span) (src : List Byte),
  s.strandOf c.who = some s.u → wfTab 0 s.u.regs.s = true → s.mem.wf = true → c.tok ≠ 0 →
  (s.core.waitingCopy = some c → s.heldAtBl1 c = false → s.core.runningCopies < 16 → c.coll = false →
    (s.copyCheck c = none → ∃ t c', exec .copyAccept s = .next t ∧ c' ∈ t.core.cbuf ∧ c'.seq = c.seq ∧ c'.running = true ∧
      c'.todo = c.todo ∧ t.u = s.u ∧ t.mem = s.mem) ∧
    (∀ code xi wr, s.copyCheck c = some (code, xi, wr) → code ≠ 0 → code ≠ 3 → c.op ≠ 5 → ∃ t, exec .copyAccept s = .next t ∧
      t.u.scalar c.tok = BitVec.ofNat 64 (code + 256 * (xi % 16) + if wr then 4096 else 0) ∧
      t.core.cbuf = s.core.cbuf.filter (fun x => x.seq ≠ c.seq) ∧ t.mem = s.mem)) ∧
  (s.core.cbuf[k]? = some c → s.chunkMay c n = true → c.op = 0x12 ∨ c.op = 0x01 →
    let at' := chunkAt (c.chunkList 0) n
    let r := s.engineFetch 6 [(addOff c.sa at'.1, at'.2, 0)]
    let data := if c.op = 0x12 then zeros at'.2 else src
    let s1 := if c.op = 0x12 then s else r.st
    (c.op = 0x01 → r.data = .ok [src]) → s.unreachable c at'.1 at'.2 = none → s1.engineAt 6 (addOff c.sd at'.1) at'.2 kWrite = .ok sp → sp.homes.Nodup →
    data.length = sp.homes.length → (∀ h ∈ sp.homes, s1.mem.eccOf h = .clean) →
    ∃ t c', exec (.copyChunk k n none) s = .next t ∧ c'.code = none ∧
      (∀ (i : Nat) (h : Nat) (x : Byte), sp.homes[i]? = some h → data[i]? = some x → t.mem.byte h = x) ∧
      (∀ h, h ∉ sp.homes → t.mem.byte h = s.mem.byte h) ∧ t.u.regs.s = s.u.regs.s ∧
      c' ∈ t.core.cbuf ∧ c'.seq = c.seq ∧ c'.todo = c.todo.filter (fun x => x ≠ n) ∧ c'.moved = c.moved + at'.2) ∧
  (s.core.cbuf[k]? = some c → s.chunkMay c n = true → c.op = 0x12 ∨ c.op = 0x01 → ∀ xi wr,
    s.unreachable c (chunkAt (c.chunkList 0) n).1 (chunkAt (c.chunkList 0) n).2 = some (xi, wr) →
    ∃ t c', exec (.copyChunk k n none) s = .next t ∧ c' ∈ t.core.cbuf ∧ c'.seq = c.seq ∧ c'.todo = [] ∧ c'.code = some 10 ∧
      c'.moved = c.moved ∧ t.mem = s.mem ∧ t.u = s.u) ∧
  (s.core.cbuf[k]? = some c → c.running = true → c.coll = false → c.todo = [] → c.op = 0x01 ∨ c.op = 0x12 → c.xi = 0 →
    c.wr = false → ∃ t, exec (.copyComplete k) s = .next t ∧
      t.u.scalar c.tok = (match c.code with | none => 0 | some e => copyStatus e 0 false c.moved) ∧
      t.core.cbuf = s.core.cbuf.filter (fun x => x.seq ≠ c.seq) ∧ t.mem = s.mem)

/-- 14 R305: a group is created with L(g) = 0 and nothing buffered, unless its number is in use; dissolving it ends its running command
with code 11. 08 R192, 15 R329, 12 R276: the front command sends its source bytes to the successor once, and the engine keeps the
messages of its two latest steps; a read that fails ends the command with its code, and a fenced neighbour that does not hold it with
code 10 (10 R239). 08 R192, 12 R264, 11 R256: a message with a step above L(g) that is new is kept, and ends the predecessor's hold
(that is the model's, log 83); any other is discarded, and under B1 one is answered with HOLD. 08 R192, 15 R328: with the message there
and its own sent, the front command completes with token 0 and L(g) becomes its step: the destination of COLL.RS, AG, AR and BC gets its
bytes, none for BC at the root, and no other byte changes; a message of another length ends it with code 12. 14 R303, R304: a flit with
a bad CRC only counts, the ninth in a row loses the port; one of another type or module is discarded. 14
R304, 12 R264: under B1 a request, and data of an unknown group, is refused with NACK and wait 22; else a request writes, adds to or
fills a word here, or changes nothing, and a group's data is its message. 12 R264, R276, 14 R304: HOLD and HIBN, at most two steps
ahead, set the hold of their sender, HOLD with an offer after 1400 cycles; NACK sets when its copy's request is offered again; REJOIN
sends the kept messages above its step again and ends the successor's hold; what is due is offered again. 14 R303, 12 R276, 08 R192: a
lost port is down until it has retrained; after 10 ms the running command of each group that waits for it ends with code 10, and its
later one with code 11. The model's choices: the layout of a request and of a NACK's tag (logs 18, 27), 10 ms as 14,000,000 rounds (log
20), the places of the table and the die that serves a group (log 71), and that an event that is not due changes nothing (log 14). -/
def Obligations.GroupsAndFlits : Prop :=
  let me := Config.moduleId % 2 ^ 17
  let word := fun (g step : Nat) => natBytes 8 (g % 2 ^ 16 + 2 ^ 16 * (step % 2 ^ 32))
  let sent := fun (f : Flit) => ({ f with crc := flitCrc f } : Flit)
  let toSucc := fun (x : Group) (step : Nat) (data : List Byte) => sent ⟨1, x.entry.succMod, x.entry.succDie, me,
    x.entry.succPort / 2, x.entry.group % 2 ^ 16, word x.entry.group step ++ data, 0⟩
  let ends := fun (s t : State) (c : CCmd) (code : Nat) => t.u.scalar c.tok = copyStatus code 0 false c.moved ∧
    t.core.cbuf = s.core.cbuf.filter (fun y => y.seq ≠ c.seq)
  let single := fun (s : State) (c : CCmd) => s.strandOf c.who = some s.u ∧ c.op ≠ 5 ∧ c.tok ≠ 0 ∧ wfTab 0 s.u.regs.s = true
  (∀ (s : State) (e : GroupEntry) (g : Nat) (c : CCmd),
    let gone := dropFirst (fun y : Group => y.entry.group = g) s.fabric.groups
    let placed : Prop := ∃ y ∈ s.fabric.groups, y.entry.index = e.index
    (s.groupOf e.group = none → ¬ placed → exec (.groupCreate e) s = .next
      { s with fabric := { s.fabric with groups := s.fabric.groups ++ [⟨e, 0, [], [], false, false, none⟩] } }) ∧
    (s.groupOf e.group ≠ none ∨ placed → exec (.groupCreate e) s = .next s) ∧
    (s.collsOf g = [] → exec (.groupDissolve g) s = .next { s with fabric := { s.fabric with groups := gone } }) ∧
    (s.collsOf g = [c] → single s c → ∃ t, exec (.groupDissolve g) s = .next t ∧ ends s t c 11 ∧
      t.fabric.groups = gone ∧ t.mem = s.mem)) ∧
  (∀ (s : State) (g : Nat) (c : CCmd) (x : Group) (p : Port),
    s.collFront g = some c → s.groupOf g = some x → single s c → c ∈ s.core.cbuf → s.fabric.ports[x.entry.succPort]? = some p →
    let r := s.engineReads 6 [(c.sa, c.sl.toNat, 0)]
    (s.cutOff x = false → c.sent = true ∨ p.up = false → exec (.collSend g) s = .next s) ∧
    (∀ src, s.cutOff x = false → s.collSendDue g = true → r.data = .ok [src] → ∃ t, exec (.collSend g) s = .next t ∧
      t.fabric.ports[x.entry.succPort]? = some { p with out := p.out ++ [toSucc x c.step src] } ∧
      t.groupOf g = some { x with kept := keepTwo x.kept ⟨c.step, src⟩ } ∧
      (∃ c' ∈ t.core.cbuf, c' = { c with sent := true, chunks := c'.chunks }) ∧ SameMemory s t) ∧
    (s.collsOf g = [c] →
      (∀ e, s.cutOff x = false → s.collSendDue g = true → r.data = .error e → codeOf e.cause ≠ 3 →
        ∃ t, exec (.collSend g) s = .next t ∧
          t.u.scalar c.tok = copyStatus (codeOf e.cause) (bitsAt e.einfo 0 4) false c.moved ∧
          t.core.cbuf = s.core.cbuf.filter (fun y => y.seq ≠ c.seq)) ∧
      (s.cutOff x = true → ∃ t, exec (.collSend g) s = .next t ∧ ends s t c 10 ∧ t.mem = s.mem))) ∧
  (∀ (s : State) (g step : Nat) (data : List Byte) (x : Group) (p : Port),
    (s.groupOf g = none → exec (.collMessage g step data) s = .next s) ∧
    (s.groupOf g = some x → (s.supply.b1 = false ∨ s.supply.b2 = true) →
      (x.last < step → x.inbox.any (fun y => y.step = step) = false → ∃ t, exec (.collMessage g step data) s = .next t ∧
        t.groupOf g = some { x with inbox := x.inbox ++ [⟨step, data⟩], heldPred := false } ∧ t.mem = s.mem ∧ t.u = s.u) ∧
      (step ≤ x.last ∨ x.inbox.any (fun y => y.step = step) = true → exec (.collMessage g step data) s = .next s)) ∧
    (s.groupOf g = some x → s.supply.b1 = true → s.supply.b2 = false → s.fabric.ports[x.entry.predPort]? = some p →
      ∃ t, exec (.collMessage g step data) s = .next t ∧ t.groupOf g = some x ∧ t.mem = s.mem ∧ t.u = s.u ∧
        t.fabric.ports[x.entry.predPort]? = some { p with out := p.out ++ [sent ⟨0x10, x.entry.predMod, x.entry.predDie, me,
          x.entry.predPort / 2, x.entry.group % 2 ^ 16, word x.entry.group x.last, 0⟩] })) ∧
  (∀ (s : State) (g : Nat) (err : Option Mismatch) (c : CCmd) (x : Group),
    s.collFront g = some c → s.groupOf g = some x → single s c →
    (x.inbox.find? (fun y => y.step = c.step) = none ∨ c.sent = false ∨ s.groupServed x = false →
      exec (.collComplete g err) s = .next s) ∧
    (∀ m, x.inbox.find? (fun y => y.step = c.step) = some m → c.sent = true → s.groupServed x = true →
      let s0 := s.modGroup g (fun y => { y with inbox := y.inbox.filter (fun n => n.step ≠ c.step) })
      let src := match x.kept.find? (fun n => n.step = c.step) with | some n => n.data | none => []
      let root : Prop := c.op = 0xF ∧ c.md.getLsbD 48 = true
      let done := fun (t : State) => t.u.scalar c.tok = 0 ∧ t.core.cbuf = s.core.cbuf.filter (fun y => y.seq ≠ c.seq) ∧
        ∃ y, t.groupOf g = some y ∧ y.last = c.step ∧ y.inbox = x.inbox.filter (fun n => n.step ≠ c.step)
      (m.data.length = c.sl.toNat → root → ∃ t, exec (.collComplete g err) s = .next t ∧ done t ∧ t.mem = s.mem) ∧
      (∀ sp, m.data.length = c.sl.toNat → ¬ root → err = none ∨ c.op = 0xD ∨ c.op = 0xF →
        s0.engineAt 6 c.sd c.sl.toNat (if c.op = 0xE then kBoth else kWrite) = .ok sp → sp.homes.Nodup → s.mem.wf = true →
        (∀ h ∈ sp.homes, s.mem.eccOf h = .clean) →
        let out := match c.op with
          | 0xC => (reduceBytes c.redFmt src m.data).1
          | 0xE => (reduceBytes c.redFmt (sp.homes.map s.mem.byte) m.data).1
          | _ => m.data
        out.length = sp.homes.length → ∃ t, exec (.collComplete g err) s = .next t ∧ done t ∧
          (∀ (i : Nat) (h : Nat) (b : Byte), sp.homes[i]? = some h → out[i]? = some b → t.mem.byte h = b) ∧
          ∀ h, h ∉ sp.homes → t.mem.byte h = s.mem.byte h) ∧
      (m.data.length ≠ c.sl.toNat → s.collsOf g = [c] → ∃ t, exec (.collComplete g err) s = .next t ∧ ends s t c 12 ∧
        t.mem = s.mem))) ∧
  (∀ (s : State) (port : Nat) (f : Flit) (p : Port),
    s.fabric.ports[port]? = some p →
    let w := bytesNat (f.payload.take 8)
    let calm : State := { s with fabric := { s.fabric with ports := s.fabric.ports.mapIdx (fun i x =>
      if i = port then { x with fails := 0 } else x) } }
    let refuses := fun (i : Instr) => ∃ t, exec i s = .next t ∧ t.fabric.ports[port]? = some { p with fails := 0, out := p.out ++
      [sent ⟨0x11, f.smod, f.sdie, me, port / 2, f.tag, word f.tag 22, 0⟩] } ∧ t.fabric.groups = s.fabric.groups ∧ t.u = s.u ∧
      t.mem = s.mem
    f.crc = flitCrc f →
    (f.type = 2 → f.dmod = me → s.supply.b1 = true → refuses (.fabricRequest port f)) ∧
    (f.type = 1 → f.dmod = me → s.supply.b1 = true → s.groupOf (w % 2 ^ 16) = none → refuses (.fabricData port f)) ∧
    (f.type = 1 → f.dmod = me → s.supply.b1 = false ∨ s.groupOf (w % 2 ^ 16) ≠ none →
      exec (.fabricData port f) s = exec (.collMessage (w % 2 ^ 16) (w / 2 ^ 16 % 2 ^ 32) (f.payload.drop 8)) calm) ∧
    (f.type = 2 → f.dmod = me → s.supply.b1 = false →
      let h := bytesNat ((f.payload.drop 8).take 8)
      let data := f.payload.drop 16
      let v : Word := BitVec.ofNat 64 (bytesNat (data.take 8))
      let sound (n : Nat) : Prop := s.mem.wf = true ∧ h + n ≤ Config.hbmBytes ∧ ∀ a ∈ List.range' h n, s.mem.eccOf a = .clean
      (4 ≤ w % 256 ∨ w % 256 = 0 → exec (.fabricRequest port f) s = .next calm) ∧
      (w % 256 = 1 → sound data.length → ∃ t, exec (.fabricRequest port f) s = .next t ∧ t.u = s.u ∧
        (∀ (i : Nat) (b : Byte), data[i]? = some b → t.mem.byte (h + i) = b) ∧
        ∀ a, a < h ∨ h + data.length ≤ a → t.mem.byte a = s.mem.byte a) ∧
      (w % 256 = 2 → h % 8 = 0 → sound 8 → ∃ t, exec (.fabricRequest port f) s = .next t ∧ t.u = s.u ∧
        t.mem.word h = s.mem.word h + v ∧ ∀ a, a < h ∨ h + 8 ≤ a → t.mem.byte a = s.mem.byte a) ∧
      (w % 256 = 3 → h % 8 = 0 → h + 8 ≤ Config.hbmBytes → exec (.fabricRequest port f) s = .next
        { calm with waiters := s.waiters ++ [⟨⟨0, 0⟩, h, .putf v, none⟩] }))) ∧
  (∀ (s : State) (a : Arrival) (f : Flit) (g step wait src ctx b n : Nat) (pred : Bool) (p : Port) (i : Instr),
    s.fabric.ports[a.port]? = some p →
    (i = .holdFlit ⟨g, a⟩ step ∨ i = .nackFlit ⟨g, a⟩ wait ∨ i = .hibnFlit ⟨g, pred, a⟩ step ∨ i = .rejoinFlit ⟨g, a⟩ step ∨
      i = .shootdownAck ⟨src, ctx, a⟩ ∨ i = .shootdownMulticast a.port ⟨src, a.dmod, a.crc⟩ ctx b n ∨
      (a.crc = decide (f.crc = flitCrc f) ∧
        (i = .fabricRequest a.port f ∧ (f.type = 2 → a.dmod = f.dmod) ∨ i = .fabricData a.port f ∧ (f.type = 1 → a.dmod = f.dmod)))) →
    let only := fun (q : Port) => ∃ t, exec i s = .next t ∧ t.fabric.ports[a.port]? = some q ∧
      t.fabric.groups = s.fabric.groups ∧ t.work = s.work ∧ t.u = s.u ∧ t.mem = s.mem
    (a.crc = true → a.dmod ≠ me → only { p with errors := p.errors + 1, fails := 0 }) ∧
    (a.crc = false → only (if p.up = true ∧ 8 ≤ p.fails then { p with up := false, lostAt := s.clock, fails := 0 }
      else { p with fails := p.fails + 1 }))) ∧
  (∀ (s : State) (a : Arrival) (g step wait : Nat) (pred : Bool) (x : Group) (p : Port),
    a.crc = true → a.dmod = me → s.groupOf g = some x → s.fabric.ports[x.entry.succPort]? = some p →
    let same := fun (t : State) => t.u = s.u ∧ t.mem = s.mem
    let p1 : Port := if x.entry.succPort = a.port then { p with fails := 0 } else p
    (∃ t, exec (.holdFlit ⟨g, a⟩ step) s = .next t ∧ same t ∧ t.groupOf g = some
      (if step ≤ x.last + 2 then { x with heldSucc := true, again := some (s.clock + 1400) } else x)) ∧
    (∃ t, exec (.nackFlit ⟨g, a⟩ wait) s = .next t ∧ same t ∧ t.groupOf g = some x ∧
      t.core.cbuf = s.core.cbuf.map (fun c => if c.running = true ∧ c.coll = false ∧ 64 * s.core.index + c.tok = g then
        { c with again := s.clock + 64 * wait } else c)) ∧
    (∃ t, exec (.hibnFlit ⟨g, pred, a⟩ step) s = .next t ∧ same t ∧ t.groupOf g = some
      (if x.last + 2 < step then x else if pred then { x with heldPred := true } else { x with heldSucc := true })) ∧
    (∃ t, exec (.rejoinFlit ⟨g, a⟩ step) s = .next t ∧ same t ∧ t.groupOf g = some { x with heldSucc := false, again := none } ∧
      t.fabric.ports[x.entry.succPort]? = some { p1 with out := p.out ++
        ((x.kept.filter (fun m => step < m.step)).map (fun m => toSucc x m.step m.data)) }) ∧
    (s.fabric.groups = [x] →
      ((∀ n, x.again = some n → s.clock < n) → exec .retryResend s = .next s) ∧
      (∀ n, x.again = some n → n ≤ s.clock → ∃ t, exec .retryResend s = .next t ∧ same t ∧
        t.groupOf g = some { x with again := none } ∧ t.fabric.ports[x.entry.succPort]? = some { p with out := p.out ++
          (((x.kept.getLast?.toList).filter (fun m => x.last < m.step)).map (fun m => toSucc x m.step m.data)) }))) ∧
  (∀ (s : State) (port : Nat) (p : Port) (x : Group) (c c2 : CCmd),
    s.fabric.ports[port]? = some p →
    (∃ t, exec (.linkLost port) s = .next t ∧ t.u = s.u ∧ t.mem = s.mem ∧
      t.fabric.ports[port]? = some (if p.up then { p with up := false, lostAt := s.clock } else p)) ∧
    (∃ t, exec (.portRetrained port) s = .next t ∧ t.u = s.u ∧ t.mem = s.mem ∧
      t.fabric.ports[port]? = some { p with up := true }) ∧
    (p.up = true ∨ s.clock < p.lostAt + 14000000 → exec (.linkRetrainTimeout port) s = .next s) ∧
    (s.portWaits port = [x] → single s c →
      (s.collsOf x.entry.group = [c] → ∃ t, exec (.linkRetrainTimeout port) s = .next t ∧
        ends s t c 10 ∧ t.mem = s.mem) ∧
      (s.collsOf x.entry.group = [c, c2] → single s c2 → c2.tok ≠ c.tok → c2.seq ≠ c.seq → c.step < c2.step →
        ∃ t, exec (.linkRetrainTimeout port) s = .next t ∧ t.u.scalar c.tok = copyStatus 10 0 false c.moved ∧
          t.u.scalar c2.tok = copyStatus 11 c2.xi c2.wr c2.moved ∧ t.mem = s.mem)))

/-- 10 R238, R239, 14 R302, 12 R264: a shoot-down of the host revokes every lease of the context that meets the range, sets BUSY
and waits for the dies in service; one from another module does the same, or is acknowledged at once under B1; an
acknowledgement strikes its module off the oldest shoot-down with its tag; 2,800,000 cycles without one strike a module off and
fence it, and cut this module off from a range whose shoot-down it has not answered by then. That a shoot-down's TAG is its context, and that an acknowledgement strikes the oldest with its tag, is the model's choice (log 18). -/
def Obligations.ShootDownsRevoke : Prop := ∀ (s : State) (base len ctl : BitVec 64) (port src ctx b n m : Nat) (p : Port)
    (x : Shoot),
  let me := Config.moduleId % 2 ^ 17
  let revoked := fun (t : State) (ctx b n : Nat) => ∀ l ∈ t.work.launches, l.ctx = ctx → ∀ y ∈ l.leased,
    y.1 < b + n → b < y.1 + y.2.1 → y.2.2 = true
  (s.window.busy = false → ctl.getLsbD 63 = true → ctl.getLsbD 10 = false → ∃ t y, exec (.shootdown base len ctl) s = .next t ∧
    t.window.busy = true ∧ revoked t (ctl.toNat % 1024) base.toNat len.toNat ∧ t.work.shoots = s.work.shoots ++ [y] ∧
    y.ctx = ctl.toNat % 1024 ∧ y.base = base.toNat ∧ y.len = len.toNat ∧ y.modules = [] ∧ y.reply = none ∧
    (∀ d, d ∈ y.dies ↔ ∃ z ∈ s.allDies, z.num = d ∧ z.fenced = false ∧ z.shed = false) ∧ t.mem = s.mem) ∧
  (s.supply.b1 = false → ∃ t y, exec (.shootdownMulticast port ⟨src, me, true⟩ ctx b n) s = .next t ∧ revoked t ctx b n ∧
    t.work.shoots = s.work.shoots ++ [y] ∧ y.ctx = ctx ∧ y.reply = some (port, src)) ∧
  (s.supply.b1 = true → s.fabric.ports[port]? = some p → ∃ t f, exec (.shootdownMulticast port ⟨src, me, true⟩ ctx b n) s = .next t ∧
    revoked t ctx b n ∧ t.fabric.ports[port]? = some { p with fails := 0, out := p.out ++ [f] } ∧ f.type = 0x21 ∧ f.dmod = src) ∧
  (s.work.shoots = [x] → ∃ t, exec (.shootdownAck ⟨m, n, ⟨port, me, true⟩⟩) s = .next t ∧ t.mem = s.mem ∧ t.u = s.u ∧ t.work.shoots =
    [if x.ctx = n ∧ m ∈ x.modules then { x with modules := x.modules.filter (fun k => decide (k ≠ m)) } else x]) ∧
  (s.work.shoots = [x] → m ∈ x.modules → x.since + 2800000 ≤ s.clock → ∃ t, exec (.shootdownTimeout m) s = .next t ∧
    t.work.shoots = [{ x with modules := x.modules.filter (fun k => decide (k ≠ m)) }] ∧ m ∈ t.fabric.fenced ∧ t.mem = s.mem ∧
    t.u = s.u) ∧
  (s.work.shoots = [x] → x.reply = some (port, m) → x.since + 2800000 ≤ s.clock → (x.ctx, x.base, x.len) ∉ s.fabric.cut →
    ∃ t, exec (.shootdownTimeout m) s = .next t ∧ (x.ctx, x.base, x.len) ∈ t.fabric.cut ∧ m ∈ t.fabric.fenced ∧ t.mem = s.mem ∧
      t.u = s.u)

/-- 13 R286, R287, R289, R290: a scrub writes a corrected granule back sound; an error in a clean line is only logged; a dirty
line goes back poisoned and its way is quarantined until it is enabled again, with no line in it to err; a retired page's bytes lie in
its spare, and the list BADPAGE takes it, or, when the list is full, this boot only, which LISTFULL says; a channel's filter is cleared. 13 R291 to R294, 14 R310: a die that is fenced, for whatever cause, a link silent for 14,000 cycles or a
thermal trip, while it holds no unit and no context includes it, leaves service, its bit leaves the next live-die map and the epoch
advances; a rejoin takes it back, its bit with it where it is in service at BL2 or above (14 R316); a base die's fault takes its stack out of use; a cluster's port, where no live peer window maps an allocation on it, is cut off before it is
powered down, and both end together. Where the fault lies in the die's reserved core, firmware moves to another core of the
die, which the record FWCORE then names. The model's choices: which core that is (log 3), that a cluster is not gated while a window
maps an allocation on it (log 52), where the driver reads LISTFULL (log 105). -/
def Obligations.ErrorsAndDies : Prop :=
  (∀ (s : State) (a line slice way page spare channel : Nat),
    ((∃ x ∈ s.errs.scrubs, x.1 = granOf a) → s.mem.eccOf (granOf a) = .correctable → wfTab Code.clean s.mem.ecc = true →
      ∃ t, exec (.scrubWriteback a) s = .next t ∧ t.mem.eccOf (granOf a) = .clean ∧ SameMemory s t ∧
        ∀ x ∈ t.errs.scrubs, x.1 ≠ granOf a) ∧
    ((slice, way) ∉ s.errs.ways → ∃ t, exec (.llcLineError line slice way false) s = .next t ∧ t.mem = s.mem ∧ t.u = s.u ∧
      t.work = s.work ∧
      (s.errs.queue.length < 256 → ∃ e, t.errs.queue = s.errs.queue ++ [e] ∧ e.addr = 64 * line ∧ e.kind = 5)) ∧
    ((slice, way) ∈ s.errs.ways → exec (.llcLineError line slice way true) s = .next s) ∧
    ((slice, way) ∉ s.errs.ways → s.mem.tagOf (64 * line) = 0 → line < 2 ^ 58 → wfTab Code.clean s.mem.ecc = true →
      ∃ t, exec (.llcLineError line slice way true) s = .next t ∧ t.mem.eccOf (64 * line) = .poisoned ∧
        t.mem.eccOf (64 * line + 32) = .poisoned ∧ (slice, way) ∈ t.errs.ways ∧ SameMemory s t) ∧
    (∃ t, exec (.llcWayReenable slice way) s = .next t ∧ (slice, way) ∉ t.errs.ways ∧ t.mem = s.mem ∧ t.u = s.u) ∧
    (s.mem.wf = true → page ≠ spare → ∃ t, exec (.pageRetirement page spare) s = .next t ∧
      (∀ i, i < 65536 → t.mem.byte (65536 * spare + i) = s.mem.byte (65536 * page + i)) ∧
      (s.badList.length < 4096 → t.badList = s.badList ++ [(page, spare)]) ∧
      (4096 ≤ s.badList.length → t.driverStatus = 1 ∧ page ∈ t.badPages ∧ t.badList = s.badList)) ∧
    (wfTab [] s.errs.bloom = true → ∃ t, exec (.bloomClear channel) s = .next t ∧ lookup [] t.errs.bloom channel = [] ∧
      t.mem = s.mem ∧ t.u = s.u)) ∧
  (∀ (s : State) (d k : Nat) (x : Die) (why : FenceKind) (silent : Nat),
    let fences := fun (i : Instr) => ∃ t, exec i s = .next t ∧ t.mem = s.mem ∧ (∃ y, t.dieAt d = some y ∧ y.fenced = true) ∧
      t.work.pendLive.getLsbD d = false ∧ t.work.epoch = (s.work.epoch + 1) % 2 ^ 32
    d < 16 → s.dieAt d = some x →
    ((∀ c ∈ s.work.ctxs, c.dieset.getLsbD d = false) → (∀ u ∈ s.allStrands, u.place.die = d → u.st.onStrand = false) →
      x.fenced = false → 
      fences (.dieFence ⟨d, why, false⟩) ∧ (14000 ≤ silent → fences (.dieLinkTimeout ⟨d, silent⟩)) ∧ fences (.thermalTrip d) ∧
      ∃ t y, exec (.dieFence ⟨d, why, true⟩) s = .next t ∧ t.dieAt d = some y ∧ y.fenced = true ∧ t.mem = s.mem ∧
        t.work.pendLive.getLsbD d = false ∧ (x.retired = [] → x.fwcore < 12 → wfTab 0 s.fwRecord = true →
          y.retired = [x.fwcore] ∧ y.fwcore ≠ x.fwcore ∧ y.fwcore < 12 ∧ lookup 0 t.fwRecord d = y.fwcore)) ∧
    (silent < 14000 → exec (.dieLinkTimeout ⟨d, silent⟩) s = .next s) ∧
    (x.fenced = true → ∃ t, exec (.dieRejoin d) s = .next t ∧ t.dieAt d = some { x with fenced := false } ∧
      (s.window.dies.getLsbD d = true → 2 ≤ s.window.level →
        t.work.pendLive.getLsbD d = true ∧ t.work.epoch = (s.work.epoch + 1) % 2 ^ 32) ∧
      (s.window.dies.getLsbD d = false → t.work = s.work)) ∧
    (s.work.launches = [] → ∃ t, exec (.baseDieFault d) s = .next t ∧ d ∈ t.errs.badStacks ∧ t.mem = s.mem ∧ t.u = s.u) ∧
    (s.windowsOn d k = true → exec (.clusterGate d k) s = .next s) ∧
    (s.windowsOn d k = false → ∃ t, exec (.clusterGate d k) s = .next t ∧ t.dieAt d = some { x with gated := x.gated.set k true }) ∧
    (x.gated.getD k false = true → ∃ t, exec (.clusterPowerDown d k) s = .next t ∧
      t.dieAt d = some { x with down := x.down.set k true }) ∧
    (∃ t, exec (.clusterUngate d k) s = .next t ∧
      t.dieAt d = some { x with gated := x.gated.set k false, down := x.down.set k false }))

/-- 01 R40, 10 R234 to R236: a launch of single units whose next one fits on the strand in front: the unit enters there READY
and unprivileged at its entry, its scalars as 01 R40 lists them, owns the array if its slot asks for it, and the share moves
on. -/
def Obligations.UnitsEnter : Prop := ∀ (s : State) (x : Die) (l : Launch) (sl : Slot) (h : Share) (r : Nat),
  s.dieServes x.num = true → s.dieAt x.num = some x → s.toPlace x true = [.pending l] → s.work.launches ≠ [] →
  s.nextGroup l x.num = some (sl, [[r]]) → s.findTeam x l.uid (s.prioOn l x.num) [.fresh ⟨l.uid, r⟩ sl.desc] =
    some [(.fresh ⟨l.uid, r⟩ sl.desc, s.u.place)] → l.ctx = s.u.own.ctx →
  ∃ t, exec (.placement x.num) s = .next t ∧ t.u.who = ⟨l.uid, r⟩ ∧ t.u.st = .ready ∧ t.u.privileged = false ∧
    t.u.pc = BitVec.ofNat 64 sl.desc.entry ∧ t.u.scalar 1 = BitVec.ofNat 64 r ∧ t.u.scalar 2 = BitVec.ofNat 64 l.g ∧
    t.u.scalar 3 = 0 ∧ t.u.scalar 4 = 1 ∧ t.u.scalar 5 = mkPaddr 3 15 l.argoff ∧ t.u.scalar 6 = 0 ∧ t.u.loops = [] ∧
    t.u.flights = [] ∧ t.u.own.prio = s.prioOn l x.num ∧ (sl.desc.array = true → t.core.matrix.owner = some ⟨l.uid, r⟩) ∧
    (s.work.launches = [l] → l.shares = [h] → h.die = x.num → ∃ l' h', t.work.launches = [l'] ∧ l'.shares = [h'] ∧
      h'.next = h.next + 1)

/-- 10 R236, R241, R244, 14 R300, R302: a tick boundary advances TICK, clears TICKPH, refills the tokens up to their maximum and
stops the units of ticks whose phase deadline has passed; a drain that has run past its time takes a token and pre-empts its
victim; a launch whose predecessor has completed is released. -/
def Obligations.TicksAndReleases : Prop := ∀ (s : State) (r : Drain) (l : Launch) (c : Ctx) (x : Die),
  (s.window.started = true → ∃ t, exec .tickBoundary s = .next t ∧ t.window.tick = s.window.tick + 1 ∧ t.die.tickPh = 0 ∧
    (∀ p, s.window.nextper = some p → t.window.tickper = p ∧ t.window.nextper = none) ∧
    t.work.ctxs = s.work.ctxs.map (fun c => { c with tokens := min c.tokmax (c.tokens + c.tokref) }) ∧ t.mem = s.mem ∧
    (s.u.place.die = s.die.num → s.u.st.onStrand = true → s.u.st ≠ .ending → s.u.own.tickRel = true → s.u.own.deadline ≠ 0 →
      s.u.own.deadline ≤ s.now → t.u.trap.soft = s.u.trap.soft ||| 4)) ∧
  (s.window.started = false → exec .tickBoundary s = .next s) ∧
  (s.drainDue x.num = some r → s.dieAt x.num = some x → s.launchOf r.target = some l → s.ctxOf l.ctx = some c → c.tokens ≠ 0 →
    r.victims = [s.u.who] → s.u.st.onStrand = true → (∀ u ∈ s.strands, u.holds s.u.who = false) →
    s.prioOn l x.num < s.u.own.prio → ∃ t, exec (.drainTimeout x.num) s = .next t ∧ t.u.trap.soft = s.u.trap.soft ||| 1 ∧
      t.ctxOf l.ctx = some { c with tokens := c.tokens - 1 } ∧ t.u.regs = s.u.regs ∧ t.mem = s.mem) ∧
  (s.launchOf l.uid = some l → s.predDone l = true → ∃ t, exec (.predecessorRelease l.uid) s = .next t ∧
    t.launchOf l.uid = some { l with predOk := true } ∧ t.mem = s.mem ∧ t.u = s.u)

/-- 10 R214 to R219, R231, R233: a sound packet at the read index of a served queue is taken up: NOP does nothing, SIGNAL adds
to its word, MBOX_PUT fills an EMPTY word and MBOX_TAKE empties a FULL one, WAIT_ALL and WAIT_ANY pass once their conditions
hold, and HIB_LIST extends its context's list. A packet taken up moves the read index and the sequence number on; one that
cannot go on leaves its queue BLOCKED with the reason, a mailbox's with its request at the home, behind those before it; one
with a malformed field halts it with the code. The acting die passes the packet so; the other dies still have to read the outcome, and
each evaluates a WAIT by its own reads. -/
def Obligations.PacketsAct : Prop := ∀ (s : State) (q : Nat) (x : Queue) (p : Packet) (h d : Nat) (c : Ctx),
  let v : Word := BitVec.ofNat 64 (Packet.num p 24 8)
  let w := s.wordHome x.ctx (Packet.num p 16 8) 8 true true
  let after := x.rdidx + BitVec.ofNat 32 (Packet.len p)
  let others := (x.reads.map Prod.fst).filter (fun e => decide (s.actingDie x.ctx ≠ some e))
  let taken := fun (i : Instr) (Q : State → Prop) => ∃ t, exec i s = .next t ∧ Q t ∧ t.queueOf q = some { x with
    rdidx := after, seq := x.seq + 1, state := 1, why := 0, code := 0,
    reads := x.reads.map (fun r => (r.1, if s.actingDie x.ctx = some r.1 then after else r.2)),
    waits := if (Packet.op p = 0x23 ∨ Packet.op p = 0x24) ∧ others ≠ [] then x.waits ++ [⟨x.rdidx, p, others⟩] else x.waits }
  let blocks := fun (i : Instr) (why : Nat) => ∃ t, exec i s = .next t ∧ t.mem = s.mem ∧
    t.queueOf q = some { x with state := 2, why := why }
  let alone := fun (k : Wait → Bool) => ∀ y ∈ s.waiters, y.addr = h → y.served = none → k y.wait = false
  let waits := fun (i : Instr) (k : Wait) => ∃ t, exec i s = .next t ∧ t.mem = s.mem ∧
    t.waiters = s.waiters ++ [⟨boxWho q, h, k, none⟩] ∧ t.queueOf q = some { x with state := 2, why := 2 }
  let same := fun (t : State) => ∀ b, b < h ∨ h + 8 ≤ b → t.mem.byte b = s.mem.byte b
  let holds := fun (e : Nat × Nat) => ∃ a, s.wordHome x.ctx e.1 8 true false = some a ∧
    sigMode (Packet.num p 9 1) (s.mem.word a) (BitVec.ofNat 64 e.2) = true
  s.queueOf q = some x → s.queueServed x = true → s.packetAt x = some p → x.state = 1 →
  (∀ k, bytesCode x p = some k → Packet.op p = 0 → ∃ t, exec (.nopPacket q) s = .next t ∧ t.mem = s.mem ∧
    t.queueOf q = some { x with state := 3, code := k, why := 0 }) ∧
  (bytesCode x p = none → (Packet.ordered p = true → s.queueOpen q = false) →
    (Packet.op p = 0x00 → taken (.nopPacket q) (fun t => t.mem = s.mem)) ∧
    (s.mem.wf = true → w = some h → h % 8 = 0 → s.mem.eccOf h = .clean →
      (Packet.op p = 0x22 → taken (.signalPacket q) (fun t => t.mem.word h = s.mem.word h + v ∧ same t)) ∧
      (Packet.op p = 0x20 → s.boxRequest q = none → s.mem.isFull h = false → alone isPutf →
        taken (.mboxPut q) (fun t => t.mem.word h = v ∧ t.mem.isFull h = true ∧ same t)) ∧
      (Packet.op p = 0x20 → s.boxRequest q = none → s.mem.isFull h = true ∨ ¬ alone isPutf →
        waits (.mboxPut q) (.putf v)) ∧
      (Packet.op p = 0x21 → s.wordHome x.ctx (Packet.num p 24 8) 8 false true = some d → s.boxRequest q = none →
        s.mem.isFull h = false ∨ ¬ alone isTake → waits (.mboxTake q) .take) ∧
      (∀ y, s.boxRequest q = some y → y.served = none → (Packet.op p = 0x20 → blocks (.mboxPut q) 2) ∧
        (Packet.op p = 0x21 → s.wordHome x.ctx (Packet.num p 24 8) 8 false true = some d → blocks (.mboxTake q) 2)) ∧
      (Packet.op p = 0x21 → s.wordHome x.ctx (Packet.num p 24 8) 8 false true = some d → d % 8 = 0 → s.mem.eccOf d = .clean →
        s.boxRequest q = none → s.mem.isFull h = true → alone isTake → taken (.mboxTake q) (fun t => t.mem.isFull h = false ∧ t.mem.word d = s.mem.word h ∧
          ∀ b, b < d ∨ d + 8 ≤ b → t.mem.byte b = s.mem.byte b))) ∧
    ((∀ e ∈ entriesOfPacket p, ∃ a, s.wordHome x.ctx e.1 8 true false = some a) →
      (Packet.op p = 0x23 → (∀ e ∈ entriesOfPacket p, holds e) → taken (.waitAll q) (fun t => t.mem = s.mem)) ∧
      (Packet.op p = 0x23 → (∃ e ∈ entriesOfPacket p, ¬ holds e) → blocks (.waitAll q) 3) ∧
      (Packet.op p = 0x24 → (∃ e ∈ entriesOfPacket p, holds e) → taken (.waitAny q) (fun t => t.mem = s.mem)) ∧
      (Packet.op p = 0x24 → (∀ e ∈ entriesOfPacket p, ¬ holds e) → blocks (.waitAny q) 3)) ∧
    (Packet.op p = 0x40 → (Packet.num p 9 1).testBit 0 = false → s.ctxOf x.ctx = some c → entriesOfPacket p = [(h, 0)] →
      h % 65536 = 0 → c.list.length < 256 →
      taken (.hibList q) (fun t => t.ctxOf x.ctx = some { c with list := c.list ++ [⟨h, 0, 0⟩] } ∧ t.mem = s.mem)))

/-- 10 R221 to R230, R233, 01 R37: SLOT_LOAD of an image without declarations makes its slot resident with the descriptor and
the code copied; SLOT_EVICT of a slot that no open launch uses frees it; INVOKE and INVOKE_TICK open a launch, its counter
0; PHASE_OPEN opens a phase, released at once or at its tick; PHASE_CLOSE waits for the phase and closes it; CANCEL marks
its instance, but for one that is COMPLETE; a BLOCKED queue whose slot has come goes on. -/
def Obligations.PacketsOpenWork : Prop := ∀ (s : State) (q : Nat) (x : Queue) (p : Packet) (d : Desc) (sl : Slot) (y : Phase)
    (g : Graph) (l : Launch) (h img : Nat),
  let num := Packet.num p 8 1
  let vf := q / 64
  let taken := fun (i : Instr) (Q : State → Prop) => ∃ t z, exec i s = .next t ∧ Q t ∧ t.queueOf q = some z ∧
    z.rdidx = x.rdidx + BitVec.ofNat 32 (Packet.len p) ∧ z.seq = x.seq + 1 ∧ z.state = 1
  let blocks := fun (i : Instr) (why : Nat) => ∃ t, exec i s = .next t ∧ t.mem = s.mem ∧
    t.queueOf q = some { x with state := 2, why := why }
  let opens := fun (i : Instr) (tick : Option Nat) => taken i (fun t => t.mem.word h = 0 ∧ ∃ n, t.work.launches =
    s.work.launches ++ [n] ∧ n.uid = s.work.uid ∧ n.id = Packet.num p 16 4 ∧ n.ctx = x.ctx ∧ n.g = Packet.num p 12 3 + 1 ∧
    n.prio = Packet.num p 10 1 % 8 ∧ n.slot = num ∧ n.ctr = h ∧ n.tick = tick ∧ n.done = false)
  s.queueOf q = some x → x.page = q → s.queueServed x = true → s.packetAt x = some p → bytesCode x p = none →
  (Packet.ordered p = true → s.queueOpen q = false) → s.mem.wf = true →
  (Packet.op p = 0x01 → x.state = 1 → s.slotOf vf num = none → Packet.num p 16 8 % 64 = 0 →
    s.wordHome x.ctx (Packet.num p 16 8) (Packet.num p 24 8) true false = some img →
    readDesc (bytesNat (s.mem.range img 64)) (Packet.num p 24 8) = some d →
    (∀ k, 1 ≤ k → k ≤ 15 → bytesNat (s.mem.range (img + 32 + 32 * k) 32) = 0) →
    taken (.slotLoad q) (fun t => ∃ n, t.work.slots = s.work.slots ++ [n] ∧ n.vf = vf ∧ n.num = num ∧ n.ctx = x.ctx ∧
      n.desc = d ∧ ∃ e r, n.exts = e :: r ∧ extLen e = 64 * d.bundles ∧ extExec e = true ∧
      ∀ i, i < 64 * d.bundles → extBase e + 64 * d.bundles ≤ img ∨ img + d.codeoff + 64 * d.bundles ≤ extBase e →
        t.mem.byte (extBase e + i) = s.mem.byte (img + d.codeoff + i))) ∧
  (Packet.op p = 0x02 → x.state = 1 → (∀ l ∈ s.work.launches, l.vf = vf → l.slot = num → l.done = true) →
    taken (.slotEvict q) (fun t => t.slotOf vf num = none ∧ t.mem = s.mem)) ∧
  (Packet.op p = 0x10 → x.state = 1 → s.slotOf vf num = none → blocks (.invoke q) 1) ∧
  (x.state = 1 ∨ (x.state = 2 ∧ x.why = 1) → s.slotOf vf num = some sl → sl.decls = [] → entriesOfPacket p = [] →
    Packet.num p 48 8 = 0 → s.phaseOf x.ctx (Packet.num p 24 4) = some y → y.graph (Packet.num p 20 4) = some g →
    g.opened < g.launches → y.cancelled = false → g.cancelled = false →
    s.jobDead x.ctx = false →
    (∀ l ∈ s.work.launches, l.ctx = x.ctx → l.id ≠ Packet.num p 16 4) → Packet.num p 28 4 = 0xFFFFFFFF →
    s.wordHome x.ctx (Packet.num p 40 8) 8 false true = some h → h % 8 = 0 → s.mem.eccOf h = .clean →
    (Packet.op p = 0x10 → opens (.invoke q) none) ∧
    (Packet.op p = 0x11 → opens (.invokeTick q) (some (Packet.num p 56 8))) ∧
    (Packet.op p = 0x10 → x.state = 2 → opens (.queueResume q) none)) ∧
  (Packet.op p = 0x30 → x.state = 1 → entriesOfPacket p = [(2 ^ 32 + 7, img)] → s.wordHome x.ctx img 8 false true = some (h + 8) →
    s.wordHome x.ctx (Packet.num p 16 8) 8 false true = some h →
    (∀ y ∈ s.work.phases, y.ctx = x.ctx → y.id ≠ Packet.num p 8 4 ∧ (y.graph 7).isNone = true) →
    taken (.phaseOpen q) (fun t => ∃ n, t.phaseOf x.ctx (Packet.num p 8 4) = some n ∧ n.ctr = h ∧ n.done = false ∧
      n.graphs.map Graph.id = [7] ∧ n.graphs.map Graph.launches = [1] ∧
      n.released = if atTick p then decide (Packet.num p 56 8 ≤ s.window.tick) else true)) ∧
  (Packet.op p = 0x31 → x.state = 1 → s.phaseOf x.ctx (Packet.num p 8 4) = some y → y.done = false →
    blocks (.phaseClose q) 4) ∧
  (Packet.op p = 0x31 → x.state = 1 → s.phaseOf x.ctx (Packet.num p 8 4) = some y → y.done = true →
    taken (.phaseClose q) (fun t => t.phaseOf x.ctx (Packet.num p 8 4) = none ∧ t.mem = s.mem)) ∧
  (Packet.op p = 0x32 → x.state = 1 → num = 1 → s.work.launches = [l] → l.ctx = x.ctx → l.id = Packet.num p 12 4 →
    taken (.cancelPacket q) (fun t => ∃ n, t.work.launches = [n] ∧ n.cancelled = (l.cancelled || !l.done) ∧ n.id = l.id))

/-- 14 R297, R298, R300, 10 R216, R234, 07 R161: what the writes of a queue page do: WRIDX beyond the ring is dropped and
counted, RDIDX is taken while the queue is UNBOUND or halted, STATUS resumes a halted queue, BIND and its clearing bind and
unbind, QPRIO is always taken. A context entry made VALID creates its context with its windows, inside the 16 MiB of each die's
scratchpad (00 R6), zeroed, and one that nothing uses is released. That a job's counter begins at zero with its context and gets COMPLETE with its release, and where in
memory it lies, is the model's choice (log 48). -/
def Obligations.PagesAndContexts : Prop := ∀ (s : State) (q k : Nat) (x : Queue) (v : BitVec 32) (w : BitVec 64)
    (prio : BitVec 3) (e : BitVec 512) (c : Ctx),
  let page := fun (i : Instr) (y : Queue) => ∃ t, exec i s = .next t ∧ t.queueOf q = some y ∧ t.mem = s.mem ∧ t.u = s.u
  s.queueOf q = some x →
  (x.wiaddr = 0 → (v - x.rdidx).toNat ≤ 2 ^ x.logn / 64 → page (.wridxWrite q v) { x with wridx := v }) ∧
  (x.wiaddr ≠ 0 ∨ 2 ^ x.logn / 64 < (v - x.rdidx).toNat →
    page (.wridxWrite q v) { x with drops := min (x.drops + 1) (2 ^ 32 - 1) }) ∧
  (x.state = 0 ∨ x.state = 3 → page (.rdidxWrite q v) { x with rdidx := v, reads := x.reads.map (fun r => (r.1, v)), waits := [] }) ∧
  (x.state = 1 ∨ x.state = 2 → page (.rdidxWrite q v) x) ∧
  (x.state = 3 → w.toNat % 4 = 1 → page (.statusWrite q w) { x with state := 1, code := 0, why := 0 }) ∧
  (x.state ≠ 3 → page (.statusWrite q w) x) ∧
  (x.bound = true → page (.queueBind q w) { x with qprio := w.toNat / 64 % 8 }) ∧
  (x.bound = false → s.ctxOf (w.toNat / 2 ^ 9 % 1024) = some c → w.getLsbD 19 = true → 12 ≤ w.toNat % 32 → w.toNat % 32 ≤ 24 →
    x.base.toNat % 2 ^ (w.toNat % 32) = 0 → x.wiaddr.toNat % 8 = 0 → c.vf = q / 64 →
    s.hwqTaken q (w.toNat / 2 ^ 20 % 64) c.dieset = false → page (.queueBind q w) { x with
      logn := w.toNat % 32, hostmem := w.getLsbD 5, qprio := w.toNat / 64 % 8, ctx := w.toNat / 2 ^ 9 % 1024,
      hwq := w.toNat / 2 ^ 20 % 64, bound := true, state := 1, code := 0, why := 0, seq := 0,
      reads := ((List.range 16).filter (fun d => c.dieset.getLsbD d)).map (fun d => (d, x.rdidx)), waits := [] }) ∧
  (s.queueOpen q = false → page (.queueUnbind q) { x with bound := false, state := 0, code := 0, why := 0, reads := [], waits := [] }) ∧
  (s.queueOpen q = true → exec (.queueUnbind q) s = .next s) ∧
  page (.qprioWrite q prio) { x with qprio := prio.toNat } ∧
  (s.ctxOf k = none → k < 1024 → e.getLsbD 16 = true → e.toNat % 2 ^ 16 ≠ 0 → e.toNat / 2 ^ 18 % 128 ≤ 64 → s.mem.wf = true →
    Memory.bad (s.mem.eccOf (jobAddr k)) = false →
    ∃ t y, exec (.contextCreate k e) s = .next t ∧ t.ctxOf k = some y ∧ y.dieset.toNat = e.toNat % 2 ^ 16 ∧
      y.retry = e.getLsbD 17 ∧ y.vf = e.toNat / 2 ^ 18 % 128 ∧ y.weight = e.toNat / 2 ^ 32 % 256 ∧
      y.tokens = e.toNat / 2 ^ 40 % 256 ∧ y.killed = false ∧ t.mem.word (jobAddr k) = 0 ∧
      ∀ d a, d < 16 → e.getLsbD d = true → a < 64 * (e.toNat / 2 ^ 216 % 2 ^ 24) →
        64 * (e.toNat / 2 ^ 192 % 2 ^ 24) + a < 2 ^ 24 →
        t.mem.byte (2 ^ 64 + d * 2 ^ 24 + 64 * (e.toNat / 2 ^ 192 % 2 ^ 24) + a) = 0) ∧
  (s.ctxOf k = some c → (∀ y ∈ s.work.phases, y.ctx ≠ k) → (∀ y ∈ s.work.launches, y.ctx ≠ k) →
    (∀ y ∈ s.work.queues, y.bound = true → y.ctx ≠ k) → s.mem.wf = true →
    Memory.bad (s.mem.eccOf (jobAddr k)) = false → ∃ t, exec (.contextRelease k) s = .next t ∧
      t.ctxOf k = none ∧ t.mem.word (jobAddr k) = s.mem.word (jobAddr k) ||| 0x8000000000000000)

/-- 12 R261 to R265, R270: WARN rises and falls with a message to the host; B1 and B2 stop every unit with POWERFAIL, B2 from
stage 1 on, each message sent; HIBREQ takes a brown-out into B2; PARK comes when every unit has stopped, a drain that has
nothing left and is sealed advances the counter C, the switch opens, and the module boots again with what outlasts the loss
of power. A power-fail before a boot has restored its image goes from its second stage to the open switch; a B2 that comes while stage 1 only finishes takes the
return's place; a brown-out's end before its entry is complete waits for that. The model's choices: memory below 2^66 reads 0 after a cold boot (log 1), the numbers of the messages (log 12), and LAST = 2 for every saved unit at WARM_RESUME (log 62). -/
def Obligations.SupplyLevels : Prop := ∀ (s : State) (cause : BitVec 2) (budget : Nat),
  let tells := fun (t : State) => t.window.msix = s.window.msix ++ [(0, 66)]
  let stops := fun (t : State) => s.u.st.onStrand = true → s.u.st ≠ .ending → s.u.trap.retained = false →
    t.u.trap.soft = s.u.trap.soft ||| 2
  let b2 := fun (t : State) (n : Nat) => t.supply.b2 = true ∧ t.supply.b1 = false ∧ t.supply.stage = 1 ∧ t.supply.cause = n ∧
    t.supply.fromB1 = s.supply.b1 ∧ stops t ∧ tells t
  (s.supply.warn = false → s.supply.b1 = false → s.supply.b2 = false → ∃ t, exec .warnEntry s = .next t ∧
    t.supply = { s.supply with warn := true } ∧ tells t ∧ t.u = s.u ∧ t.mem = s.mem) ∧
  (s.supply.warn = true → s.supply.b1 = false → s.supply.b2 = false → ∃ t, exec .warnExit s = .next t ∧
    t.supply = { s.supply with warn := false } ∧ tells t ∧ t.u = s.u ∧ t.mem = s.mem) ∧
  (s.supply.b1 = false → s.supply.b2 = false → s.supply.powered = true → ∃ t, exec .b1Entry s = .next t ∧
    t.supply.b1 = true ∧ t.supply.settled = false ∧ stops t ∧ tells t ∧ t.mem = s.mem) ∧
  (s.supply.b2 = false → s.supply.powered = true → ∃ t, exec (.b2Entry cause) s = .next t ∧ b2 t cause.toNat) ∧
  (s.supply.b2 = true → s.supply.powered = true → s.supply.returning = true → exec (.b2Entry cause) s = .next
    { s with supply := { s.supply with returning := false, cause := cause.toNat, entryBudget := s.supply.budget } }) ∧
  (s.supply.b1 = true → s.supply.b2 = false → ∃ t, exec .hibreq s = .next t ∧ b2 t 3) ∧
  (s.supply.b2 = true → s.supply.stage = 1 → s.allStopped = true → s.supply.returning = false →
    (∀ u ∈ s.allStrands, u.trap.retained = false ∧ foreignDirty u = []) →
    exec .park s = .next { s.recordWear with supply := { s.supply with stage := 2 } }) ∧
  (s.supply.b2 = true → s.supply.stage = 2 → s.imageUnused = false → s.work.ctxs = [] → ∃ t, exec .drain s = .next t ∧ t.supply.stage = 3 ∧
    t.supply.regions = [] ∧ t.mem = s.mem) ∧
  (s.supply.b2 = true → s.supply.stage = 3 → s.nextRegion = none → ∃ t, exec .seal s = .next t ∧ t.supply.stage = 4 ∧
    t.secure.c = s.secure.c + 1 ∧ ∃ i ∈ t.supply.images, i.seq = s.secure.c + 1 ∧ i.regions = s.supply.regions) ∧
  (s.supply.b2 = true → s.supply.stage = 4 ∨ (s.supply.stage = 2 ∧ s.imageUnused = true) → exec .powerOff s =
    .next { s with supply := { s.supply with stage := 5, powered := false } }) ∧
  (s.supply.powered = false → s.mem.wf = true → ∃ t, exec .coldBoot s = .next t ∧ t.supply.powered = true ∧ t.supply.booting = true ∧
    t.secure.bootcnt = s.secure.bootcnt + 1 ∧ t.secure.c = s.secure.c ∧ t.window.level = 0 ∧ t.work.saved = [] ∧
    ∀ a, t.mem.byte a = if 2 ^ 66 ≤ a then s.mem.byte a else 0) ∧
  (s.supply.b2 = true → s.supply.stage = 1 → exec .warmResume s =
    .next { s with supply := { s.supply with returning := true } }) ∧
  (s.supply.b2 = true → s.supply.stage = 2 → s.fabric.groups = [] → s.work.phases = [] → ∃ t, exec .warmResume s = .next t ∧
    t.supply.b2 = false ∧ t.supply.stage = 0 ∧ t.work.saved = s.work.saved.map (fun v => { v with own := { v.own with last := 2, inB1 := false } }) ∧
    tells t) ∧
  (s.supply.b1 = true → s.supply.b2 = false → s.supply.settled = true → s.fabric.groups = [] → s.work.phases = [] →
    s.strands = [] → s.u.trap.retained = false → ∃ t, exec .b1Exit s = .next t ∧ t.supply.b1 = false ∧ t.supply.settled = false ∧
      t.die.shed = false ∧ tells t) ∧
  (s.supply.b1 = true → s.supply.b2 = false → s.supply.settled = false → exec .b1Exit s =
    .next { s with supply := { s.supply with exitDue := true } }) ∧
  (s.work.ctxs = [] → exec (.budgetRecompute budget) s = .next { s with supply := { s.supply with budget := budget } })

/-- 14 R295, R302, R306 to R308, R310, R312 to R316, 07 R158, 12 R262: the heartbeat, and its loss, on which the die in front runs at
1.4 GHz at most and every die's clamps are the calibrated ones; a current sample against its clamp, wear and the ceiling it sets, a
change of clock, the rise of the boot level, which takes a valid HARVEST and CALIB, and an image that verifies, in the component's
inactive copy; the tick source; the attestation report, which begins with the nonce and lies in the host's buffer; a write to KEEP, which
die 0 never leaves; an access of another size or misaligned, which has no effect. The model's choices: how RETN follows the clock (log
60), the numbers of the components and where an image lies (log 66), where host memory begins (log 12), the choice of what the boot
knows of its records (log 89). -/
def Obligations.ClocksAndPower : Prop := ∀ (s : State) (x : Die) (k v mhz retn : Nat) (w : BitVec 64) (dies : BitVec 16)
    (image : FwImage) (nonce : BitVec 256) (buffer : BitVec 64),
  s.die = x →
  (∃ t, exec .heartbeat s = .next t ∧ t.window = { s.window with heartbeat := true, updating := false, beat := s.clock } ∧
    t.u = s.u ∧ t.mem = s.mem) ∧
  ((∀ y ∈ s.dies, y.num ≠ x.num) → ∃ t, exec .heartbeatMiss s = .next t ∧ t.window.heartbeat = false ∧
    t.die.freq = min x.freq 1400 ∧ (∀ y ∈ t.allDies, y.clamp = [0, 1, 2].map (Config.clampLimit y.num)) ∧ t.u = s.u ∧
    t.mem = s.mem) ∧
  (k < 3 → x.isense.length = 3 → x.throttled.length = 3 → x.hot.length = 3 → ∃ t, exec (.currentSample x.num k v) s = .next t ∧
    t.die.isense.getD k 0 = v ∧ t.u = s.u ∧ t.mem = s.mem ∧
    (x.clamp.getD k 0 < v → x.hot.getD k false = true → t.die.throttled.getD k false = true) ∧
    (v * 10 < x.clamp.getD k 0 * 9 → t.die.throttled.getD k false = false)) ∧
  (k < 3 → x.wear.length = 3 → ∃ t, exec (.wearUpdate x.num k v) s = .next t ∧
    t.die.wear.getD k 0 = min (2 ^ 48 - 1) (x.wear.getD k 0 + min 16 v) ∧ t.die.ceil = ceilOf t.die.wear ∧ t.u = s.u ∧
    t.mem = s.mem) ∧
  (s.window.heartbeat = true → s.window.updating = false → s.window.level = 3 → mhz % 25 = 0 → 1400 ≤ mhz → mhz ≤ x.ceil →
    ∃ t, exec (.clockChange x.num mhz retn) s = .next t ∧ t.die.freq = mhz ∧ t.u = s.u ∧ t.mem = s.mem ∧
      t.die.retn = if 168000 * mhz ≤ retn * 1400 then retn else x.retn * mhz / x.freq) ∧
  (mhz % 25 ≠ 0 → exec (.clockChange x.num mhz retn) s = .next s) ∧
  ((newest s.secure.records.harvest).isNone = true ∨ (newest s.secure.records.calib).isNone = true →
    exec (.bootLevelRise dies) s = .next s) ∧
  (s.window.level = 2 → (newest s.secure.records.harvest).isSome = true → (newest s.secure.records.calib).isSome = true →
    ∃ t, exec (.bootLevelRise dies) s = .next t ∧ t.window.level = 3 ∧
    (∀ d, d < 16 → t.window.dies.getLsbD d = (dies.getLsbD d && !s.harvest.dies.contains d)) ∧
    t.work.epoch = (s.work.epoch + 1) % 2 ^ 32 ∧ t.u = s.u ∧ t.mem = s.mem) ∧
  (s.window.level = 3 → exec (.bootLevelRise dies) s = .next s) ∧
  (image.component ≠ 2 → lookup 0 s.secure.rollback image.component ≤ image.rollback → wfTab 0 s.secure.rollback = true →
    s.mem.wf = true →
    let copy := 1 - lookup 0 s.secure.active image.component % 2
    let home := firmwareBase image.component copy
    ∃ t, exec (.firmwareUpdate image) s = .next t ∧ t.u = s.u ∧
      if Config.falconVerify (shake256 64 image.bytes) image.signature = true then
        ⟨copy, image⟩ ∈ t.secure.images ∧ lookup 0 t.secure.rollback image.component = image.rollback ∧
        t.secure.running = s.secure.running ∧
        (∀ k b, k < 2 ^ 27 → image.bytes[k]? = some b → t.mem.byte (home + k) = b) ∧
        ∀ a, a < home ∨ home + 2 ^ 27 ≤ a → t.mem.byte a = s.mem.byte a
      else t = s) ∧
  (image.rollback < lookup 0 s.secure.rollback image.component → exec (.firmwareUpdate image) s = .next s) ∧
  (1000000 ≤ w.toNat → w.toNat ≤ 4294967295 →
    (s.window.started = false → ∃ t, exec (.tickperWrite w) s = .next t ∧ t.window.started = true ∧ t.window.tick = 0 ∧
      t.window.tickper = w.toNat ∧ t.die.tickPh = 0) ∧
    (s.window.started = true → exec (.tickperWrite w) s = .next { s with window := { s.window with nextper := some w.toNat } })) ∧
  (s.mem.wf = true → ∃ t, exec (.attestation nonce buffer) s = .next t ∧ t.u = s.u ∧
    ∀ a, (a < 2 ^ 67 + buffer.toNat → t.mem.byte a = s.mem.byte a) ∧
      (a < 32 → t.mem.byte (2 ^ 67 + buffer.toNat + a) = (nonce.extractLsb' (8 * a) 8))) ∧
  (∀ a, barOk a = false → exec (.registerWrite a w) s = .next s) ∧
  (∃ t, exec (.registerWrite ⟨0, 0x2000, 8⟩ w) s = .next t ∧ t.window = { s.window with sdaddr := w } ∧ t.u = s.u ∧ t.mem = s.mem) ∧
  (∃ t, exec (.registerWrite ⟨0, 0x1000, 8⟩ (w &&& 0xFFFF)) s = .next t ∧
    t.supply = { s.supply with keep := w.setWidth 16 ||| 1 } ∧ t.u = s.u ∧ t.mem = s.mem)

/-- 02 R50, R51, 05 R105: an instruction of the S and V slots that only schedules results changes nothing but the writes to land
of its strand: those before it keep everything but their marks of being overtaken, and those it adds name its own
destination registers. MTSR, the divisions, the transfers of control and the shapes of tile groups have statements of their
own. -/
def Obligations.RegisterInstructionsFrame : Prop := ∀ (s : State) (i : Instr),
  let plain := fun (f : Flight) => { f with overtaken := [] }
  schedules i = true → s.Passes i → ∃ t new, exec i s = .next t ∧
    t = { s with u := { s.u with flights := t.u.flights } } ∧ t.u.flights.map plain = s.u.flights.map plain ++ new ∧
    ∀ f ∈ new, match f.dest with
      | .scalar r => r ∈ sDests i
      | .vector r => ∀ k < f.rows.length, r + k ∈ vDests s.u i
      | .extent x w => ∃ a n, i = .setx a n ∧ x = n.toNat / 4 ∧ w = n.toNat % 4
      | _ => False

/-- 02 R53, 09 R195, 13 R284: an instruction of the L and W slots that only issues an access, its address sound, changes no
register, no byte of memory, no mailbox bit, no other strand and nothing of the core: only what its strand has to land or
has outstanding, where the accesses before it stand as they were. -/
def Obligations.AccessInstructionsFrame : Prop := ∀ (s : State) (i : Instr),
  accesses i = true → s.Passes i → s.entryTrap (s.slotFor i) i = none → ∃ t new, exec i s = .next t ∧ SameMemory s t ∧
    t.mem.full = s.mem.full ∧ t.u = { s.u with flights := t.u.flights, accs := t.u.accs } ∧ t.u.accs = s.u.accs ++ new ∧
    t.strands = s.strands ∧ t.core = s.core ∧ t.work = s.work ∧ t.waiters = s.waiters

/-- 03 R88, 02 R50, R63: where nothing else comes first and the strand in front holds issue, the step runs the bundle at PC: its
slots are the words that it decodes; the strands of its core whose wait is over become READY before it; a bundle with one instruction runs that instruction, its checks made, and ends; a
bundle with none is EMPTY_BUNDLE; then the turn passes on. The strand is RUNNING, and the cycle counts against the quantum of its
hold where another of its priority is ready. An event that the world brings is run as it comes, but for a host write that
hibernation shuts out (12 R270); writes to counters that land in that cycle land before it (05 R121). That an event of the agenda is taken before everything else, and the order of what comes first in a step, are the model's choices (logs 6 and 22). -/
def Obligations.StepsRunWhatTheyDecode : Prop := ∀ (s : State) (h : Header) (slots : List (Nat × Instr)) (i : Instr) (k n : Nat)
    (r : List (Nat × Instr)),
  let s1 := s.wakePeers
  let on := (s1.countHold.modU (fun u => { u with st := .running })).noteFetch
  (s.agenda = (n, i) :: r → n ≤ s.clock → step s =
    if hostWrite i = true ∧ (s.supply.b2 = true ∨ s.supply.powered = false) then .next { s with agenda := r }
    else exec i (({ s with agenda := r } : State).beforeEvent i)) ∧
  (s.attempt = .go h slots → ∃ b, s.fetch = .ok b ∧ h = Header.ofBundle b ∧
    ∀ k i, (k, i) ∈ slots → ∃ p w, p.num = k ∧ (p, w) ∈ b.slots ∧ decodeFields p.kind w = .ok i) ∧
  (s.quiet = true → s.mayIssue = true → s.u.st ≠ .blocked → s1.core.holder = s1.u.place.strand → s1.higherReady = false →
    s1.quantumOver = false → s1.core.switchUntil ≤ s1.now → s1.throttled = false → s.attempt = .go h slots →
    (slots = [] → ∀ t, exec (.emptyBundle h.p (BitVec.ofNat 5 h.wait) (BitVec.ofNat 8 h.pop)) on = .next t →
      step s = .next t.advance) ∧
    (slots = [(k, i)] → ∀ t, exec i { (on.beginClause h) with hdr := h, checked := true, slot := k } = .next t →
      step s = .next (t.closeBundle (endsBundle i)).advance))

/-- 03, A bundle encoded, 16 R363 and 17 R397: the words that the spec prints decode to the instructions that it gives them, and
so does RET's (03 R66); the header 0x0024C005 is that of a period with WAIT = 2, nothing popped, and S, V0, L and Y enabled. -/
def Obligations.WordsDecode : Prop :=   decode .S 0x3200000000000000 = .ok .ret ∧
  decode .S 0x2328000000005000 = .ok (.addi 10 0 5) ∧
  decode .V 0x01020080180003C1 = .ok (.vadd ⟨16, 32, 48, 0, 0, 15, 0, 1⟩) ∧
  decode .L 0x0700FF8A00080080 = .ok (.ldD ⟨7, 3, 15, 5, 0x40, 0, 1, 0⟩) ∧
  decode .Y 0x04000D00 = .ok (.fence 3 2) ∧
  decode .L 0x08241F8A00200080 = .ok (.vld ⟨288, 3, 15, 5, 0x100, 0, 1, 0⟩) ∧
  decode .Y 0x4D3C4000 = .ok (.qbind 2 30 2) ∧
  (let b : Bundle := 0x0024C005;
    b.period = true ∧ b.wait = 2 ∧ b.pop = 0 ∧ b.reserved = 0 ∧ (List.range 8).filter b.enabled = [0, 1, 4, 7])

/-- Every step goes on: the spec gives every instruction and every event an effect, so none is a fault or a refusal. That an event which is not due changes nothing, so that none is refused, is the model's choice (log 14). -/
def Obligations.NothingStops : Prop := ∀ s : State, GoesOn (step s) ∧ ∀ i, GoesOn (exec i s)

/-- 14 R306, R315, R316, 05 R111, R119, R121, 02 R59, R64, 01 R20, 08 R176, 12 R262, R277: right after reset no strand holds a
unit, no tile group is configured, no latch bound and no loop open; PERIODMAX is 4096, ASHAPE 15; the planes are INVALID and
the buffers empty; BLEVEL is 0, DRAINMAX 50,000, FREQ 1400 and CEIL 1750, and KEEP keeps die 0. That reset memory lists nothing, and so reads 0, is the model's choice (log 1). -/
def Obligations.ResetLeaves : Prop :=   (∀ u ∈ State.reset.allStrands, u.st = .absent ∧ u.regs.t = [] ∧ u.regs.q = [] ∧ u.loops = [] ∧ u.flights = [] ∧ u.accs = [] ∧
    u.regs.sr.periodmax = 4096 ∧ u.regs.sr.ashape = 15 ∧ u.regs.sr.fpstat = 0 ∧ u.regs.sr.prom = 0 ∧ u.trap.inHandler = false) ∧
  (∀ c ∈ State.reset.allCores, c.matrix.active.st = .invalid ∧ c.matrix.shadow.st = .invalid ∧ c.matrix.buf = [] ∧ c.cbuf = [] ∧
    c.allocs = [] ∧ c.matrix.live = [] ∧ c.matrix.owner = none) ∧
  (∀ d ∈ State.reset.allDies, d.cycle = 0 ∧ d.drainmax = 50000 ∧ d.freq = 1400 ∧ d.ceil = 1750 ∧ d.fenced = false) ∧
  State.reset.allStrands.length = 768 ∧ State.reset.allCores.length = 192 ∧ State.reset.allDies.length = 16 ∧
  State.reset.window.level = 0 ∧ State.reset.supply.keep = 1 ∧ State.reset.work.queues = [] ∧ State.reset.mem.bytes = []

/-- The memory right after reset has the canonical form. -/
def Obligations.ResetKeepsTheForm : Prop := State.reset.mem.wf = true

/-- 09 R194, 13 R284, R285: a write puts each byte at its home where the granules are sound, leaves every other byte as it was,
and keeps the canonical form; bytes of a bad granule written in part are not merged, and the granule is poisoned. -/
def Obligations.WritesReachTheirHomes : Prop := ∀ (m : Memory) (homes : List Nat) (data : List Byte) (c : Cover) (tag : Nat),
  let r := m.write homes data c tag
  m.wf = true → data.length = homes.length → homes.Nodup →
  r.1.wf = true ∧ (∀ a, a ∉ homes → r.1.byte a = m.byte a) ∧
  (∀ (n : Nat) (a : Nat) (b : Byte), homes[n]? = some a → data[n]? = some b →
    r.1.byte a = if granOf a ∈ r.2 then m.byte a else b) ∧
  ((∀ a ∈ homes, m.eccOf a = .clean ∨ m.eccOf a = .correctable) → r.2 = []) ∧
  (wfTab Code.clean m.ecc = true → ∀ a ∈ homes, Memory.bad (m.eccOf a) = true →
    (∃ b, granOf a ≤ b ∧ b < granOf a + granBytes a ∧ b ∉ homes) → granOf a ∈ r.2 ∧ r.1.eccOf a = .poisoned)

/-- 03 R66 to R85: every well-formed instruction of a slot is read back from its own word, with every operand. -/
def Obligations.EncodingsRoundTrip : Prop := ∀ (i : Instr) (k : SlotKind),
  i.slotKind = some k → i.wellFormed = true → decode k (encode i) = .ok i

/-- Every step keeps the canonical form of memory: addresses strictly rising, none listed with the value that an unlisted one
reads as. -/
def Obligations.StepsKeepTheForm : Prop := ∀ s t : State, s.mem.wf = true → step s = .next t → t.mem.wf = true
end

