-- ==== Sys2Proof/Laws/State.lean ====
section
/-! SUPPORT. What each update of one part of the state leaves in every field: one lemma for each field and update. -/

namespace Sys2Proof.Machine

@[simp] theorem modU_u (s : State) (f : Strand → Strand) : (s.modU f).u = f s.u := rfl
@[simp] theorem modU_strands (s : State) (f : Strand → Strand) : (s.modU f).strands = s.strands := rfl
@[simp] theorem modU_core (s : State) (f : Strand → Strand) : (s.modU f).core = s.core := rfl
@[simp] theorem modU_cores (s : State) (f : Strand → Strand) : (s.modU f).cores = s.cores := rfl
@[simp] theorem modU_die (s : State) (f : Strand → Strand) : (s.modU f).die = s.die := rfl
@[simp] theorem modU_dies (s : State) (f : Strand → Strand) : (s.modU f).dies = s.dies := rfl
@[simp] theorem modU_mem (s : State) (f : Strand → Strand) : (s.modU f).mem = s.mem := rfl
@[simp] theorem modU_waiters (s : State) (f : Strand → Strand) : (s.modU f).waiters = s.waiters := rfl
@[simp] theorem modU_work (s : State) (f : Strand → Strand) : (s.modU f).work = s.work := rfl
@[simp] theorem modU_fabric (s : State) (f : Strand → Strand) : (s.modU f).fabric = s.fabric := rfl
@[simp] theorem modU_supply (s : State) (f : Strand → Strand) : (s.modU f).supply = s.supply := rfl
@[simp] theorem modU_secure (s : State) (f : Strand → Strand) : (s.modU f).secure = s.secure := rfl
@[simp] theorem modU_window (s : State) (f : Strand → Strand) : (s.modU f).window = s.window := rfl
@[simp] theorem modU_errs (s : State) (f : Strand → Strand) : (s.modU f).errs = s.errs := rfl
@[simp] theorem modU_agenda (s : State) (f : Strand → Strand) : (s.modU f).agenda = s.agenda := rfl
@[simp] theorem modU_clock (s : State) (f : Strand → Strand) : (s.modU f).clock = s.clock := rfl
@[simp] theorem modU_lull (s : State) (f : Strand → Strand) : (s.modU f).lull = s.lull := rfl
@[simp] theorem modU_freeCount (s : State) (f : Strand → Strand) : (s.modU f).freeCount = s.freeCount := rfl
@[simp] theorem modU_slot (s : State) (f : Strand → Strand) : (s.modU f).slot = s.slot := rfl
@[simp] theorem modU_checked (s : State) (f : Strand → Strand) : (s.modU f).checked = s.checked := rfl
@[simp] theorem modU_hdr (s : State) (f : Strand → Strand) : (s.modU f).hdr = s.hdr := rfl

@[simp] theorem modCore_u (s : State) (f : Core → Core) : (s.modCore f).u = s.u := rfl
@[simp] theorem modCore_strands (s : State) (f : Core → Core) : (s.modCore f).strands = s.strands := rfl
@[simp] theorem modCore_core (s : State) (f : Core → Core) : (s.modCore f).core = f s.core := rfl
@[simp] theorem modCore_cores (s : State) (f : Core → Core) : (s.modCore f).cores = s.cores := rfl
@[simp] theorem modCore_die (s : State) (f : Core → Core) : (s.modCore f).die = s.die := rfl
@[simp] theorem modCore_dies (s : State) (f : Core → Core) : (s.modCore f).dies = s.dies := rfl
@[simp] theorem modCore_mem (s : State) (f : Core → Core) : (s.modCore f).mem = s.mem := rfl
@[simp] theorem modCore_waiters (s : State) (f : Core → Core) : (s.modCore f).waiters = s.waiters := rfl
@[simp] theorem modCore_work (s : State) (f : Core → Core) : (s.modCore f).work = s.work := rfl
@[simp] theorem modCore_fabric (s : State) (f : Core → Core) : (s.modCore f).fabric = s.fabric := rfl
@[simp] theorem modCore_supply (s : State) (f : Core → Core) : (s.modCore f).supply = s.supply := rfl
@[simp] theorem modCore_secure (s : State) (f : Core → Core) : (s.modCore f).secure = s.secure := rfl
@[simp] theorem modCore_window (s : State) (f : Core → Core) : (s.modCore f).window = s.window := rfl
@[simp] theorem modCore_errs (s : State) (f : Core → Core) : (s.modCore f).errs = s.errs := rfl
@[simp] theorem modCore_agenda (s : State) (f : Core → Core) : (s.modCore f).agenda = s.agenda := rfl
@[simp] theorem modCore_clock (s : State) (f : Core → Core) : (s.modCore f).clock = s.clock := rfl
@[simp] theorem modCore_lull (s : State) (f : Core → Core) : (s.modCore f).lull = s.lull := rfl
@[simp] theorem modCore_freeCount (s : State) (f : Core → Core) : (s.modCore f).freeCount = s.freeCount := rfl
@[simp] theorem modCore_slot (s : State) (f : Core → Core) : (s.modCore f).slot = s.slot := rfl
@[simp] theorem modCore_checked (s : State) (f : Core → Core) : (s.modCore f).checked = s.checked := rfl
@[simp] theorem modCore_hdr (s : State) (f : Core → Core) : (s.modCore f).hdr = s.hdr := rfl

@[simp] theorem modDie_u (s : State) (f : Die → Die) : (s.modDie f).u = s.u := rfl
@[simp] theorem modDie_strands (s : State) (f : Die → Die) : (s.modDie f).strands = s.strands := rfl
@[simp] theorem modDie_core (s : State) (f : Die → Die) : (s.modDie f).core = s.core := rfl
@[simp] theorem modDie_cores (s : State) (f : Die → Die) : (s.modDie f).cores = s.cores := rfl
@[simp] theorem modDie_die (s : State) (f : Die → Die) : (s.modDie f).die = f s.die := rfl
@[simp] theorem modDie_dies (s : State) (f : Die → Die) : (s.modDie f).dies = s.dies := rfl
@[simp] theorem modDie_mem (s : State) (f : Die → Die) : (s.modDie f).mem = s.mem := rfl
@[simp] theorem modDie_waiters (s : State) (f : Die → Die) : (s.modDie f).waiters = s.waiters := rfl
@[simp] theorem modDie_work (s : State) (f : Die → Die) : (s.modDie f).work = s.work := rfl
@[simp] theorem modDie_fabric (s : State) (f : Die → Die) : (s.modDie f).fabric = s.fabric := rfl
@[simp] theorem modDie_supply (s : State) (f : Die → Die) : (s.modDie f).supply = s.supply := rfl
@[simp] theorem modDie_secure (s : State) (f : Die → Die) : (s.modDie f).secure = s.secure := rfl
@[simp] theorem modDie_window (s : State) (f : Die → Die) : (s.modDie f).window = s.window := rfl
@[simp] theorem modDie_errs (s : State) (f : Die → Die) : (s.modDie f).errs = s.errs := rfl
@[simp] theorem modDie_agenda (s : State) (f : Die → Die) : (s.modDie f).agenda = s.agenda := rfl
@[simp] theorem modDie_clock (s : State) (f : Die → Die) : (s.modDie f).clock = s.clock := rfl
@[simp] theorem modDie_lull (s : State) (f : Die → Die) : (s.modDie f).lull = s.lull := rfl
@[simp] theorem modDie_freeCount (s : State) (f : Die → Die) : (s.modDie f).freeCount = s.freeCount := rfl
@[simp] theorem modDie_slot (s : State) (f : Die → Die) : (s.modDie f).slot = s.slot := rfl
@[simp] theorem modDie_checked (s : State) (f : Die → Die) : (s.modDie f).checked = s.checked := rfl
@[simp] theorem modDie_hdr (s : State) (f : Die → Die) : (s.modDie f).hdr = s.hdr := rfl

@[simp] theorem modMem_u (s : State) (f : Memory → Memory) : (s.modMem f).u = s.u := rfl
@[simp] theorem modMem_strands (s : State) (f : Memory → Memory) : (s.modMem f).strands = s.strands := rfl
@[simp] theorem modMem_core (s : State) (f : Memory → Memory) : (s.modMem f).core = s.core := rfl
@[simp] theorem modMem_cores (s : State) (f : Memory → Memory) : (s.modMem f).cores = s.cores := rfl
@[simp] theorem modMem_die (s : State) (f : Memory → Memory) : (s.modMem f).die = s.die := rfl
@[simp] theorem modMem_dies (s : State) (f : Memory → Memory) : (s.modMem f).dies = s.dies := rfl
@[simp] theorem modMem_mem (s : State) (f : Memory → Memory) : (s.modMem f).mem = f s.mem := rfl
@[simp] theorem modMem_waiters (s : State) (f : Memory → Memory) : (s.modMem f).waiters = s.waiters := rfl
@[simp] theorem modMem_work (s : State) (f : Memory → Memory) : (s.modMem f).work = s.work := rfl
@[simp] theorem modMem_fabric (s : State) (f : Memory → Memory) : (s.modMem f).fabric = s.fabric := rfl
@[simp] theorem modMem_supply (s : State) (f : Memory → Memory) : (s.modMem f).supply = s.supply := rfl
@[simp] theorem modMem_secure (s : State) (f : Memory → Memory) : (s.modMem f).secure = s.secure := rfl
@[simp] theorem modMem_window (s : State) (f : Memory → Memory) : (s.modMem f).window = s.window := rfl
@[simp] theorem modMem_errs (s : State) (f : Memory → Memory) : (s.modMem f).errs = s.errs := rfl
@[simp] theorem modMem_agenda (s : State) (f : Memory → Memory) : (s.modMem f).agenda = s.agenda := rfl
@[simp] theorem modMem_clock (s : State) (f : Memory → Memory) : (s.modMem f).clock = s.clock := rfl
@[simp] theorem modMem_lull (s : State) (f : Memory → Memory) : (s.modMem f).lull = s.lull := rfl
@[simp] theorem modMem_freeCount (s : State) (f : Memory → Memory) : (s.modMem f).freeCount = s.freeCount := rfl
@[simp] theorem modMem_slot (s : State) (f : Memory → Memory) : (s.modMem f).slot = s.slot := rfl
@[simp] theorem modMem_checked (s : State) (f : Memory → Memory) : (s.modMem f).checked = s.checked := rfl
@[simp] theorem modMem_hdr (s : State) (f : Memory → Memory) : (s.modMem f).hdr = s.hdr := rfl

@[simp] theorem modWork_u (s : State) (f : Work → Work) : (s.modWork f).u = s.u := rfl
@[simp] theorem modWork_strands (s : State) (f : Work → Work) : (s.modWork f).strands = s.strands := rfl
@[simp] theorem modWork_core (s : State) (f : Work → Work) : (s.modWork f).core = s.core := rfl
@[simp] theorem modWork_cores (s : State) (f : Work → Work) : (s.modWork f).cores = s.cores := rfl
@[simp] theorem modWork_die (s : State) (f : Work → Work) : (s.modWork f).die = s.die := rfl
@[simp] theorem modWork_dies (s : State) (f : Work → Work) : (s.modWork f).dies = s.dies := rfl
@[simp] theorem modWork_mem (s : State) (f : Work → Work) : (s.modWork f).mem = s.mem := rfl
@[simp] theorem modWork_waiters (s : State) (f : Work → Work) : (s.modWork f).waiters = s.waiters := rfl
@[simp] theorem modWork_work (s : State) (f : Work → Work) : (s.modWork f).work = f s.work := rfl
@[simp] theorem modWork_fabric (s : State) (f : Work → Work) : (s.modWork f).fabric = s.fabric := rfl
@[simp] theorem modWork_supply (s : State) (f : Work → Work) : (s.modWork f).supply = s.supply := rfl
@[simp] theorem modWork_secure (s : State) (f : Work → Work) : (s.modWork f).secure = s.secure := rfl
@[simp] theorem modWork_window (s : State) (f : Work → Work) : (s.modWork f).window = s.window := rfl
@[simp] theorem modWork_errs (s : State) (f : Work → Work) : (s.modWork f).errs = s.errs := rfl
@[simp] theorem modWork_agenda (s : State) (f : Work → Work) : (s.modWork f).agenda = s.agenda := rfl
@[simp] theorem modWork_clock (s : State) (f : Work → Work) : (s.modWork f).clock = s.clock := rfl
@[simp] theorem modWork_lull (s : State) (f : Work → Work) : (s.modWork f).lull = s.lull := rfl
@[simp] theorem modWork_freeCount (s : State) (f : Work → Work) : (s.modWork f).freeCount = s.freeCount := rfl
@[simp] theorem modWork_slot (s : State) (f : Work → Work) : (s.modWork f).slot = s.slot := rfl
@[simp] theorem modWork_checked (s : State) (f : Work → Work) : (s.modWork f).checked = s.checked := rfl
@[simp] theorem modWork_hdr (s : State) (f : Work → Work) : (s.modWork f).hdr = s.hdr := rfl

@[simp] theorem modMatrix_u (s : State) (f : Matrix → Matrix) : (s.modMatrix f).u = s.u := rfl
@[simp] theorem modMatrix_strands (s : State) (f : Matrix → Matrix) : (s.modMatrix f).strands = s.strands := rfl
@[simp] theorem modMatrix_core (s : State) (f : Matrix → Matrix) : (s.modMatrix f).core = { s.core with matrix := f s.core.matrix } := rfl
@[simp] theorem modMatrix_cores (s : State) (f : Matrix → Matrix) : (s.modMatrix f).cores = s.cores := rfl
@[simp] theorem modMatrix_die (s : State) (f : Matrix → Matrix) : (s.modMatrix f).die = s.die := rfl
@[simp] theorem modMatrix_dies (s : State) (f : Matrix → Matrix) : (s.modMatrix f).dies = s.dies := rfl
@[simp] theorem modMatrix_mem (s : State) (f : Matrix → Matrix) : (s.modMatrix f).mem = s.mem := rfl
@[simp] theorem modMatrix_waiters (s : State) (f : Matrix → Matrix) : (s.modMatrix f).waiters = s.waiters := rfl
@[simp] theorem modMatrix_work (s : State) (f : Matrix → Matrix) : (s.modMatrix f).work = s.work := rfl
@[simp] theorem modMatrix_fabric (s : State) (f : Matrix → Matrix) : (s.modMatrix f).fabric = s.fabric := rfl
@[simp] theorem modMatrix_supply (s : State) (f : Matrix → Matrix) : (s.modMatrix f).supply = s.supply := rfl
@[simp] theorem modMatrix_secure (s : State) (f : Matrix → Matrix) : (s.modMatrix f).secure = s.secure := rfl
@[simp] theorem modMatrix_window (s : State) (f : Matrix → Matrix) : (s.modMatrix f).window = s.window := rfl
@[simp] theorem modMatrix_errs (s : State) (f : Matrix → Matrix) : (s.modMatrix f).errs = s.errs := rfl
@[simp] theorem modMatrix_agenda (s : State) (f : Matrix → Matrix) : (s.modMatrix f).agenda = s.agenda := rfl
@[simp] theorem modMatrix_clock (s : State) (f : Matrix → Matrix) : (s.modMatrix f).clock = s.clock := rfl
@[simp] theorem modMatrix_lull (s : State) (f : Matrix → Matrix) : (s.modMatrix f).lull = s.lull := rfl
@[simp] theorem modMatrix_freeCount (s : State) (f : Matrix → Matrix) : (s.modMatrix f).freeCount = s.freeCount := rfl
@[simp] theorem modMatrix_slot (s : State) (f : Matrix → Matrix) : (s.modMatrix f).slot = s.slot := rfl
@[simp] theorem modMatrix_checked (s : State) (f : Matrix → Matrix) : (s.modMatrix f).checked = s.checked := rfl
@[simp] theorem modMatrix_hdr (s : State) (f : Matrix → Matrix) : (s.modMatrix f).hdr = s.hdr := rfl

@[simp] theorem tickFree_u (s : State) (n : Nat) : (s.tickFree n).u = s.u := rfl
@[simp] theorem tickFree_strands (s : State) (n : Nat) : (s.tickFree n).strands = s.strands := rfl
@[simp] theorem tickFree_core (s : State) (n : Nat) : (s.tickFree n).core = s.core := rfl
@[simp] theorem tickFree_cores (s : State) (n : Nat) : (s.tickFree n).cores = s.cores := rfl
@[simp] theorem tickFree_die (s : State) (n : Nat) : (s.tickFree n).die = s.die := rfl
@[simp] theorem tickFree_dies (s : State) (n : Nat) : (s.tickFree n).dies = s.dies := rfl
@[simp] theorem tickFree_mem (s : State) (n : Nat) : (s.tickFree n).mem = s.mem := rfl
@[simp] theorem tickFree_waiters (s : State) (n : Nat) : (s.tickFree n).waiters = s.waiters := rfl
@[simp] theorem tickFree_work (s : State) (n : Nat) : (s.tickFree n).work = s.work := rfl
@[simp] theorem tickFree_fabric (s : State) (n : Nat) : (s.tickFree n).fabric = s.fabric := rfl
@[simp] theorem tickFree_supply (s : State) (n : Nat) : (s.tickFree n).supply = s.supply := rfl
@[simp] theorem tickFree_secure (s : State) (n : Nat) : (s.tickFree n).secure = s.secure := rfl
@[simp] theorem tickFree_window (s : State) (n : Nat) : (s.tickFree n).window = s.window := rfl
@[simp] theorem tickFree_errs (s : State) (n : Nat) : (s.tickFree n).errs = s.errs := rfl
@[simp] theorem tickFree_agenda (s : State) (n : Nat) : (s.tickFree n).agenda = s.agenda := rfl
@[simp] theorem tickFree_clock (s : State) (n : Nat) : (s.tickFree n).clock = s.clock := rfl
@[simp] theorem tickFree_lull (s : State) (n : Nat) : (s.tickFree n).lull = s.lull := rfl
@[simp] theorem tickFree_freeCount (s : State) (n : Nat) : (s.tickFree n).freeCount = s.freeCount + n := rfl
@[simp] theorem tickFree_slot (s : State) (n : Nat) : (s.tickFree n).slot = s.slot := rfl
@[simp] theorem tickFree_checked (s : State) (n : Nat) : (s.tickFree n).checked = s.checked := rfl
@[simp] theorem tickFree_hdr (s : State) (n : Nat) : (s.tickFree n).hdr = s.hdr := rfl

@[simp] theorem modRegs_place (u : Strand) (f : Regs → Regs) : (u.modRegs f).place = u.place := rfl
@[simp] theorem modRegs_who (u : Strand) (f : Regs → Regs) : (u.modRegs f).who = u.who := rfl
@[simp] theorem modRegs_st (u : Strand) (f : Regs → Regs) : (u.modRegs f).st = u.st := rfl
@[simp] theorem modRegs_privileged (u : Strand) (f : Regs → Regs) : (u.modRegs f).privileged = u.privileged := rfl
@[simp] theorem modRegs_pc (u : Strand) (f : Regs → Regs) : (u.modRegs f).pc = u.pc := rfl
@[simp] theorem modRegs_target (u : Strand) (f : Regs → Regs) : (u.modRegs f).target = u.target := rfl
@[simp] theorem modRegs_regs (u : Strand) (f : Regs → Regs) : (u.modRegs f).regs = f u.regs := rfl
@[simp] theorem modRegs_loops (u : Strand) (f : Regs → Regs) : (u.modRegs f).loops = u.loops := rfl
@[simp] theorem modRegs_flights (u : Strand) (f : Regs → Regs) : (u.modRegs f).flights = u.flights := rfl
@[simp] theorem modRegs_accs (u : Strand) (f : Regs → Regs) : (u.modRegs f).accs = u.accs := rfl
@[simp] theorem modRegs_trap (u : Strand) (f : Regs → Regs) : (u.modRegs f).trap = u.trap := rfl
@[simp] theorem modRegs_time (u : Strand) (f : Regs → Regs) : (u.modRegs f).time = u.time := rfl
@[simp] theorem modRegs_own (u : Strand) (f : Regs → Regs) : (u.modRegs f).own = u.own := rfl
@[simp] theorem modRegs_cfg (u : Strand) (f : Regs → Regs) : (u.modRegs f).cfg = u.cfg := rfl

@[simp] theorem modSr_place (u : Strand) (f : Specials → Specials) : (u.modSr f).place = u.place := rfl
@[simp] theorem modSr_who (u : Strand) (f : Specials → Specials) : (u.modSr f).who = u.who := rfl
@[simp] theorem modSr_st (u : Strand) (f : Specials → Specials) : (u.modSr f).st = u.st := rfl
@[simp] theorem modSr_privileged (u : Strand) (f : Specials → Specials) : (u.modSr f).privileged = u.privileged := rfl
@[simp] theorem modSr_pc (u : Strand) (f : Specials → Specials) : (u.modSr f).pc = u.pc := rfl
@[simp] theorem modSr_target (u : Strand) (f : Specials → Specials) : (u.modSr f).target = u.target := rfl
@[simp] theorem modSr_regs (u : Strand) (f : Specials → Specials) : (u.modSr f).regs = { u.regs with sr := f u.regs.sr } := rfl
@[simp] theorem modSr_loops (u : Strand) (f : Specials → Specials) : (u.modSr f).loops = u.loops := rfl
@[simp] theorem modSr_flights (u : Strand) (f : Specials → Specials) : (u.modSr f).flights = u.flights := rfl
@[simp] theorem modSr_accs (u : Strand) (f : Specials → Specials) : (u.modSr f).accs = u.accs := rfl
@[simp] theorem modSr_trap (u : Strand) (f : Specials → Specials) : (u.modSr f).trap = u.trap := rfl
@[simp] theorem modSr_time (u : Strand) (f : Specials → Specials) : (u.modSr f).time = u.time := rfl
@[simp] theorem modSr_own (u : Strand) (f : Specials → Specials) : (u.modSr f).own = u.own := rfl
@[simp] theorem modSr_cfg (u : Strand) (f : Specials → Specials) : (u.modSr f).cfg = u.cfg := rfl

@[simp] theorem modTrap_place (u : Strand) (f : Trapping → Trapping) : (u.modTrap f).place = u.place := rfl
@[simp] theorem modTrap_who (u : Strand) (f : Trapping → Trapping) : (u.modTrap f).who = u.who := rfl
@[simp] theorem modTrap_st (u : Strand) (f : Trapping → Trapping) : (u.modTrap f).st = u.st := rfl
@[simp] theorem modTrap_privileged (u : Strand) (f : Trapping → Trapping) : (u.modTrap f).privileged = u.privileged := rfl
@[simp] theorem modTrap_pc (u : Strand) (f : Trapping → Trapping) : (u.modTrap f).pc = u.pc := rfl
@[simp] theorem modTrap_target (u : Strand) (f : Trapping → Trapping) : (u.modTrap f).target = u.target := rfl
@[simp] theorem modTrap_regs (u : Strand) (f : Trapping → Trapping) : (u.modTrap f).regs = u.regs := rfl
@[simp] theorem modTrap_loops (u : Strand) (f : Trapping → Trapping) : (u.modTrap f).loops = u.loops := rfl
@[simp] theorem modTrap_flights (u : Strand) (f : Trapping → Trapping) : (u.modTrap f).flights = u.flights := rfl
@[simp] theorem modTrap_accs (u : Strand) (f : Trapping → Trapping) : (u.modTrap f).accs = u.accs := rfl
@[simp] theorem modTrap_trap (u : Strand) (f : Trapping → Trapping) : (u.modTrap f).trap = f u.trap := rfl
@[simp] theorem modTrap_time (u : Strand) (f : Trapping → Trapping) : (u.modTrap f).time = u.time := rfl
@[simp] theorem modTrap_own (u : Strand) (f : Trapping → Trapping) : (u.modTrap f).own = u.own := rfl
@[simp] theorem modTrap_cfg (u : Strand) (f : Trapping → Trapping) : (u.modTrap f).cfg = u.cfg := rfl

@[simp] theorem modTime_place (u : Strand) (f : Timing → Timing) : (u.modTime f).place = u.place := rfl
@[simp] theorem modTime_who (u : Strand) (f : Timing → Timing) : (u.modTime f).who = u.who := rfl
@[simp] theorem modTime_st (u : Strand) (f : Timing → Timing) : (u.modTime f).st = u.st := rfl
@[simp] theorem modTime_privileged (u : Strand) (f : Timing → Timing) : (u.modTime f).privileged = u.privileged := rfl
@[simp] theorem modTime_pc (u : Strand) (f : Timing → Timing) : (u.modTime f).pc = u.pc := rfl
@[simp] theorem modTime_target (u : Strand) (f : Timing → Timing) : (u.modTime f).target = u.target := rfl
@[simp] theorem modTime_regs (u : Strand) (f : Timing → Timing) : (u.modTime f).regs = u.regs := rfl
@[simp] theorem modTime_loops (u : Strand) (f : Timing → Timing) : (u.modTime f).loops = u.loops := rfl
@[simp] theorem modTime_flights (u : Strand) (f : Timing → Timing) : (u.modTime f).flights = u.flights := rfl
@[simp] theorem modTime_accs (u : Strand) (f : Timing → Timing) : (u.modTime f).accs = u.accs := rfl
@[simp] theorem modTime_trap (u : Strand) (f : Timing → Timing) : (u.modTime f).trap = u.trap := rfl
@[simp] theorem modTime_time (u : Strand) (f : Timing → Timing) : (u.modTime f).time = f u.time := rfl
@[simp] theorem modTime_own (u : Strand) (f : Timing → Timing) : (u.modTime f).own = u.own := rfl
@[simp] theorem modTime_cfg (u : Strand) (f : Timing → Timing) : (u.modTime f).cfg = u.cfg := rfl

@[simp] theorem setLatch_place (u : Strand) (q : Nat) (l : Latch) : (u.setLatch q l).place = u.place := rfl
@[simp] theorem setLatch_who (u : Strand) (q : Nat) (l : Latch) : (u.setLatch q l).who = u.who := rfl
@[simp] theorem setLatch_st (u : Strand) (q : Nat) (l : Latch) : (u.setLatch q l).st = u.st := rfl
@[simp] theorem setLatch_privileged (u : Strand) (q : Nat) (l : Latch) : (u.setLatch q l).privileged = u.privileged := rfl
@[simp] theorem setLatch_pc (u : Strand) (q : Nat) (l : Latch) : (u.setLatch q l).pc = u.pc := rfl
@[simp] theorem setLatch_target (u : Strand) (q : Nat) (l : Latch) : (u.setLatch q l).target = u.target := rfl
@[simp] theorem setLatch_regs (u : Strand) (q : Nat) (l : Latch) : (u.setLatch q l).regs = { u.regs with q := put Latch.none u.regs.q q l } := rfl
@[simp] theorem setLatch_loops (u : Strand) (q : Nat) (l : Latch) : (u.setLatch q l).loops = u.loops := rfl
@[simp] theorem setLatch_flights (u : Strand) (q : Nat) (l : Latch) : (u.setLatch q l).flights = u.flights := rfl
@[simp] theorem setLatch_accs (u : Strand) (q : Nat) (l : Latch) : (u.setLatch q l).accs = u.accs := rfl
@[simp] theorem setLatch_trap (u : Strand) (q : Nat) (l : Latch) : (u.setLatch q l).trap = u.trap := rfl
@[simp] theorem setLatch_time (u : Strand) (q : Nat) (l : Latch) : (u.setLatch q l).time = u.time := rfl
@[simp] theorem setLatch_own (u : Strand) (q : Nat) (l : Latch) : (u.setLatch q l).own = u.own := rfl
@[simp] theorem setLatch_cfg (u : Strand) (q : Nat) (l : Latch) : (u.setLatch q l).cfg = u.cfg := rfl

@[simp] theorem setGroup_place (u : Strand) (t : Nat) (g : TGroup) : (u.setGroup t g).place = u.place := rfl
@[simp] theorem setGroup_who (u : Strand) (t : Nat) (g : TGroup) : (u.setGroup t g).who = u.who := rfl
@[simp] theorem setGroup_st (u : Strand) (t : Nat) (g : TGroup) : (u.setGroup t g).st = u.st := rfl
@[simp] theorem setGroup_privileged (u : Strand) (t : Nat) (g : TGroup) : (u.setGroup t g).privileged = u.privileged := rfl
@[simp] theorem setGroup_pc (u : Strand) (t : Nat) (g : TGroup) : (u.setGroup t g).pc = u.pc := rfl
@[simp] theorem setGroup_target (u : Strand) (t : Nat) (g : TGroup) : (u.setGroup t g).target = u.target := rfl
@[simp] theorem setGroup_regs (u : Strand) (t : Nat) (g : TGroup) : (u.setGroup t g).regs = { u.regs with t := put TGroup.none u.regs.t t g } := rfl
@[simp] theorem setGroup_loops (u : Strand) (t : Nat) (g : TGroup) : (u.setGroup t g).loops = u.loops := rfl
@[simp] theorem setGroup_flights (u : Strand) (t : Nat) (g : TGroup) : (u.setGroup t g).flights = u.flights := rfl
@[simp] theorem setGroup_accs (u : Strand) (t : Nat) (g : TGroup) : (u.setGroup t g).accs = u.accs := rfl
@[simp] theorem setGroup_trap (u : Strand) (t : Nat) (g : TGroup) : (u.setGroup t g).trap = u.trap := rfl
@[simp] theorem setGroup_time (u : Strand) (t : Nat) (g : TGroup) : (u.setGroup t g).time = u.time := rfl
@[simp] theorem setGroup_own (u : Strand) (t : Nat) (g : TGroup) : (u.setGroup t g).own = u.own := rfl
@[simp] theorem setGroup_cfg (u : Strand) (t : Nat) (g : TGroup) : (u.setGroup t g).cfg = u.cfg := rfl

@[simp] theorem putVreg_place (u : Strand) (v : Nat) (r : VReg) : (u.putVreg v r).place = u.place := rfl
@[simp] theorem putVreg_who (u : Strand) (v : Nat) (r : VReg) : (u.putVreg v r).who = u.who := rfl
@[simp] theorem putVreg_st (u : Strand) (v : Nat) (r : VReg) : (u.putVreg v r).st = u.st := rfl
@[simp] theorem putVreg_privileged (u : Strand) (v : Nat) (r : VReg) : (u.putVreg v r).privileged = u.privileged := rfl
@[simp] theorem putVreg_pc (u : Strand) (v : Nat) (r : VReg) : (u.putVreg v r).pc = u.pc := rfl
@[simp] theorem putVreg_target (u : Strand) (v : Nat) (r : VReg) : (u.putVreg v r).target = u.target := rfl
@[simp] theorem putVreg_regs (u : Strand) (v : Nat) (r : VReg) : (u.putVreg v r).regs = { u.regs with v := put VReg.zero u.regs.v v r } := rfl
@[simp] theorem putVreg_loops (u : Strand) (v : Nat) (r : VReg) : (u.putVreg v r).loops = u.loops := rfl
@[simp] theorem putVreg_flights (u : Strand) (v : Nat) (r : VReg) : (u.putVreg v r).flights = u.flights := rfl
@[simp] theorem putVreg_accs (u : Strand) (v : Nat) (r : VReg) : (u.putVreg v r).accs = u.accs := rfl
@[simp] theorem putVreg_trap (u : Strand) (v : Nat) (r : VReg) : (u.putVreg v r).trap = u.trap := rfl
@[simp] theorem putVreg_time (u : Strand) (v : Nat) (r : VReg) : (u.putVreg v r).time = u.time := rfl
@[simp] theorem putVreg_own (u : Strand) (v : Nat) (r : VReg) : (u.putVreg v r).own = u.own := rfl
@[simp] theorem putVreg_cfg (u : Strand) (v : Nat) (r : VReg) : (u.putVreg v r).cfg = u.cfg := rfl

@[simp] theorem setHandle_place (u : Strand) (h : Nat) (v : BitVec 256) : (u.setHandle h v).place = u.place := rfl
@[simp] theorem setHandle_who (u : Strand) (h : Nat) (v : BitVec 256) : (u.setHandle h v).who = u.who := rfl
@[simp] theorem setHandle_st (u : Strand) (h : Nat) (v : BitVec 256) : (u.setHandle h v).st = u.st := rfl
@[simp] theorem setHandle_privileged (u : Strand) (h : Nat) (v : BitVec 256) : (u.setHandle h v).privileged = u.privileged := rfl
@[simp] theorem setHandle_pc (u : Strand) (h : Nat) (v : BitVec 256) : (u.setHandle h v).pc = u.pc := rfl
@[simp] theorem setHandle_target (u : Strand) (h : Nat) (v : BitVec 256) : (u.setHandle h v).target = u.target := rfl
@[simp] theorem setHandle_regs (u : Strand) (h : Nat) (v : BitVec 256) : (u.setHandle h v).regs = { u.regs with h := put 0 u.regs.h h v } := rfl
@[simp] theorem setHandle_loops (u : Strand) (h : Nat) (v : BitVec 256) : (u.setHandle h v).loops = u.loops := rfl
@[simp] theorem setHandle_flights (u : Strand) (h : Nat) (v : BitVec 256) : (u.setHandle h v).flights = u.flights := rfl
@[simp] theorem setHandle_accs (u : Strand) (h : Nat) (v : BitVec 256) : (u.setHandle h v).accs = u.accs := rfl
@[simp] theorem setHandle_trap (u : Strand) (h : Nat) (v : BitVec 256) : (u.setHandle h v).trap = u.trap := rfl
@[simp] theorem setHandle_time (u : Strand) (h : Nat) (v : BitVec 256) : (u.setHandle h v).time = u.time := rfl
@[simp] theorem setHandle_own (u : Strand) (h : Nat) (v : BitVec 256) : (u.setHandle h v).own = u.own := rfl
@[simp] theorem setHandle_cfg (u : Strand) (h : Nat) (v : BitVec 256) : (u.setHandle h v).cfg = u.cfg := rfl

@[simp] theorem setMask_place (u : Strand) (m : Nat) (v : Word) : (u.setMask m v).place = u.place := rfl
@[simp] theorem setMask_who (u : Strand) (m : Nat) (v : Word) : (u.setMask m v).who = u.who := rfl
@[simp] theorem setMask_st (u : Strand) (m : Nat) (v : Word) : (u.setMask m v).st = u.st := rfl
@[simp] theorem setMask_privileged (u : Strand) (m : Nat) (v : Word) : (u.setMask m v).privileged = u.privileged := rfl
@[simp] theorem setMask_pc (u : Strand) (m : Nat) (v : Word) : (u.setMask m v).pc = u.pc := rfl
@[simp] theorem setMask_target (u : Strand) (m : Nat) (v : Word) : (u.setMask m v).target = u.target := rfl
@[simp] theorem setMask_regs (u : Strand) (m : Nat) (v : Word) : (u.setMask m v).regs = { u.regs with m := put 0 u.regs.m m v } := rfl
@[simp] theorem setMask_loops (u : Strand) (m : Nat) (v : Word) : (u.setMask m v).loops = u.loops := rfl
@[simp] theorem setMask_flights (u : Strand) (m : Nat) (v : Word) : (u.setMask m v).flights = u.flights := rfl
@[simp] theorem setMask_accs (u : Strand) (m : Nat) (v : Word) : (u.setMask m v).accs = u.accs := rfl
@[simp] theorem setMask_trap (u : Strand) (m : Nat) (v : Word) : (u.setMask m v).trap = u.trap := rfl
@[simp] theorem setMask_time (u : Strand) (m : Nat) (v : Word) : (u.setMask m v).time = u.time := rfl
@[simp] theorem setMask_own (u : Strand) (m : Nat) (v : Word) : (u.setMask m v).own = u.own := rfl
@[simp] theorem setMask_cfg (u : Strand) (m : Nat) (v : Word) : (u.setMask m v).cfg = u.cfg := rfl

/-! A scalar write changes the scalars alone; s0 discards it (05 R106). -/

@[simp] theorem setScalar_place (u : Strand) (n : Nat) (v : Word) : (u.setScalar n v).place = u.place := by
  unfold Strand.setScalar; split <;> rfl
@[simp] theorem setScalar_who (u : Strand) (n : Nat) (v : Word) : (u.setScalar n v).who = u.who := by
  unfold Strand.setScalar; split <;> rfl
@[simp] theorem setScalar_st (u : Strand) (n : Nat) (v : Word) : (u.setScalar n v).st = u.st := by
  unfold Strand.setScalar; split <;> rfl
@[simp] theorem setScalar_privileged (u : Strand) (n : Nat) (v : Word) : (u.setScalar n v).privileged = u.privileged := by
  unfold Strand.setScalar; split <;> rfl
@[simp] theorem setScalar_pc (u : Strand) (n : Nat) (v : Word) : (u.setScalar n v).pc = u.pc := by
  unfold Strand.setScalar; split <;> rfl
@[simp] theorem setScalar_target (u : Strand) (n : Nat) (v : Word) : (u.setScalar n v).target = u.target := by
  unfold Strand.setScalar; split <;> rfl
@[simp] theorem setScalar_loops (u : Strand) (n : Nat) (v : Word) : (u.setScalar n v).loops = u.loops := by
  unfold Strand.setScalar; split <;> rfl
@[simp] theorem setScalar_flights (u : Strand) (n : Nat) (v : Word) : (u.setScalar n v).flights = u.flights := by
  unfold Strand.setScalar; split <;> rfl
@[simp] theorem setScalar_accs (u : Strand) (n : Nat) (v : Word) : (u.setScalar n v).accs = u.accs := by
  unfold Strand.setScalar; split <;> rfl
@[simp] theorem setScalar_trap (u : Strand) (n : Nat) (v : Word) : (u.setScalar n v).trap = u.trap := by
  unfold Strand.setScalar; split <;> rfl
@[simp] theorem setScalar_time (u : Strand) (n : Nat) (v : Word) : (u.setScalar n v).time = u.time := by
  unfold Strand.setScalar; split <;> rfl
@[simp] theorem setScalar_own (u : Strand) (n : Nat) (v : Word) : (u.setScalar n v).own = u.own := by
  unfold Strand.setScalar; split <;> rfl
@[simp] theorem setScalar_cfg (u : Strand) (n : Nat) (v : Word) : (u.setScalar n v).cfg = u.cfg := by
  unfold Strand.setScalar; split <;> rfl

/-! A scheduled write changes the strand in front alone, and there the writes still to land alone (02 R51). -/

@[simp] theorem sched_strands (s : State) (slot : Nat) (d : Dest) (lat : Nat) (rows : List VReg) (same : Bool) (fl reg : Nat) :
    (s.sched slot d lat rows same fl reg).strands = s.strands := rfl
@[simp] theorem sched_core (s : State) (slot : Nat) (d : Dest) (lat : Nat) (rows : List VReg) (same : Bool) (fl reg : Nat) :
    (s.sched slot d lat rows same fl reg).core = s.core := rfl
@[simp] theorem sched_cores (s : State) (slot : Nat) (d : Dest) (lat : Nat) (rows : List VReg) (same : Bool) (fl reg : Nat) :
    (s.sched slot d lat rows same fl reg).cores = s.cores := rfl
@[simp] theorem sched_die (s : State) (slot : Nat) (d : Dest) (lat : Nat) (rows : List VReg) (same : Bool) (fl reg : Nat) :
    (s.sched slot d lat rows same fl reg).die = s.die := rfl
@[simp] theorem sched_dies (s : State) (slot : Nat) (d : Dest) (lat : Nat) (rows : List VReg) (same : Bool) (fl reg : Nat) :
    (s.sched slot d lat rows same fl reg).dies = s.dies := rfl
@[simp] theorem sched_mem (s : State) (slot : Nat) (d : Dest) (lat : Nat) (rows : List VReg) (same : Bool) (fl reg : Nat) :
    (s.sched slot d lat rows same fl reg).mem = s.mem := rfl
@[simp] theorem sched_waiters (s : State) (slot : Nat) (d : Dest) (lat : Nat) (rows : List VReg) (same : Bool) (fl reg : Nat) :
    (s.sched slot d lat rows same fl reg).waiters = s.waiters := rfl
@[simp] theorem sched_work (s : State) (slot : Nat) (d : Dest) (lat : Nat) (rows : List VReg) (same : Bool) (fl reg : Nat) :
    (s.sched slot d lat rows same fl reg).work = s.work := rfl
@[simp] theorem sched_fabric (s : State) (slot : Nat) (d : Dest) (lat : Nat) (rows : List VReg) (same : Bool) (fl reg : Nat) :
    (s.sched slot d lat rows same fl reg).fabric = s.fabric := rfl
@[simp] theorem sched_supply (s : State) (slot : Nat) (d : Dest) (lat : Nat) (rows : List VReg) (same : Bool) (fl reg : Nat) :
    (s.sched slot d lat rows same fl reg).supply = s.supply := rfl
@[simp] theorem sched_secure (s : State) (slot : Nat) (d : Dest) (lat : Nat) (rows : List VReg) (same : Bool) (fl reg : Nat) :
    (s.sched slot d lat rows same fl reg).secure = s.secure := rfl
@[simp] theorem sched_window (s : State) (slot : Nat) (d : Dest) (lat : Nat) (rows : List VReg) (same : Bool) (fl reg : Nat) :
    (s.sched slot d lat rows same fl reg).window = s.window := rfl
@[simp] theorem sched_errs (s : State) (slot : Nat) (d : Dest) (lat : Nat) (rows : List VReg) (same : Bool) (fl reg : Nat) :
    (s.sched slot d lat rows same fl reg).errs = s.errs := rfl
@[simp] theorem sched_agenda (s : State) (slot : Nat) (d : Dest) (lat : Nat) (rows : List VReg) (same : Bool) (fl reg : Nat) :
    (s.sched slot d lat rows same fl reg).agenda = s.agenda := rfl
@[simp] theorem sched_clock (s : State) (slot : Nat) (d : Dest) (lat : Nat) (rows : List VReg) (same : Bool) (fl reg : Nat) :
    (s.sched slot d lat rows same fl reg).clock = s.clock := rfl
@[simp] theorem sched_lull (s : State) (slot : Nat) (d : Dest) (lat : Nat) (rows : List VReg) (same : Bool) (fl reg : Nat) :
    (s.sched slot d lat rows same fl reg).lull = s.lull := rfl
@[simp] theorem sched_freeCount (s : State) (slot : Nat) (d : Dest) (lat : Nat) (rows : List VReg) (same : Bool) (fl reg : Nat) :
    (s.sched slot d lat rows same fl reg).freeCount = s.freeCount := rfl
@[simp] theorem sched_slot (s : State) (slot : Nat) (d : Dest) (lat : Nat) (rows : List VReg) (same : Bool) (fl reg : Nat) :
    (s.sched slot d lat rows same fl reg).slot = s.slot := rfl
@[simp] theorem sched_checked (s : State) (slot : Nat) (d : Dest) (lat : Nat) (rows : List VReg) (same : Bool) (fl reg : Nat) :
    (s.sched slot d lat rows same fl reg).checked = s.checked := rfl
@[simp] theorem sched_hdr (s : State) (slot : Nat) (d : Dest) (lat : Nat) (rows : List VReg) (same : Bool) (fl reg : Nat) :
    (s.sched slot d lat rows same fl reg).hdr = s.hdr := rfl
@[simp] theorem sched_u_place (s : State) (slot : Nat) (d : Dest) (lat : Nat) (rows : List VReg) (same : Bool) (fl reg : Nat) :
    (s.sched slot d lat rows same fl reg).u.place = s.u.place := rfl
@[simp] theorem sched_u_who (s : State) (slot : Nat) (d : Dest) (lat : Nat) (rows : List VReg) (same : Bool) (fl reg : Nat) :
    (s.sched slot d lat rows same fl reg).u.who = s.u.who := rfl
@[simp] theorem sched_u_st (s : State) (slot : Nat) (d : Dest) (lat : Nat) (rows : List VReg) (same : Bool) (fl reg : Nat) :
    (s.sched slot d lat rows same fl reg).u.st = s.u.st := rfl
@[simp] theorem sched_u_privileged (s : State) (slot : Nat) (d : Dest) (lat : Nat) (rows : List VReg) (same : Bool) (fl reg : Nat) :
    (s.sched slot d lat rows same fl reg).u.privileged = s.u.privileged := rfl
@[simp] theorem sched_u_pc (s : State) (slot : Nat) (d : Dest) (lat : Nat) (rows : List VReg) (same : Bool) (fl reg : Nat) :
    (s.sched slot d lat rows same fl reg).u.pc = s.u.pc := rfl
@[simp] theorem sched_u_target (s : State) (slot : Nat) (d : Dest) (lat : Nat) (rows : List VReg) (same : Bool) (fl reg : Nat) :
    (s.sched slot d lat rows same fl reg).u.target = s.u.target := rfl
@[simp] theorem sched_u_regs (s : State) (slot : Nat) (d : Dest) (lat : Nat) (rows : List VReg) (same : Bool) (fl reg : Nat) :
    (s.sched slot d lat rows same fl reg).u.regs = s.u.regs := rfl
@[simp] theorem sched_u_loops (s : State) (slot : Nat) (d : Dest) (lat : Nat) (rows : List VReg) (same : Bool) (fl reg : Nat) :
    (s.sched slot d lat rows same fl reg).u.loops = s.u.loops := rfl
@[simp] theorem sched_u_accs (s : State) (slot : Nat) (d : Dest) (lat : Nat) (rows : List VReg) (same : Bool) (fl reg : Nat) :
    (s.sched slot d lat rows same fl reg).u.accs = s.u.accs := rfl
@[simp] theorem sched_u_trap (s : State) (slot : Nat) (d : Dest) (lat : Nat) (rows : List VReg) (same : Bool) (fl reg : Nat) :
    (s.sched slot d lat rows same fl reg).u.trap = s.u.trap := rfl
@[simp] theorem sched_u_time (s : State) (slot : Nat) (d : Dest) (lat : Nat) (rows : List VReg) (same : Bool) (fl reg : Nat) :
    (s.sched slot d lat rows same fl reg).u.time = s.u.time := rfl
@[simp] theorem sched_u_own (s : State) (slot : Nat) (d : Dest) (lat : Nat) (rows : List VReg) (same : Bool) (fl reg : Nat) :
    (s.sched slot d lat rows same fl reg).u.own = s.u.own := rfl
@[simp] theorem sched_u_cfg (s : State) (slot : Nat) (d : Dest) (lat : Nat) (rows : List VReg) (same : Bool) (fl reg : Nat) :
    (s.sched slot d lat rows same fl reg).u.cfg = s.u.cfg := rfl

end Sys2Proof.Machine
end

