-- ==== Sys2Proof/Laws/Issue.lean ====
section
/-! SUPPORT. What the shared operations of issue do: an instruction that passes its checks has its effect (03 R88), and
what scheduling a write, adding an access and transferring control change. -/

namespace Sys2Proof.Machine

/-- An instruction that passes its checks has its effect. -/
theorem issue_passes {s : State} {i : Instr} (h : s.Passes i) (eff : State → State) : s.issue i eff = .next (eff s) := by
  unfold State.issue
  rcases h with h | h
  · simp [h]
  · by_cases hc : s.checked = true <;> simp [hc, h]

/-- An instruction that fails a check takes that check's exception before it issues (11 R245). -/
theorem issue_traps {s : State} {i : Instr} {t : Trap} (hc : s.checked = false)
    (h : s.bundleTrap [(s.slotFor i, i)] = some t) (eff : State → State) : s.issue i eff = .next (s.trapBefore t) := by
  simp [State.issue, hc, h]

/-- Issue never faults and is never refused. -/
theorem issue_goesOn (s : State) (i : Instr) (eff : State → State) : GoesOn (s.issue i eff) := ⟨_, rfl⟩

/-- A scheduled scalar is the last of the writes to land (02 R51). -/
theorem landS_last (s : State) (slot : Nat) (d : BitVec 6) (v : Word) (lat : Nat) :
    ∃ f, (s.landS slot d v lat).u.flights.getLast? = some f ∧ f.dest = .scalar d.toNat ∧ f.land = s.now + lat ∧
      f.rows = [⟨v.setWidth 512, 0⟩] ∧ f.fault = none := by
  refine ⟨_, List.getLast?_append_of_ne_nil _ (by simp), rfl, rfl, rfl, rfl⟩

/-- Scheduling a scalar changes the writes to land of the strand in front, and nothing else. -/
theorem landS_frame (s : State) (slot : Nat) (d : BitVec 6) (v : Word) (lat : Nat) :
    s.landS slot d v lat = { s with u := { s.u with flights := (s.landS slot d v lat).u.flights } } := rfl

/-- So does scheduling the rows of a range. -/
theorem landRows_frame (s : State) (i : Instr) (d : BitVec 11) (cnt : BitVec 4) (lat : Nat) (row : Nat → RowOut) :
    s.landRows i d cnt lat row = { s with u := { s.u with flights := (s.landRows i d cnt lat row).u.flights } } := rfl

/-- Adding an access changes the writes to land and the outstanding accesses of the strand in front, and nothing else. -/
theorem addAcc_frame (s : State) (slot : Nat) (a : Act) (cls : Nat) (sps : List Span) (svc dl : Nat) :
    s.addAcc slot a cls sps svc dl = { s with u := { s.u with
      flights := (s.addAcc slot a cls sps svc dl).u.flights, accs := (s.addAcc slot a cls sps svc dl).u.accs } } := rfl

/-- The access added is the last in program order (09 R196). -/
theorem addAcc_last (s : State) (slot : Nat) (a : Act) (cls : Nat) (sps : List Span) (svc dl : Nat) :
    (s.addAcc slot a cls sps svc dl).u.accs = s.u.accs ++ [{
      act := a, cls := cls, spans := sps, slot := slot, epc := s.u.pc, svc := svc, issued := s.now, deadline := dl,
      aged := false, blks := s.blocksAt (sps.flatMap Span.homes), part := [] }] := rfl

/-- The levels that a transfer pops are the innermost ones that do not hold its target (15 R325). -/
theorem popLevels_eq (t : Nat) (l : List Loop) :
    popLevels t l = l.dropWhile (fun x => !(decide (x.start.toNat ≤ t) && decide (t ≤ x.start.toNat + x.len.toNat - 1))) := by
  induction l with
  | nil => rfl
  | cons a r ih =>
    simp only [popLevels, List.dropWhile_cons, ih]
    split <;> rename_i h <;> simp_all

end Sys2Proof.Machine
end

