-- ==== Sys2Proof/Laws/Table.lean ====
section
/-! SUPPORT. Sparse tables: the canonical form is kept by every write, and a read after a write gives what was written. -/

namespace Sys2Proof.Machine

variable {α : Type} [DecidableEq α]

theorem wfTab_cons {d : α} {j : Nat} {v : α} {r : Tab α} :
    wfTab d ((j, v) :: r) = true ↔ v ≠ d ∧ (∀ p ∈ r.head?, j < p.1) ∧ wfTab d r = true := by
  cases r with
  | nil => simp [wfTab]
  | cons p r => obtain ⟨k, w⟩ := p; simp [wfTab, and_assoc]

theorem wfTab_tail {d : α} {p : Nat × α} {r : Tab α} (h : wfTab d (p :: r) = true) : wfTab d r = true :=
  (wfTab_cons.mp h).2.2

omit [DecidableEq α] in
/-- A key below the first one is not listed. -/
theorem lookup_before {d : α} {t : Tab α} {k : Nat} (h : ∀ p ∈ t.head?, k < p.1) : lookup d t k = d := by
  cases t with
  | nil => rfl
  | cons p r =>
    obtain ⟨j, v⟩ := p
    have : k < j := h (j, v) (by simp)
    simp [lookup, this]

/-- The first key of a written table is the written key or the old first one. -/
theorem put_head {d : α} {k : Nat} {v : α} : ∀ {t : Tab α} {i : Nat}, wfTab d t = true → (∀ p ∈ t.head?, i < p.1) → i < k →
    ∀ p ∈ (put d t k v).head?, i < p.1
  | [], i, _, _, hk => by
    intro p hp
    simp only [put] at hp
    split at hp
    · simp at hp
    · simp at hp; subst hp; exact hk
  | (j, w) :: r, i, hw, hi, hk => by
    have hj : i < j := hi (j, w) (by simp)
    have ht := wfTab_cons.mp hw
    intro p hp
    simp only [put] at hp
    split at hp
    · split at hp
      · simp at hp; subst hp; exact hj
      · simp at hp; subst hp; exact hk
    · split at hp
      · rename_i h1 h2
        split at hp
        · exact lt_trans hj (ht.2.1 p hp)
        · simp at hp; subst hp; exact hk
      · simp at hp; subst hp; exact hj

/-- Every write keeps the canonical form. -/
theorem put_wf {d : α} {k : Nat} {v : α} : ∀ {t : Tab α}, wfTab d t = true → wfTab d (put d t k v) = true
  | [], _ => by by_cases h : v = d <;> simp [put, wfTab, h]
  | (j, w) :: r, h => by
    have ht := wfTab_cons.mp h
    simp only [put]
    split
    · split
      · exact h
      · exact wfTab_cons.mpr ⟨‹_›, by simpa using ‹k < j›, h⟩
    · split
      · rename_i h1 h2
        split
        · exact ht.2.2
        · exact wfTab_cons.mpr ⟨‹_›, h2 ▸ ht.2.1, ht.2.2⟩
      · rename_i h1 h2
        exact wfTab_cons.mpr ⟨ht.1, put_head ht.2.2 ht.2.1 (by omega), put_wf ht.2.2⟩

/-- A read of the key written gives the value written. -/
theorem lookup_put_self {d : α} {k : Nat} {v : α} : ∀ {t : Tab α}, wfTab d t = true → lookup d (put d t k v) k = v
  | [], _ => by by_cases h : v = d <;> simp [put, lookup, h]
  | (j, w) :: r, h => by
    have ht := wfTab_cons.mp h
    simp only [put]
    split
    · split
      · rename_i h1 h2; simp [lookup, h1, h2]
      · simp [lookup]
    · split
      · rename_i h1 h2
        split
        · rename_i h3; subst h2; rw [lookup_before ht.2.1, h3]
        · simp [lookup]
      · rename_i h1 h2
        simp [lookup, h1, h2, lookup_put_self ht.2.2]

/-- A read of another key is unchanged. -/
theorem lookup_put_ne {d : α} {k i : Nat} {v : α} (hi : i ≠ k) :
    ∀ {t : Tab α}, wfTab d t = true → lookup d (put d t k v) i = lookup d t i
  | [], _ => by by_cases h : v = d <;> simp [put, lookup, h, hi.symm]
  | (j, w) :: r, h => by
    have ht := wfTab_cons.mp h
    simp only [put]
    split
    · split
      · rfl
      · rename_i h1 h2
        simp only [lookup]
        by_cases h3 : i < k
        · simp [h3, lt_trans h3 h1]
        · simp [h3, hi.symm]
    · split
      · rename_i h1 h2
        subst h2
        split
        · rename_i h3
          simp only [lookup]
          by_cases h4 : i < j
          · simp only [h4, if_true]
            exact lookup_before (fun p hp => lt_trans h4 (ht.2.1 p hp))
          · simp [h4, hi.symm]
        · simp only [lookup]
          by_cases h4 : i < j <;> simp [h4, hi.symm]
      · simp only [lookup]
        split
        · rfl
        · split
          · rfl
          · exact lookup_put_ne hi ht.2.2

/-- A filtered table keeps the canonical form. -/
theorem filter_wf {d : α} (p : Nat × α → Bool) : ∀ {t : Tab α}, wfTab d t = true → wfTab d (t.filter p) = true := by
  have low : ∀ {t : Tab α} {i : Nat}, wfTab d t = true → (∀ q ∈ t.head?, i < q.1) → ∀ q ∈ (t.filter p).head?, i < q.1 := by
    intro t
    induction t with
    | nil => simp
    | cons a r ih =>
      intro i hw hi q hq
      have ha : i < a.1 := hi a (by simp)
      have ht := wfTab_cons.mp hw
      by_cases hp : p a = true
      · simp [hp] at hq; subst hq; exact ha
      · simp only [List.filter_cons, hp] at hq
        exact ih ht.2.2 (fun x hx => lt_trans ha (ht.2.1 x hx)) q (by simpa using hq)
  intro t
  induction t with
  | nil => simp [wfTab]
  | cons a r ih =>
    intro hw
    have ht := wfTab_cons.mp hw
    by_cases hp : p a = true
    · rw [List.filter_cons_of_pos hp]
      exact wfTab_cons.mpr ⟨ht.1, low ht.2.2 ht.2.1, ih ht.2.2⟩
    · rw [List.filter_cons_of_neg hp]
      exact ih ht.2.2

end Sys2Proof.Machine
end

