-- ==== Sys2Proof/Laws/Memory.lean ====
section
/-! SUPPORT. Every operation over memory keeps its canonical form, and what a byte reads as after a write. -/

namespace Sys2Proof.Machine

/-! The canonical form. -/

/-- A list of updates, each keeping the form, keeps it. -/
theorem foldl_wf {β : Type} {f : Memory → β → Memory} (h : ∀ m b, m.wf = true → (f m b).wf = true) :
    ∀ (l : List β) {m : Memory}, m.wf = true → (l.foldl f m).wf = true
  | [], _, hm => hm
  | b :: r, _, hm => foldl_wf h r (h _ b hm)

theorem reset_mem_wf : Memory.reset.wf = true := rfl

theorem setByte_wf {m : Memory} {a : Nat} {b : Byte} (h : m.wf = true) : (m.setByte a b).wf = true := put_wf h

@[simp] theorem setFull_wf (m : Memory) (a : Nat) (b : Bool) : (m.setFull a b).wf = m.wf := rfl
@[simp] theorem setEcc_wf (m : Memory) (a : Nat) (e : Code) : (m.setEcc a e).wf = m.wf := rfl
@[simp] theorem setMode_wf (m : Memory) (a : Nat) (c : Cover) : (m.setMode a c).wf = m.wf := rfl
@[simp] theorem renew_wf (m : Memory) (a n : Nat) : (m.renew a n).wf = m.wf := rfl
@[simp] theorem setTag_wf (m : Memory) (a t : Nat) : (m.setTag a t).wf = m.wf := rfl

theorem poke_wf : ∀ (bs : List Byte) {m : Memory} {a : Nat}, m.wf = true → (m.poke a bs).wf = true
  | [], _, _, h => h
  | _ :: r, _, _, h => poke_wf r (setByte_wf h)

theorem storeByte_wf {m : Memory} {a : Nat} {b : Byte} (h : m.wf = true) : (m.storeByte a b).wf = true := setByte_wf h

theorem lay_wf {m : Memory} {a : Nat} {bs : List Byte} (h : m.wf = true) : (m.lay a bs).wf = true := by
  simpa [Memory.lay] using poke_wf bs h

theorem clearArea_wf {m : Memory} {a g : Nat} (h : m.wf = true) : (m.clearArea a g).wf = true := filter_wf _ h

theorem writePart_wf {m : Memory} {whole rest homes : List Nat} {data : List Byte} {c : Cover} {tag : Nat}
    (h : m.wf = true) : (m.writePart whole rest homes data c tag).1.wf = true := by
  unfold Memory.writePart
  refine foldl_wf (fun m g hm => ?_) _ (foldl_wf (fun m p hm => ?_) _ h)
  · split
    · simpa using hm
    · split <;> simpa using hm
  · obtain ⟨a, b⟩ := p
    dsimp only
    split
    · exact hm
    · split <;> simpa using storeByte_wf hm

theorem write_wf {m : Memory} {homes : List Nat} {data : List Byte} {c : Cover} {tag : Nat}
    (h : m.wf = true) : (m.write homes data c tag).1.wf = true := writePart_wf h

theorem afterRead_wf {m : Memory} {homes : List Nat} (h : m.wf = true) : (m.afterRead homes).wf = true :=
  foldl_wf (fun m g hm => by split <;> simpa using hm) _ h

theorem clearRange_wf {m : Memory} {a n : Nat} (h : m.wf = true) : (m.clearRange a n).wf = true := filter_wf _ h

theorem copyRange_wf {m : Memory} {src dst n : Nat} (h : m.wf = true) : (m.copyRange src dst n).wf = true := by
  have puts : ∀ (l : List (Nat × Byte)) (t : Tab Byte), wfTab Memory.default t = true →
      wfTab Memory.default (l.foldl (fun t (a, b) => put Memory.default t (a - src + dst) b) t) = true := by
    intro l
    induction l with
    | nil => exact fun _ ht => ht
    | cons p r ih => exact fun t ht => ih _ (put_wf ht)
  exact puts _ _ (filter_wf _ h)

@[simp] theorem copyFull_wf (m : Memory) (src dst n : Nat) : (m.copyFull src dst n).wf = m.wf := rfl

theorem copyPage_wf {m : Memory} {src dst : Nat} (h : m.wf = true) : (m.copyPage src dst).wf = true :=
  foldl_wf (fun m i hm => foldl_wf (fun m k hm => by split <;> simpa using hm) _ (by simpa only [setMode_wf, setEcc_wf] using hm)) _
    (copyRange_wf h)

theorem zeroWindows_wf {m : Memory} {ds : BitVec 16} {base len : Nat} (h : m.wf = true) :
    (m.zeroWindows ds base len).wf = true := by
  unfold Memory.zeroWindows
  refine foldl_wf (fun m d hm => ?_) _ h
  exact clearRange_wf (a := dieSpadBase d + base) (n := len) hm

theorem pokeChunks_wf : ∀ (cs : List Nat) {m : Memory} {ci : Nat} {bs : List Byte}, m.wf = true → (pokeChunks m ci cs bs).wf = true
  | [], _, _, _, h => h
  | _ :: r, _, _, _, h => pokeChunks_wf r (lay_wf h)

theorem spillAlloc_wf {m : Memory} {area ci : Nat} {a : Alloc} (h : m.wf = true) : (spillAlloc m area ci a).wf = true :=
  lay_wf h

theorem strandBytes_wf {m : Memory} {area : Nat} {u : Strand} {q : List Flight} {cs : List MCmd} (h : m.wf = true) :
    (strandBytes m area u q cs).wf = true := by
  unfold strandBytes
  exact lay_wf (lay_wf (lay_wf (lay_wf (lay_wf (lay_wf (lay_wf (lay_wf (lay_wf h))))))))

theorem arrayBytes_wf {m : Memory} {area : Nat} {mx : Matrix} (h : m.wf = true) : (arrayBytes m area mx).wf = true := by
  have h1 := foldl_wf (f := fun m n => m.lay (area + offAcc + 65536 * n) (accBytes mx n)) (fun m n hm => lay_wf hm) mx.live h
  unfold arrayBytes
  dsimp only
  repeat' split
  all_goals first | exact lay_wf (lay_wf (lay_wf (lay_wf h1))) | exact lay_wf (lay_wf (lay_wf h1)) |
    exact lay_wf (lay_wf h1) | exact lay_wf h1 | exact h1

/-! Bytes. -/

theorem byte_setByte_self {m : Memory} {a : Nat} {b : Byte} (h : m.wf = true) : (m.setByte a b).byte a = b :=
  lookup_put_self h

theorem byte_setByte_ne {m : Memory} {a i : Nat} {b : Byte} (hi : i ≠ a) (h : m.wf = true) :
    (m.setByte a b).byte i = m.byte i := lookup_put_ne hi h

@[simp] theorem byte_setFull (m : Memory) (a i : Nat) (b : Bool) : (m.setFull a b).byte i = m.byte i := rfl
@[simp] theorem byte_setEcc (m : Memory) (a i : Nat) (e : Code) : (m.setEcc a e).byte i = m.byte i := rfl
@[simp] theorem byte_setMode (m : Memory) (a i : Nat) (c : Cover) : (m.setMode a c).byte i = m.byte i := rfl
@[simp] theorem byte_renew (m : Memory) (a n i : Nat) : (m.renew a n).byte i = m.byte i := rfl
@[simp] theorem byte_setTag (m : Memory) (a i t : Nat) : (m.setTag a t).byte i = m.byte i := rfl

/-- A list of updates that each leave a byte alone leaves it alone. -/
theorem foldl_byte {β : Type} {f : Memory → β → Memory} {i : Nat} (h : ∀ m b, (f m b).byte i = m.byte i) :
    ∀ (l : List β) (m : Memory), (l.foldl f m).byte i = m.byte i
  | [], _ => rfl
  | b :: r, m => by rw [List.foldl_cons, foldl_byte h r, h]

/-- What a list of bytes leaves at an address outside it. -/
theorem byte_poke_out {i : Nat} : ∀ (bs : List Byte) {m : Memory} {a : Nat}, m.wf = true → (i < a ∨ a + bs.length ≤ i) →
    (m.poke a bs).byte i = m.byte i
  | [], _, _, _, _ => rfl
  | b :: r, m, a, h, hi => by
    have hl : (b :: r).length = r.length + 1 := rfl
    rw [Memory.poke, byte_poke_out r (setByte_wf h) (by omega), byte_setByte_ne (by omega) h]

/-- What a list of bytes leaves inside it. -/
theorem byte_poke_in {i : Nat} : ∀ (bs : List Byte) {m : Memory} {a : Nat}, m.wf = true → ∀ hi : i < bs.length,
    (m.poke a bs).byte (a + i) = bs[i]
  | b :: r, m, a, h, hi => by
    rw [Memory.poke]
    cases i with
    | zero =>
      rw [byte_poke_out r (setByte_wf h) (by omega)]
      simpa using byte_setByte_self h
    | succ k =>
      have := byte_poke_in r (a := a + 1) (setByte_wf (b := b) (a := a) h) (i := k) (by simpa using hi)
      simpa [Nat.add_assoc, Nat.add_comm 1 k] using this

/-- A read marks granules and changes no byte (13 R283). -/
theorem byte_afterRead (m : Memory) (homes : List Nat) (i : Nat) : (m.afterRead homes).byte i = m.byte i :=
  foldl_byte (fun m g => by split <;> simp) _ m

/-- What bytes laid down leave outside them. -/
theorem byte_lay_out {m : Memory} {a i : Nat} {bs : List Byte} (h : m.wf = true) (hi : i < a ∨ a + bs.length ≤ i) :
    (m.lay a bs).byte i = m.byte i := by rw [Memory.lay, byte_renew, byte_poke_out bs h hi]

/-- Part of a write leaves every byte outside its homes alone. -/
theorem byte_writePart_out {m : Memory} {whole rest homes : List Nat} {data : List Byte} {c : Cover} {tag i : Nat}
    (h : m.wf = true) (hi : i ∉ homes) : (m.writePart whole rest homes data c tag).1.byte i = m.byte i := by
  unfold Memory.writePart
  dsimp only
  rw [foldl_byte (fun m g => by split <;> [skip; split] <;> simp)]
  have go : ∀ (l : List (Nat × Byte)) (m : Memory) (dropped : List Nat), m.wf = true → (∀ p ∈ l, p.1 ≠ i) →
      (l.foldl (fun m (a, b) => if dropped.contains (granOf a) then m else
        if isGlobal a then (m.storeByte a b).setTag a tag else m.storeByte a b) m).byte i = m.byte i := by
    intro l
    induction l with
    | nil => intros; rfl
    | cons p r ih =>
      intro m dr hm hp
      obtain ⟨a, b⟩ := p
      have hne : i ≠ a := (hp (a, b) (by simp)).symm
      have hrest : ∀ q ∈ r, q.1 ≠ i := fun q hq => hp q (by simp [hq])
      have put1 : (m.storeByte a b).byte i = m.byte i := byte_setByte_ne hne hm
      have step : ∀ x : Memory, x.wf = true → x.byte i = m.byte i →
          (r.foldl (fun m (a, b) => if dr.contains (granOf a) then m else
            if isGlobal a then (m.storeByte a b).setTag a tag else m.storeByte a b) x).byte i = m.byte i :=
        fun x hx hb => (ih x dr hx hrest).trans hb
      rw [List.foldl_cons]
      refine step _ ?_ ?_ <;> dsimp only
      · split
        · exact hm
        · split <;> simpa using storeByte_wf hm
      · split
        · rfl
        · split <;> simpa using put1
  exact go _ _ _ h (fun p hp he => hi (he ▸ (List.of_mem_zip hp).1))

/-- A write leaves every byte outside its homes alone. -/
theorem byte_write_out {m : Memory} {homes : List Nat} {data : List Byte} {c : Cover} {tag i : Nat}
    (h : m.wf = true) (hi : i ∉ homes) : (m.write homes data c tag).1.byte i = m.byte i := byte_writePart_out h hi

/-- A memory that lists no error reads clean everywhere. -/
theorem eccOf_clean {m : Memory} (h : m.ecc = []) (a : Nat) : m.eccOf a = .clean := by
  simp [Memory.eccOf, h, lookup, Code.read, Code.clean]

end Sys2Proof.Machine
end

