-- ==== Sys2Proof/Laws/Access.lean ====
section
/-! SUPPORT. What reading sound granules and writing them does (13 R283, R284), and scalars read back. -/

namespace Sys2Proof.Machine

theorem scalar_setScalar (u : Strand) (n : Nat) (v : Word) (h : wfTab 0 u.regs.s = true) :
    (u.setScalar n v).scalar n = if n = 0 then 0 else v := by
  unfold Strand.setScalar Strand.scalar
  by_cases hn : n = 0
  · simp [hn]
  · simpa [hn] using lookup_put_self h

@[simp] theorem scalar_zero (u : Strand) : u.scalar 0 = 0 := rfl
@[simp] theorem scalar_raiseFlags (u : Strand) (n k : Nat) : (u.raiseFlags n).scalar k = u.scalar k := rfl
@[simp] theorem scalar_addMiss (u : Strand) (n k : Nat) : (u.addMiss n).scalar k = u.scalar k := rfl
@[simp] theorem scalar_addErr (u : Strand) (n k : Nat) : (u.addErr n).scalar k = u.scalar k := rfl

/-- A granule is its own granule. -/
theorem granOf_granOf (a : Nat) : granOf (granOf a) = granOf a := by
  by_cases h : a < 2 ^ 64
  · have hg : granOf a = a - a % 32 := by simp only [granOf, granBytes, isGlobal, h, decide_true, if_true]
    have : a - a % 32 < 2 ^ 64 := by omega
    rw [hg]
    simp only [granOf, granBytes, isGlobal, this, decide_true, if_true]
    omega
  · have hg : granOf a = a - a % 8 := by
      simp only [granOf, granBytes, isGlobal, h, decide_false, Bool.false_eq_true, if_false]
    have : ¬ (a - a % 8 < 2 ^ 64) := by omega
    rw [hg]
    simp only [granOf, granBytes, isGlobal, this, decide_false, Bool.false_eq_true, if_false]
    omega

@[simp] theorem eccOf_granOf (m : Memory) (a : Nat) : m.eccOf (granOf a) = m.eccOf a := by
  have hg : isGlobal (granOf a) = isGlobal a := by
    unfold granOf granBytes isGlobal
    by_cases h : a < 2 ^ 64
    · simp only [h, decide_true, if_true, decide_eq_true_eq]; omega
    · simp only [h, decide_false, Bool.false_eq_true, if_false, decide_eq_false_iff_not]; omega
  unfold Memory.eccOf Memory.modeOf
  rw [granOf_granOf, hg]

theorem mem_granules {homes : List Nat} {g : Nat} (h : g ∈ Memory.granules homes) : ∃ a ∈ homes, granOf a = g := by
  simpa [Memory.granules] using h

/-- Granules that hold sound homes are sound. -/
theorem eccOf_granules {m : Memory} {homes : List Nat} (h : ∀ a ∈ homes, m.eccOf a = .clean) {g : Nat}
    (hg : g ∈ Memory.granules homes) : m.eccOf g = .clean := by
  obtain ⟨a, ha, rfl⟩ := mem_granules hg
  rw [eccOf_granOf, h a ha]

/-- A fold whose steps all leave the state alone leaves it alone. -/
theorem foldl_same {α β : Type} {f : α → β → α} {a : α} : ∀ (l : List β), (∀ b ∈ l, f a b = a) → l.foldl f a = a
  | [], _ => rfl
  | b :: r, h => by rw [List.foldl_cons, h b (by simp)]; exact foldl_same r (fun c hc => h c (by simp [hc]))

/-- Reading sound granules changes nothing (13 R283). -/
theorem noteRead_clean (s : State) (homes : List Nat) (h : ∀ a ∈ homes, s.mem.eccOf a = .clean) : s.noteRead homes = s := by
  unfold State.noteRead
  rw [foldl_same _ (fun g hg => by simp [eccOf_granules h hg])]
  unfold Memory.afterRead State.modMem
  dsimp only
  rw [foldl_same _ (fun g hg => by simp [eccOf_granules h hg])]

theorem badOf_clean (s : State) (bl homes : List Nat) (h : ∀ a ∈ homes, s.mem.eccOf a = .clean) : s.badOf bl homes = [] := by
  unfold State.badOf Memory.badGranules
  rw [List.filter_eq_nil_iff]
  intro g hg
  rw [eccOf_granules (fun a ha => h a (List.mem_of_mem_filter ha)) hg]
  decide

theorem readFault_clean (s : State) (bl : List Nat) (sp : Span) (homes : List Nat) (slot : Nat)
    (h : ∀ a ∈ homes, s.mem.eccOf a = .clean) : s.readFault bl sp homes slot = none := by
  unfold State.readFault
  have : homes.findIdx? (fun a => (s.blockOf bl a).isNone && Memory.bad (s.mem.eccOf a) && s.strictAt a) = none := by
    rw [List.findIdx?_eq_none_iff]
    intro a ha
    simp [h a ha, Memory.bad]
  rw [this]

/-- The bytes of sound granules are read as they are. -/
theorem zeroBad_clean (s : State) (bl homes : List Nat) (h : ∀ a ∈ homes, s.mem.eccOf a = .clean) :
    zeroBad (s.readMarked bl homes) = homes.map (s.loadByte bl) := by
  unfold zeroBad State.readMarked
  rw [List.map_map]
  apply List.map_congr_left
  intro a ha
  simp [h a ha, Memory.bad]

/-- No granule is left unmerged where all are sound. -/
theorem write_clean_dropped (m : Memory) (homes : List Nat) (data : List Byte) (c : Cover) (tag : Nat)
    (h : ∀ a ∈ homes, m.eccOf a = .clean) : (m.write homes data c tag).2 = [] := by
  unfold Memory.write Memory.writePart
  dsimp only
  rw [List.filter_eq_nil_iff]
  intro g hg
  rw [eccOf_granules h hg]
  simp [Memory.bad]

/-- A write at sound homes is the bytes stored one by one, with the marks of their granules. -/
theorem write_clean (m : Memory) (homes : List Nat) (data : List Byte) (c : Cover) (tag : Nat)
    (h : ∀ a ∈ homes, m.eccOf a = .clean) :
    (m.write homes data c tag).1 = (Memory.granules homes).foldl (fun m g => (m.setEcc g .clean).setMode g c)
      ((homes.zip data).foldl (fun m p =>
        if isGlobal p.1 then (m.storeByte p.1 p.2).setTag p.1 tag else m.storeByte p.1 p.2) m) := by
  have hd := write_clean_dropped m homes data c tag h
  unfold Memory.write Memory.writePart at hd ⊢
  dsimp only at hd ⊢
  rw [hd]
  simp

theorem foldl_inv {α β : Type} (P : α → Prop) {f : α → β → α} : ∀ (l : List β) (a : α), P a → (∀ a b, b ∈ l → P a → P (f a b)) →
    P (l.foldl f a)
  | [], _, h, _ => h
  | b :: r, a, h, hs => foldl_inv P r (f a b) (hs a b (by simp) h) (fun a c hc => hs a c (by simp [hc]))

/-- A write leaves its bytes at its homes. -/
theorem byte_write_in {m : Memory} {homes : List Nat} {data : List Byte} {c : Cover} {tag n a : Nat} {b : Byte}
    (hw : m.wf = true) (h : ∀ a ∈ homes, m.eccOf a = .clean) (hn : homes.Nodup) (ha : homes[n]? = some a)
    (hb : data[n]? = some b) : (m.write homes data c tag).1.byte a = b := by
  rw [write_clean m homes data c tag h, foldl_byte (fun m g => by simp)]
  clear h
  have out : ∀ (l : List (Nat × Byte)) (m : Memory), m.wf = true → (∀ p ∈ l, p.1 ≠ a) →
      (l.foldl (fun m p => if isGlobal p.1 then (m.storeByte p.1 p.2).setTag p.1 tag else m.storeByte p.1 p.2) m).byte a
        = m.byte a := by
    intro l
    induction l with
    | nil => intros; rfl
    | cons p r ih =>
      intro m hm hp
      have hne : a ≠ p.1 := (hp p (by simp)).symm
      rw [List.foldl_cons, ih _ _ (fun q hq => hp q (by simp [hq]))]
      · split <;> simpa [Memory.storeByte] using byte_setByte_ne hne hm
      · split <;> simpa using storeByte_wf hm
  induction homes generalizing m data n with
  | nil => simp at ha
  | cons x xs ih =>
    cases data with
    | nil => simp at hb
    | cons d ds =>
      rw [List.zip_cons_cons, List.foldl_cons]
      have hm : (if isGlobal x = true then (m.storeByte x d).setTag x tag else m.storeByte x d).wf = true := by
        split <;> simpa using storeByte_wf hw
      cases n with
      | zero =>
        simp only [List.getElem?_cons_zero, Option.some.injEq] at ha hb
        subst ha hb
        rw [out _ _ hm (fun p hp he => (List.nodup_cons.1 hn).1 (he ▸ (List.of_mem_zip hp).1))]
        split <;> simpa [Memory.storeByte] using byte_setByte_self hw
      | succ k =>
        simp only [List.getElem?_cons_succ] at ha hb
        exact ih hm (List.nodup_cons.1 hn).2 ha hb

/-- A write leaves the words it touches EMPTY (09 R207). -/
theorem isFull_write {m : Memory} {homes : List Nat} {data : List Byte} {c : Cover} {tag a : Nat}
    (h : ∀ a ∈ homes, m.eccOf a = .clean) (hl : data.length = homes.length) (ha : a ∈ homes) :
    (m.write homes data c tag).1.isFull a = false := by
  rw [write_clean m homes data c tag h]
  have step : ∀ (l : List (Nat × Byte)) (m : Memory), (∃ p ∈ l, p.1 = a) ∨ m.isFull a = false →
      (l.foldl (fun m p => if isGlobal p.1 then (m.storeByte p.1 p.2).setTag p.1 tag else m.storeByte p.1 p.2) m).isFull a
        = false := by
    intro l
    induction l with
    | nil => intro m h; simpa using h
    | cons p r ih =>
      intro m h
      rw [List.foldl_cons]
      apply ih
      by_cases hr : ∃ q ∈ r, q.1 = a
      · exact .inl hr
      · right
        have : p.1 = a ∨ m.isFull a = false := by
          rcases h with ⟨q, hq, he⟩ | h
          · rcases List.mem_cons.1 hq with rfl | hq
            · exact .inl he
            · exact absurd ⟨q, hq, he⟩ hr
          · exact .inr h
        have key : (m.storeByte p.1 p.2).isFull a = false := by
          simp only [Memory.isFull, Memory.storeByte, Memory.setFull, Memory.setByte, Bool.false_eq_true, if_false] at this ⊢
          rcases this with rfl | h
          · simp
          · simp only [List.contains_eq_mem, decide_eq_false_iff_not, List.mem_filter, not_and] at h ⊢
            exact fun hm => absurd hm h
        split <;> simpa [Memory.isFull, Memory.setTag] using key
  have hz : ∃ p ∈ homes.zip data, p.1 = a := by
    obtain ⟨n, hn⟩ := List.mem_iff_getElem?.1 ha
    obtain ⟨hlt, he⟩ := List.getElem?_eq_some_iff.1 hn
    refine ⟨(homes[n], data[n]'(by omega)), ?_, he⟩
    rw [List.mem_iff_getElem]
    exact ⟨n, by simp; omega, by simp⟩
  have hs := step _ m (.inl hz)
  refine foldl_inv (fun m : Memory => m.isFull a = false) _ _ hs (fun m g _ h => ?_)
  simpa [Memory.isFull, Memory.setEcc, Memory.setMode] using h

/-- The one span of an access that reaches no peer resolves to its own homes (13 R294). -/
theorem resolveAll_one (s : State) (a : Access) (sp : Span) (wr stale : Bool) (h : a.spans = [sp]) (hp : sp.peer = none) :
    s.resolveAll a wr stale = .ok [(sp, sp.homes)] := by
  simp [State.resolveAll, h, State.resolve, hp]

/-- Storing at sound homes outside the unit's blocks is a write of memory, and merges every granule (13 R284). -/
theorem storeBytes_clean (s : State) (bl homes : List Nat) (data : List Byte) (c : Cover)
    (hb : ∀ h ∈ homes, s.blockOf bl h = none ∧ s.mem.eccOf h = .clean) (hl : data.length = homes.length) :
    s.storeBytes bl homes data c = ({ s with mem := (s.mem.write homes data c s.writerTag).1 }, []) := by
  have e1 : (homes.zip data).filter (fun x : Nat × Byte => (s.blockOf bl x.1).isSome) = [] := by
    rw [List.filter_eq_nil_iff]
    rintro ⟨a, b⟩ h
    simp [(hb a (List.of_mem_zip h).1).1]
  have e2 : (homes.zip data).filter (fun x : Nat × Byte => (s.blockOf bl x.1).isNone) = homes.zip data := by
    rw [List.filter_eq_self]
    rintro ⟨a, b⟩ h
    simp [(hb a (List.of_mem_zip h).1).1]
  have e3 : homes.filter (fun a => (s.blockOf bl a).isNone) = homes := by
    rw [List.filter_eq_self]
    exact fun a h => by simp [(hb a h).1]
  have hw := write_clean_dropped s.mem homes data c s.writerTag (fun a ha => (hb a ha).2)
  unfold State.storeBytes State.storePart
  simp only [e1, e2, e3, List.foldl_nil, List.map_fst_zip (le_of_eq hl.symm), List.map_snd_zip (le_of_eq hl)]
  exact congrArg (fun d => (_, d)) hw

/-- An access that performs without a fault leaves what performing it gives. -/
theorem performOne_ok {s t : State} {k : Nat} (hf : (s.u.accs[k]?).bind s.fillNext = none) (hp : s.nextPart k = none)
    (h : s.performAt k = ok t) : s.performOne k = t := by
  unfold State.performOne
  rw [hf, hp, h]
  rfl

/-- Only an LDB performs line by line (07 R165). -/
theorem fillNext_none {s : State} {a : Access} (h : ∀ r n b i, a.act ≠ .ldb r n b i) : s.fillNext a = none := by
  unfold State.fillNext
  split
  · next e => exact absurd e (h _ _ _ _)
  · rfl

/-- Only rows, tiles and stores perform word by word (09 R197). -/
theorem nextPart_none {s : State} {k : Nat} {a : Access} (ha : s.u.accs[k]? = some a)
    (h : (match a.act with | .vload _ _ _ _ => false | .tld _ _ _ _ _ _ => false | .store _ => false | _ => true) = true) :
    s.nextPart k = none := by
  unfold State.nextPart
  rw [ha]
  dsimp only
  split <;> simp_all

/-- A word of bytes at most is no row: it performs whole. -/
theorem nextPart_store_word {s : State} {k : Nat} {a : Access} {data : List (List Byte)} {l : List (Span × List Nat)}
    (ha : s.u.accs[k]? = some a) (hd : a.act = .store data) (hr : s.resolveAll a true false = .ok l)
    (hn : (l.flatMap Prod.snd).length ≤ a.part.length + (firstWord ((l.flatMap Prod.snd).drop a.part.length)).length) :
    s.nextPart k = none := by
  unfold State.nextPart
  rw [ha]
  simp only [hd, hr, hn, if_true]

theorem exec_scoreboardLanding_ok {s t : State} {k : Nat} (he : s.eligible k = true) (hs : s.accIsStore k = false)
    (hf : (s.u.accs[k]?).bind s.fillNext = none) (hp : s.nextPart k = none) (h : s.performAt k = ok t) : execScoreboardLanding k s = .next t := by
  simp [execScoreboardLanding, he, hs, performOne_ok hf hp h]

theorem exec_writePerforms_ok {s t : State} {k : Nat} (he : s.eligible k = true) (hs : s.accIsStore k = true)
    (hf : (s.u.accs[k]?).bind s.fillNext = none) (hp : s.nextPart k = none) (h : s.performAt k = ok t) : execWritePerforms k s = .next t := by
  simp [execWritePerforms, he, hs, performOne_ok hf hp h]

/-- Storing through a word's eight homes. -/
theorem writeWord_mem (s : State) (a : Nat) (v : Word) (c : Cover) :
    (s.writeWord a v c).mem = (s.mem.write (List.range' a 8) (wordBytes v) c s.writerTag).1 := rfl

/-- The bytes of a word make the word again. -/
theorem bytesWord_wordBytes (v : Word) : bytesWord (wordBytes v) = v := by
  apply BitVec.eq_of_toNat_eq
  have := v.isLt
  simp [bytesWord, wordBytes, bytesNat, natBytes]
  omega

/-- A word written at a sound aligned home reads back. -/
theorem word_write {m : Memory} {a : Nat} {v : Word} {c : Cover} {tag : Nat} (hw : m.wf = true)
    (h : ∀ b ∈ List.range' a 8, m.eccOf b = .clean) : (m.write (List.range' a 8) (wordBytes v) c tag).1.word a = v := by
  have key : (m.write (List.range' a 8) (wordBytes v) c tag).1.range a 8 = wordBytes v := by
    apply List.ext_getElem (by simp [Memory.range, wordBytes, natBytes])
    intro n h1 h2
    simp only [Memory.range, List.getElem_map, List.getElem_range]
    have hn : n < 8 := by simpa [Memory.range] using h1
    exact byte_write_in (n := n) hw h List.nodup_range' (by simp [hn]) (by simp [List.getElem?_eq_getElem h2])
  rw [Memory.word, key, bytesWord_wordBytes]

/-- The eight homes of an aligned word stand in one granule. -/
theorem eccOf_word {m : Memory} {a b : Nat} (ha : a % 8 = 0) (hb : b ∈ List.range' a 8) : m.eccOf b = m.eccOf a := by
  have hb := List.mem_range'_1.1 hb
  have : granOf b = granOf a := by
    unfold granOf granBytes isGlobal
    by_cases h : a < 2 ^ 64
    · have : b < 2 ^ 64 := by omega
      simp only [h, this, decide_true, if_true]
      omega
    · have : ¬ b < 2 ^ 64 := by omega
      simp only [h, this, decide_false, Bool.false_eq_true, if_false]
      omega
  rw [← eccOf_granOf m b, this, eccOf_granOf]

/-! Records (14 R313). -/

theorem mem_insertBy {α : Type} {key : α → Nat} {a x : α} : ∀ {l : List α}, x ∈ insertBy key a l → x = a ∨ x ∈ l
  | [], h => .inl (by simpa [insertBy] using h)
  | b :: r, h => by
    rw [insertBy] at h
    split at h
    · simpa using h
    · rcases List.mem_cons.1 h with h | h
      · exact .inr (h ▸ List.mem_cons_self)
      · exact (mem_insertBy h).imp id (List.mem_cons_of_mem _)

theorem sortBy_concat {α : Type} (key : α → Nat) (l : List α) (a : α) : sortBy key (l ++ [a]) = insertBy key a (sortBy key l) := by
  simp [sortBy]

theorem mem_sortBy {α : Type} {key : α → Nat} {x : α} (l : List α) (h : x ∈ sortBy key l) : x ∈ l := by
  induction l using List.reverseRecOn with
  | nil => simp [sortBy] at h
  | append_singleton l a ih =>
    rw [sortBy_concat] at h
    rcases mem_insertBy h with h | h
    · simp [h]
    · exact List.mem_append_left _ (ih h)

theorem insertBy_last {α : Type} {key : α → Nat} {a : α} : ∀ {l : List α}, (∀ b ∈ l, key b ≤ key a) → insertBy key a l = l ++ [a]
  | [], _ => rfl
  | b :: r, h => by
    rw [insertBy, if_neg (Nat.not_lt.2 (h b List.mem_cons_self)), insertBy_last (fun c hc => h c (List.mem_cons_of_mem _ hc))]
    rfl

theorem le_foldl_max (l : List Nat) : ∀ {n : Nat}, n ≤ l.foldl max n ∧ ∀ x ∈ l, x ≤ l.foldl max n := by
  induction l with
  | nil => simp
  | cons a r ih =>
    intro n
    have h := ih (n := max n a)
    refine ⟨le_trans (le_max_left _ _) h.1, fun x hx => ?_⟩
    rcases List.mem_cons.1 hx with rfl | hx
    · exact le_trans (le_max_right _ _) h.1
    · exact h.2 x hx

/-- What a write of a record puts is what a read then finds. -/
theorem newest_store {α : Type} (l : List (RecordCopy α)) (x : α) : newest (store l x) = some x := by
  unfold newest store
  rw [List.filter_append]
  simp only [List.filter_cons_of_pos, List.filter_nil]
  rw [sortBy_concat, insertBy_last, List.getLast?_concat]
  · rfl
  · intro b hb
    have h1 := mem_sortBy _ (List.mem_of_mem_drop (List.mem_filter.1 (mem_sortBy _ hb)).1)
    exact Nat.le_succ_of_le ((le_foldl_max _).2 _ (List.mem_map_of_mem h1))

end Sys2Proof.Machine
end

