-- ==== Sys2Proof/Laws/Commands.lean ====
section
/-! SUPPORT. What entering a command into the M or the C buffer does (02 R61, 15 R331). -/

namespace Sys2Proof.Machine

/-- Marking writes as overtaken changes nothing else of the strand (02 R55). -/
theorem overtake_frame (u : Strand) (c : Nat) (rs : List Nat) :
    u.overtake c rs = { u with flights := (u.overtake c rs).flights } := rfl

/-- A matrix command enters behind the others, not yet running; besides the buffer, only MCFG's word (16 R351), the marks of
the writes that a read-out overtakes, and the access that its start is (09 R196) change. -/
theorem enterM_spec (s : State) (word sav snv : Word) (hnd : BitVec 256) (epc : Word) :
    ∃ c rows, (s.enterM word sav snv hnd epc).core =
        { s.core with matrix := { s.core.matrix with buf := s.core.matrix.buf ++ [c] } } ∧
      c.who = s.u.who ∧ c.word = word ∧ c.sav = sav ∧ c.snv = snv ∧ c.hnd = hnd ∧
      c.mask = s.u.regs.sr.ashape.toNat % 16 ∧ c.prom = s.u.regs.sr.prom.toNat % 8 ∧ c.epc = epc ∧ c.entered = s.now ∧
      c.running = false ∧ c.next = 0 ∧ (s.enterM word sav snv hnd epc).mem = s.mem ∧
      (s.enterM word sav snv hnd epc).u = { s.u.overtake 1 rows with
        cfg := if mOp word = 1 then snv &&& 1 else s.u.cfg,
        accs := s.u.accs ++ [{ startOf true (mOc word) 3 s.now with epc := epc }] } := by
  unfold State.enterM
  by_cases h : mOp word = 1 <;> simp only [h, if_true, if_false] <;>
    exact ⟨_, _, rfl, rfl, rfl, rfl, rfl, rfl, rfl, rfl, rfl, rfl, rfl, rfl, rfl, rfl⟩

/-- A copy command enters behind the others, not yet running; besides the buffer, only the mask of a CPYT that does not resume
(08 R187), the marks of the writes that its token overtakes, and the access that its start is (09 R196) change. -/
theorem issueC_spec (s : State) (op : Nat) (f : CC) :
    ∃ c rs, (s.issueC op f).core = { s.core with cbuf := s.core.cbuf ++ [c] } ∧
      c.who = s.u.who ∧ c.op = op ∧ c.tok = f.tok.toNat ∧ c.sa = s.S f.sa ∧ c.sd = s.S f.sd ∧ c.sl = s.S f.sl ∧
      c.oc = f.oc.toNat ∧ c.epc = s.u.pc ∧ c.entered = s.now ∧ c.running = false ∧ c.moved = 0 ∧
      (s.issueC op f).mem = s.mem ∧
      (s.issueC op f).u = { (if op = 3 ∧ (s.S f.sl).getLsbD 63 = false then s.u.setMask (f.md.toNat % 8) 0 else s.u).overtake 0 rs with
        accs := s.u.accs ++ [{ startOf false (if op = 0x10 || op = 0x11 then 16 else f.oc.toNat) 6 s.now with epc := s.u.pc }] } := by
  unfold State.issueC
  by_cases h : op = 3
  · by_cases hr : (s.S f.sl).getLsbD 63 = true
    · simp only [h, hr, decide_true, Bool.and_self, Bool.not_true, Bool.and_false, Bool.false_eq_true, if_false, reduceCtorEq,
        and_false, if_true]
      exact ⟨_, _, rfl, rfl, rfl, rfl, rfl, rfl, rfl, rfl, rfl, rfl, rfl, rfl, rfl, rfl⟩
    · simp only [Bool.not_eq_true] at hr
      simp only [h, hr, decide_true, Bool.and_false, Bool.not_false, Bool.and_self, if_true, and_self, Bool.false_eq_true, if_false]
      exact ⟨_, _, rfl, rfl, rfl, rfl, rfl, rfl, rfl, rfl, rfl, rfl, rfl, rfl, rfl, rfl⟩
  · simp only [h, decide_false, Bool.false_and, Bool.false_eq_true, if_false, false_and]
    exact ⟨_, _, rfl, rfl, rfl, rfl, rfl, rfl, rfl, rfl, rfl, rfl, rfl, rfl, rfl, rfl⟩

end Sys2Proof.Machine
end

