-- ==== Sys2Proof/Laws/Exec.lean ====
section
/-! SUPPORT. The arm of every constructor: exec at it is its meaning. -/

namespace Sys2Proof.Machine

theorem exec_add (d : BitVec 6) (a : BitVec 6) (b : BitVec 6) (s : State) : exec (.add d a b) s = execAdd d a b s := rfl
theorem exec_sub (d : BitVec 6) (a : BitVec 6) (b : BitVec 6) (s : State) : exec (.sub d a b) s = execSub d a b s := rfl
theorem exec_mul (d : BitVec 6) (a : BitVec 6) (b : BitVec 6) (s : State) : exec (.mul d a b) s = execMul d a b s := rfl
theorem exec_mulhiS (d : BitVec 6) (a : BitVec 6) (b : BitVec 6) (s : State) : exec (.mulhiS d a b) s = execMulhiS d a b s := rfl
theorem exec_mulhiU (d : BitVec 6) (a : BitVec 6) (b : BitVec 6) (s : State) : exec (.mulhiU d a b) s = execMulhiU d a b s := rfl
theorem exec_divS (d : BitVec 6) (a : BitVec 6) (b : BitVec 6) (s : State) : exec (.divS d a b) s = execDivS d a b s := rfl
theorem exec_divU (d : BitVec 6) (a : BitVec 6) (b : BitVec 6) (s : State) : exec (.divU d a b) s = execDivU d a b s := rfl
theorem exec_remS (d : BitVec 6) (a : BitVec 6) (b : BitVec 6) (s : State) : exec (.remS d a b) s = execRemS d a b s := rfl
theorem exec_remU (d : BitVec 6) (a : BitVec 6) (b : BitVec 6) (s : State) : exec (.remU d a b) s = execRemU d a b s := rfl
theorem exec_land (d : BitVec 6) (a : BitVec 6) (b : BitVec 6) (s : State) : exec (.land d a b) s = execLand d a b s := rfl
theorem exec_lor (d : BitVec 6) (a : BitVec 6) (b : BitVec 6) (s : State) : exec (.lor d a b) s = execLor d a b s := rfl
theorem exec_lxor (d : BitVec 6) (a : BitVec 6) (b : BitVec 6) (s : State) : exec (.lxor d a b) s = execLxor d a b s := rfl
theorem exec_andn (d : BitVec 6) (a : BitVec 6) (b : BitVec 6) (s : State) : exec (.andn d a b) s = execAndn d a b s := rfl
theorem exec_shl (d : BitVec 6) (a : BitVec 6) (b : BitVec 6) (s : State) : exec (.shl d a b) s = execShl d a b s := rfl
theorem exec_shr (d : BitVec 6) (a : BitVec 6) (b : BitVec 6) (s : State) : exec (.shr d a b) s = execShr d a b s := rfl
theorem exec_sar (d : BitVec 6) (a : BitVec 6) (b : BitVec 6) (s : State) : exec (.sar d a b) s = execSar d a b s := rfl
theorem exec_rotl (d : BitVec 6) (a : BitVec 6) (b : BitVec 6) (s : State) : exec (.rotl d a b) s = execRotl d a b s := rfl
theorem exec_minS (d : BitVec 6) (a : BitVec 6) (b : BitVec 6) (s : State) : exec (.minS d a b) s = execMinS d a b s := rfl
theorem exec_minU (d : BitVec 6) (a : BitVec 6) (b : BitVec 6) (s : State) : exec (.minU d a b) s = execMinU d a b s := rfl
theorem exec_maxS (d : BitVec 6) (a : BitVec 6) (b : BitVec 6) (s : State) : exec (.maxS d a b) s = execMaxS d a b s := rfl
theorem exec_maxU (d : BitVec 6) (a : BitVec 6) (b : BitVec 6) (s : State) : exec (.maxU d a b) s = execMaxU d a b s := rfl
theorem exec_cmpEq (d : BitVec 6) (a : BitVec 6) (b : BitVec 6) (s : State) : exec (.cmpEq d a b) s = execCmpEq d a b s := rfl
theorem exec_cmpNe (d : BitVec 6) (a : BitVec 6) (b : BitVec 6) (s : State) : exec (.cmpNe d a b) s = execCmpNe d a b s := rfl
theorem exec_cmpLt (d : BitVec 6) (a : BitVec 6) (b : BitVec 6) (s : State) : exec (.cmpLt d a b) s = execCmpLt d a b s := rfl
theorem exec_cmpLe (d : BitVec 6) (a : BitVec 6) (b : BitVec 6) (s : State) : exec (.cmpLe d a b) s = execCmpLe d a b s := rfl
theorem exec_cmpLtu (d : BitVec 6) (a : BitVec 6) (b : BitVec 6) (s : State) : exec (.cmpLtu d a b) s = execCmpLtu d a b s := rfl
theorem exec_cmpLeu (d : BitVec 6) (a : BitVec 6) (b : BitVec 6) (s : State) : exec (.cmpLeu d a b) s = execCmpLeu d a b s := rfl
theorem exec_cmpiEq (d : BitVec 6) (a : BitVec 6) (imm : BitVec 32) (s : State) : exec (.cmpiEq d a imm) s = execCmpiEq d a imm s := rfl
theorem exec_cmpiNe (d : BitVec 6) (a : BitVec 6) (imm : BitVec 32) (s : State) : exec (.cmpiNe d a imm) s = execCmpiNe d a imm s := rfl
theorem exec_cmpiLt (d : BitVec 6) (a : BitVec 6) (imm : BitVec 32) (s : State) : exec (.cmpiLt d a imm) s = execCmpiLt d a imm s := rfl
theorem exec_cmpiLe (d : BitVec 6) (a : BitVec 6) (imm : BitVec 32) (s : State) : exec (.cmpiLe d a imm) s = execCmpiLe d a imm s := rfl
theorem exec_cmpiLtu (d : BitVec 6) (a : BitVec 6) (imm : BitVec 32) (s : State) : exec (.cmpiLtu d a imm) s = execCmpiLtu d a imm s := rfl
theorem exec_cmpiLeu (d : BitVec 6) (a : BitVec 6) (imm : BitVec 32) (s : State) : exec (.cmpiLeu d a imm) s = execCmpiLeu d a imm s := rfl
theorem exec_sel (d : BitVec 6) (a : BitVec 6) (b : BitVec 6) (c : BitVec 6) (s : State) : exec (.sel d a b c) s = execSel d a b c s := rfl
theorem exec_addi (d : BitVec 6) (a : BitVec 6) (imm : BitVec 32) (s : State) : exec (.addi d a imm) s = execAddi d a imm s := rfl
theorem exec_li (d : BitVec 6) (imm : BitVec 32) (s : State) : exec (.li d imm) s = execLi d imm s := rfl
theorem exec_lih (d : BitVec 6) (imm : BitVec 32) (s : State) : exec (.lih d imm) s = execLih d imm s := rfl
theorem exec_clz (d : BitVec 6) (a : BitVec 6) (s : State) : exec (.clz d a) s = execClz d a s := rfl
theorem exec_popc (d : BitVec 6) (a : BitVec 6) (s : State) : exec (.popc d a) s = execPopc d a s := rfl
theorem exec_bitrev (d : BitVec 6) (a : BitVec 6) (s : State) : exec (.bitrev d a) s = execBitrev d a s := rfl
theorem exec_crc32 (d : BitVec 6) (a : BitVec 6) (b : BitVec 6) (s : State) : exec (.crc32 d a b) s = execCrc32 d a b s := rfl
theorem exec_extr (d : BitVec 6) (a : BitVec 6) (pos : BitVec 6) (len : BitVec 6) (s : State) : exec (.extr d a pos len) s = execExtr d a pos len s := rfl
theorem exec_ins (d : BitVec 6) (a : BitVec 6) (pos : BitVec 6) (len : BitVec 6) (s : State) : exec (.ins d a pos len) s = execIns d a pos len s := rfl
theorem exec_brZ (a : BitVec 6) (off : BitVec 26) (s : State) : exec (.brZ a off) s = execBrZ a off s := rfl
theorem exec_brNz (a : BitVec 6) (off : BitVec 26) (s : State) : exec (.brNz a off) s = execBrNz a off s := rfl
theorem exec_brLtz (a : BitVec 6) (off : BitVec 26) (s : State) : exec (.brLtz a off) s = execBrLtz a off s := rfl
theorem exec_brGez (a : BitVec 6) (off : BitVec 26) (s : State) : exec (.brGez a off) s = execBrGez a off s := rfl
theorem exec_jmp (off : BitVec 26) (s : State) : exec (.jmp off) s = execJmp off s := rfl
theorem exec_call (off : BitVec 26) (s : State) : exec (.call off) s = execCall off s := rfl
theorem exec_ret (s : State) : exec .ret s = execRet s := rfl
theorem exec_loop (a : BitVec 6) (len : BitVec 16) (s : State) : exec (.loop a len) s = execLoop a len s := rfl
theorem exec_loopi (imm : BitVec 20) (len : BitVec 16) (s : State) : exec (.loopi imm len) s = execLoopi imm len s := rfl
theorem exec_lbrk (s : State) : exec .lbrk s = execLbrk s := rfl
theorem exec_mfsr (d : BitVec 6) (sno : BitVec 12) (s : State) : exec (.mfsr d sno) s = execMfsr d sno s := rfl
theorem exec_mtsr (a : BitVec 6) (sno : BitVec 12) (s : State) : exec (.mtsr a sno) s = execMtsr a sno s := rfl
theorem exec_slack (imm : BitVec 32) (s : State) : exec (.slack imm) s = execSlack imm s := rfl
theorem exec_trap (imm : BitVec 32) (s : State) : exec (.trap imm) s = execTrap imm s := rfl
theorem exec_endUnit (s : State) : exec .endUnit s = execEndUnit s := rfl
theorem exec_rft (s : State) : exec .rft s = execRft s := rfl
theorem exec_setx (a : BitVec 6) (sno : BitVec 12) (s : State) : exec (.setx a sno) s = execSetx a sno s := rfl
theorem exec_getx (d : BitVec 6) (sno : BitVec 12) (s : State) : exec (.getx d sno) s = execGetx d sno s := rfl
theorem exec_vadd (f : VR) (s : State) : exec (.vadd f) s = execVadd f s := rfl
theorem exec_vsub (f : VR) (s : State) : exec (.vsub f) s = execVsub f s := rfl
theorem exec_vmul (f : VR) (s : State) : exec (.vmul f) s = execVmul f s := rfl
theorem exec_vfma (f : VR) (s : State) : exec (.vfma f) s = execVfma f s := rfl
theorem exec_vfms (f : VR) (s : State) : exec (.vfms f) s = execVfms f s := rfl
theorem exec_vdiv (f : VR) (s : State) : exec (.vdiv f) s = execVdiv f s := rfl
theorem exec_vmin (f : VR) (s : State) : exec (.vmin f) s = execVmin f s := rfl
theorem exec_vmax (f : VR) (s : State) : exec (.vmax f) s = execVmax f s := rfl
theorem exec_vabs (f : VR) (s : State) : exec (.vabs f) s = execVabs f s := rfl
theorem exec_vneg (f : VR) (s : State) : exec (.vneg f) s = execVneg f s := rfl
theorem exec_vcpsgn (f : VR) (s : State) : exec (.vcpsgn f) s = execVcpsgn f s := rfl
theorem exec_vscal (f : VS) (s : State) : exec (.vscal f) s = execVscal f s := rfl
theorem exec_vrnd (f : VR) (s : State) : exec (.vrnd f) s = execVrnd f s := rfl
theorem exec_vrcp (f : VR) (s : State) : exec (.vrcp f) s = execVrcp f s := rfl
theorem exec_vrsq (f : VR) (s : State) : exec (.vrsq f) s = execVrsq f s := rfl
theorem exec_vsqrt (f : VR) (s : State) : exec (.vsqrt f) s = execVsqrt f s := rfl
theorem exec_vexp2 (f : VR) (s : State) : exec (.vexp2 f) s = execVexp2 f s := rfl
theorem exec_vlog2 (f : VR) (s : State) : exec (.vlog2 f) s = execVlog2 f s := rfl
theorem exec_vtanh (f : VR) (s : State) : exec (.vtanh f) s = execVtanh f s := rfl
theorem exec_vcmpEq (f : VR) (s : State) : exec (.vcmpEq f) s = execVcmpEq f s := rfl
theorem exec_vcmpNe (f : VR) (s : State) : exec (.vcmpNe f) s = execVcmpNe f s := rfl
theorem exec_vcmpLt (f : VR) (s : State) : exec (.vcmpLt f) s = execVcmpLt f s := rfl
theorem exec_vcmpLe (f : VR) (s : State) : exec (.vcmpLe f) s = execVcmpLe f s := rfl
theorem exec_vcmpGt (f : VR) (s : State) : exec (.vcmpGt f) s = execVcmpGt f s := rfl
theorem exec_vcmpGe (f : VR) (s : State) : exec (.vcmpGe f) s = execVcmpGe f s := rfl
theorem exec_viadd (f : VR) (s : State) : exec (.viadd f) s = execViadd f s := rfl
theorem exec_visub (f : VR) (s : State) : exec (.visub f) s = execVisub f s := rfl
theorem exec_vimul (f : VR) (s : State) : exec (.vimul f) s = execVimul f s := rfl
theorem exec_vimad (f : VR) (s : State) : exec (.vimad f) s = execVimad f s := rfl
theorem exec_vimin (f : VR) (s : State) : exec (.vimin f) s = execVimin f s := rfl
theorem exec_vimax (f : VR) (s : State) : exec (.vimax f) s = execVimax f s := rfl
theorem exec_vavg (f : VR) (s : State) : exec (.vavg f) s = execVavg f s := rfl
theorem exec_vicmpEq (f : VR) (s : State) : exec (.vicmpEq f) s = execVicmpEq f s := rfl
theorem exec_vicmpNe (f : VR) (s : State) : exec (.vicmpNe f) s = execVicmpNe f s := rfl
theorem exec_vicmpLt (f : VR) (s : State) : exec (.vicmpLt f) s = execVicmpLt f s := rfl
theorem exec_vicmpLe (f : VR) (s : State) : exec (.vicmpLe f) s = execVicmpLe f s := rfl
theorem exec_vicmpLtu (f : VR) (s : State) : exec (.vicmpLtu f) s = execVicmpLtu f s := rfl
theorem exec_vicmpLeu (f : VR) (s : State) : exec (.vicmpLeu f) s = execVicmpLeu f s := rfl
theorem exec_vand (f : VR) (s : State) : exec (.vand f) s = execVand f s := rfl
theorem exec_vor (f : VR) (s : State) : exec (.vor f) s = execVor f s := rfl
theorem exec_vxor (f : VR) (s : State) : exec (.vxor f) s = execVxor f s := rfl
theorem exec_vshl (f : VR) (s : State) : exec (.vshl f) s = execVshl f s := rfl
theorem exec_vshr (f : VR) (s : State) : exec (.vshr f) s = execVshr f s := rfl
theorem exec_vsar (f : VR) (s : State) : exec (.vsar f) s = execVsar f s := rfl
theorem exec_vclz (f : VR) (s : State) : exec (.vclz f) s = execVclz f s := rfl
theorem exec_vpopc (f : VR) (s : State) : exec (.vpopc f) s = execVpopc f s := rfl
theorem exec_vsel (f : VR) (s : State) : exec (.vsel f) s = execVsel f s := rfl
theorem exec_vclamp (f : VR) (s : State) : exec (.vclamp f) s = execVclamp f s := rfl
theorem exec_vcvt (f : VR) (s : State) : exec (.vcvt f) s = execVcvt f s := rfl
theorem exec_vqnt (f : VR) (s : State) : exec (.vqnt f) s = execVqnt f s := rfl
theorem exec_vdqn (f : VR) (s : State) : exec (.vdqn f) s = execVdqn f s := rfl
theorem exec_vcmpr (f : VR) (s : State) : exec (.vcmpr f) s = execVcmpr f s := rfl
theorem exec_vmov (f : VR) (s : State) : exec (.vmov f) s = execVmov f s := rfl
theorem exec_vfill (f : VS) (s : State) : exec (.vfill f) s = execVfill f s := rfl
theorem exec_vbcs (f : VS) (s : State) : exec (.vbcs f) s = execVbcs f s := rfl
theorem exec_vperm (f : VR) (s : State) : exec (.vperm f) s = execVperm f s := rfl
theorem exec_vsld (f : VS) (s : State) : exec (.vsld f) s = execVsld f s := rfl
theorem exec_vzip (f : VR) (s : State) : exec (.vzip f) s = execVzip f s := rfl
theorem exec_vunz (f : VR) (s : State) : exec (.vunz f) s = execVunz f s := rfl
theorem exec_vrsum (f : VR) (s : State) : exec (.vrsum f) s = execVrsum f s := rfl
theorem exec_vrmax (f : VR) (s : State) : exec (.vrmax f) s = execVrmax f s := rfl
theorem exec_vrmin (f : VR) (s : State) : exec (.vrmin f) s = execVrmin f s := rfl
theorem exec_tcsum (f : VR) (s : State) : exec (.tcsum f) s = execTcsum f s := rfl
theorem exec_tcmax (f : VR) (s : State) : exec (.tcmax f) s = execTcmax f s := rfl
theorem exec_tcrd (t : BitVec 7) (v : BitVec 11) (idx : BitVec 4) (s : State) : exec (.tcrd t v idx) s = execTcrd t v idx s := rfl
theorem exec_tcwr (t : BitVec 7) (v : BitVec 11) (idx : BitVec 4) (s : State) : exec (.tcwr t v idx) s = execTcwr t v idx s := rfl
theorem exec_ttrn (t : BitVec 7) (ta : BitVec 7) (s : State) : exec (.ttrn t ta) s = execTtrn t ta s := rfl
theorem exec_tcfg (t : BitVec 7) (rows : BitVec 4) (rowb : BitVec 5) (fmt : BitVec 4) (s : State) : exec (.tcfg t rows rowb fmt) s = execTcfg t rows rowb fmt s := rfl
theorem exec_trel (t : BitVec 7) (s : State) : exec (.trel t) s = execTrel t s := rfl
theorem exec_vcrc (f : VR) (s : State) : exec (.vcrc f) s = execVcrc f s := rfl
theorem exec_mcfg (f : MA) (s : State) : exec (.mcfg f) s = execMcfg f s := rfl
theorem exec_mscl (f : MA) (s : State) : exec (.mscl f) s = execMscl f s := rfl
theorem exec_mlds (f : MA) (s : State) : exec (.mlds f) s = execMlds f s := rfl
theorem exec_mldsT (f : MA) (s : State) : exec (.mldsT f) s = execMldsT f s := rfl
theorem exec_mldsh (f : MA) (s : State) : exec (.mldsh f) s = execMldsh f s := rfl
theorem exec_mldsp (f : MA) (s : State) : exec (.mldsp f) s = execMldsp f s := rfl
theorem exec_mswp (f : MA) (s : State) : exec (.mswp f) s = execMswp f s := rfl
theorem exec_mstr (f : MA) (s : State) : exec (.mstr f) s = execMstr f s := rfl
theorem exec_mstrT (f : MA) (s : State) : exec (.mstrT f) s = execMstrT f s := rfl
theorem exec_mstrh (f : MA) (s : State) : exec (.mstrh f) s = execMstrh f s := rfl
theorem exec_mgrp (f : MA) (s : State) : exec (.mgrp f) s = execMgrp f s := rfl
theorem exec_msps (f : MA) (s : State) : exec (.msps f) s = execMsps f s := rfl
theorem exec_mza (f : MA) (s : State) : exec (.mza f) s = execMza f s := rfl
theorem exec_mwra (f : MA) (s : State) : exec (.mwra f) s = execMwra f s := rfl
theorem exec_mrda (f : MA) (s : State) : exec (.mrda f) s = execMrda f s := rfl
theorem exec_mrds (f : MA) (s : State) : exec (.mrds f) s = execMrds f s := rfl
theorem exec_mcan (f : MA) (s : State) : exec (.mcan f) s = execMcan f s := rfl
theorem exec_ldB (f : MemF) (s : State) : exec (.ldB f) s = execLdB f s := rfl
theorem exec_ldBu (f : MemF) (s : State) : exec (.ldBu f) s = execLdBu f s := rfl
theorem exec_ldH (f : MemF) (s : State) : exec (.ldH f) s = execLdH f s := rfl
theorem exec_ldHu (f : MemF) (s : State) : exec (.ldHu f) s = execLdHu f s := rfl
theorem exec_ldW (f : MemF) (s : State) : exec (.ldW f) s = execLdW f s := rfl
theorem exec_ldWu (f : MemF) (s : State) : exec (.ldWu f) s = execLdWu f s := rfl
theorem exec_ldD (f : MemF) (s : State) : exec (.ldD f) s = execLdD f s := rfl
theorem exec_vld (f : MemF) (s : State) : exec (.vld f) s = execVld f s := rfl
theorem exec_vlds (f : MemF) (s : State) : exec (.vlds f) s = execVlds f s := rfl
theorem exec_vldb (f : MemF) (s : State) : exec (.vldb f) s = execVldb f s := rfl
theorem exec_tld (f : MemT) (s : State) : exec (.tld f) s = execTld f s := rfl
theorem exec_thdl (f : MemF) (s : State) : exec (.thdl f) s = execThdl f s := rfl
theorem exec_ldb (f : MemF) (s : State) : exec (.ldb f) s = execLdb f s := rfl
theorem exec_pld (f : MemF) (s : State) : exec (.pld f) s = execPld f s := rfl
theorem exec_take (f : MemF) (s : State) : exec (.take f) s = execTake f s := rfl
theorem exec_peek (f : MemF) (s : State) : exec (.peek f) s = execPeek f s := rfl
theorem exec_stB (f : MemF) (s : State) : exec (.stB f) s = execStB f s := rfl
theorem exec_stH (f : MemF) (s : State) : exec (.stH f) s = execStH f s := rfl
theorem exec_stW (f : MemF) (s : State) : exec (.stW f) s = execStW f s := rfl
theorem exec_stD (f : MemF) (s : State) : exec (.stD f) s = execStD f s := rfl
theorem exec_vst (f : MemF) (s : State) : exec (.vst f) s = execVst f s := rfl
theorem exec_vsts (f : MemF) (s : State) : exec (.vsts f) s = execVsts f s := rfl
theorem exec_tst (f : MemT) (s : State) : exec (.tst f) s = execTst f s := rfl
theorem exec_lbf (f : MemF) (s : State) : exec (.lbf f) s = execLbf f s := rfl
theorem exec_putf (f : MemF) (s : State) : exec (.putf f) s = execPutf f s := rfl
theorem exec_aadd (f : MemF) (s : State) : exec (.aadd f) s = execAadd f s := rfl
theorem exec_aminS (f : MemF) (s : State) : exec (.aminS f) s = execAminS f s := rfl
theorem exec_aminU (f : MemF) (s : State) : exec (.aminU f) s = execAminU f s := rfl
theorem exec_amaxS (f : MemF) (s : State) : exec (.amaxS f) s = execAmaxS f s := rfl
theorem exec_amaxU (f : MemF) (s : State) : exec (.amaxU f) s = execAmaxU f s := rfl
theorem exec_aand (f : MemF) (s : State) : exec (.aand f) s = execAand f s := rfl
theorem exec_aor (f : MemF) (s : State) : exec (.aor f) s = execAor f s := rfl
theorem exec_axor (f : MemF) (s : State) : exec (.axor f) s = execAxor f s := rfl
theorem exec_aswp (f : MemF) (s : State) : exec (.aswp f) s = execAswp f s := rfl
theorem exec_acas (f : MemF) (s : State) : exec (.acas f) s = execAcas f s := rfl
theorem exec_afadd (f : MemF) (s : State) : exec (.afadd f) s = execAfadd f s := rfl
theorem exec_afmin (f : MemF) (s : State) : exec (.afmin f) s = execAfmin f s := rfl
theorem exec_afmax (f : MemF) (s : State) : exec (.afmax f) s = execAfmax f s := rfl
theorem exec_cpy (f : CC) (s : State) : exec (.cpy f) s = execCpy f s := rfl
theorem exec_cpy2 (f : CC) (s : State) : exec (.cpy2 f) s = execCpy2 f s := rfl
theorem exec_cpyt (f : CC) (s : State) : exec (.cpyt f) s = execCpyt f s := rfl
theorem exec_cpym (f : CC) (s : State) : exec (.cpym f) s = execCpym f s := rfl
theorem exec_cpyk (f : CC) (s : State) : exec (.cpyk f) s = execCpyk f s := rfl
theorem exec_cpyc (f : CC) (s : State) : exec (.cpyc f) s = execCpyc f s := rfl
theorem exec_cpya (f : CC) (s : State) : exec (.cpya f) s = execCpya f s := rfl
theorem exec_cpyg (f : CC) (s : State) : exec (.cpyg f) s = execCpyg f s := rfl
theorem exec_cpys (f : CC) (s : State) : exec (.cpys f) s = execCpys f s := rfl
theorem exec_cpyf (f : CC) (s : State) : exec (.cpyf f) s = execCpyf f s := rfl
theorem exec_pref (f : CC) (s : State) : exec (.pref f) s = execPref f s := rfl
theorem exec_collRs (f : CC) (s : State) : exec (.collRs f) s = execCollRs f s := rfl
theorem exec_collAg (f : CC) (s : State) : exec (.collAg f) s = execCollAg f s := rfl
theorem exec_collAr (f : CC) (s : State) : exec (.collAr f) s = execCollAr f s := rfl
theorem exec_collBc (f : CC) (s : State) : exec (.collBc f) s = execCollBc f s := rfl
theorem exec_spill (f : CC) (s : State) : exec (.spill f) s = execSpill f s := rfl
theorem exec_fill (f : CC) (s : State) : exec (.fill f) s = execFill f s := rfl
theorem exec_zfill (f : CC) (s : State) : exec (.zfill f) s = execZfill f s := rfl
theorem exec_ccan (f : CC) (s : State) : exec (.ccan f) s = execCcan f s := rfl
theorem exec_fence (cmask : BitVec 16) (scope : BitVec 3) (s : State) : exec (.fence cmask scope) s = execFence cmask scope s := rfl
theorem exec_ownE (sa : BitVec 6) (sl : BitVec 6) (s : State) : exec (.ownE sa sl) s = execOwnE sa sl s := rfl
theorem exec_ownP (sa : BitVec 6) (sl : BitVec 6) (s : State) : exec (.ownP sa sl) s = execOwnP sa sl s := rfl
theorem exec_wchk (m : BitVec 3) (sm : BitVec 6) (s : State) : exec (.wchk m sm) s = execWchk m sm s := rfl
theorem exec_weng (eng : BitVec 2) (s : State) : exec (.weng eng) s = execWeng eng s := rfl
theorem exec_bar (sa : BitVec 6) (sn : BitVec 6) (oc : BitVec 4) (s : State) : exec (.bar sa sn oc) s = execBar sa sn oc s := rfl
theorem exec_barc (sa : BitVec 6) (sn : BitVec 6) (oc : BitVec 4) (s : State) : exec (.barc sa sn oc) s = execBarc sa sn oc s := rfl
theorem exec_sig (sa : BitVec 6) (sv : BitVec 6) (oc : BitVec 4) (d : BitVec 6) (s : State) : exec (.sig sa sv oc d) s = execSig sa sv oc d s := rfl
theorem exec_wsig (sa : BitVec 6) (sv : BitVec 6) (oc : BitVec 4) (d : BitVec 6) (mode : BitVec 4) (s : State) : exec (.wsig sa sv oc d mode) s = execWsig sa sv oc d mode s := rfl
theorem exec_wsiga (sa : BitVec 6) (sv : BitVec 6) (oc : BitVec 4) (d : BitVec 6) (mode : BitVec 4) (s : State) : exec (.wsiga sa sv oc d mode) s = execWsiga sa sv oc d mode s := rfl
theorem exec_tickw (sv : BitVec 6) (s : State) : exec (.tickw sv) s = execTickw sv s := rfl
theorem exec_yield (s : State) : exec .yield s = execYield s := rfl
theorem exec_alloc (d : BitVec 6) (sz : BitVec 6) (lf : BitVec 6) (h : Bool) (st : Bool) (k : Bool) (s : State) : exec (.alloc d sz lf h st k) s = execAlloc d sz lf h st k s := rfl
theorem exec_free (sa : BitVec 6) (s : State) : exec (.free sa) s = execFree sa s := rfl
theorem exec_renew (sa : BitVec 6) (s : State) : exec (.renew sa) s = execRenew sa s := rfl
theorem exec_mark (sa : BitVec 6) (tag : BitVec 16) (s : State) : exec (.mark sa tag) s = execMark sa tag s := rfl
theorem exec_hint (sa : BitVec 6) (s : State) : exec (.hint sa) s = execHint sa s := rfl
theorem exec_hibq (d : BitVec 6) (which : BitVec 2) (s : State) : exec (.hibq d which) s = execHibq d which s := rfl
theorem exec_qbind (q : BitVec 3) (sc : BitVec 6) (fmt : BitVec 4) (s : State) : exec (.qbind q sc fmt) s = execQbind q sc fmt s := rfl
theorem exec_emptyBundle (p : Bool) (wait : BitVec 5) (pop : BitVec 8) (s : State) : exec (.emptyBundle p wait pop) s = execEmptyBundle p wait pop s := rfl
theorem exec_resultLanding (err : Option Mismatch) (s : State) : exec (.resultLanding err) s = execResultLanding err s := rfl
theorem exec_scoreboardLanding (k : Nat) (s : State) : exec (.scoreboardLanding k) s = execScoreboardLanding k s := rfl
theorem exec_quantumExpiry (s : State) : exec .quantumExpiry s = execQuantumExpiry s := rfl
theorem exec_slackExhausted (s : State) : exec .slackExhausted s = execSlackExhausted s := rfl
theorem exec_watchdogExpiry (s : State) : exec .watchdogExpiry s = execWatchdogExpiry s := rfl
theorem exec_softStop (s : State) : exec .softStop s = execSoftStop s := rfl
theorem exec_debugStop (launch : Nat) (rank : Nat) (s : State) : exec (.debugStop launch rank) s = execDebugStop launch rank s := rfl
theorem exec_resume (launch : Nat) (rank : Nat) (place : Place) (s : State) : exec (.resume launch rank place) s = execResume launch rank place s := rfl
theorem exec_unitEnded (s : State) : exec .unitEnded s = execUnitEnded s := rfl
theorem exec_allocExpiry (s : State) : exec .allocExpiry s = execAllocExpiry s := rfl
theorem exec_retnChange (die : Nat) (retn : Nat) (s : State) : exec (.retnChange die retn) s = execRetnChange die retn s := rfl
theorem exec_latchHeadFetch (q : BitVec 3) (s : State) : exec (.latchHeadFetch q) s = execLatchHeadFetch q s := rfl
theorem exec_matrixAccept (s : State) : exec .matrixAccept s = execMatrixAccept s := rfl
theorem exec_matrixStep (load : Bool) (err : Option Mismatch) (s : State) : exec (.matrixStep load err) s = execMatrixStep load err s := rfl
theorem exec_matrixComplete (load : Bool) (s : State) : exec (.matrixComplete load) s = execMatrixComplete load s := rfl
theorem exec_bandGate (band : Nat) (s : State) : exec (.bandGate band) s = execBandGate band s := rfl
theorem exec_bandWake (s : State) : exec .bandWake s = execBandWake s := rfl
theorem exec_copyAccept (s : State) : exec .copyAccept s = execCopyAccept s := rfl
theorem exec_copyChunk (k : Nat) (chunk : Nat) (err : Option Mismatch) (s : State) : exec (.copyChunk k chunk err) s = execCopyChunk k chunk err s := rfl
theorem exec_copyComplete (k : Nat) (s : State) : exec (.copyComplete k) s = execCopyComplete k s := rfl
theorem exec_engineStopTimeout (s : State) : exec .engineStopTimeout s = execEngineStopTimeout s := rfl
theorem exec_collSend (g : Nat) (s : State) : exec (.collSend g) s = execCollSend g s := rfl
theorem exec_collMessage (g : Nat) (step : Nat) (data : List (BitVec 8)) (s : State) : exec (.collMessage g step data) s = execCollMessage g step data s := rfl
theorem exec_collComplete (g : Nat) (err : Option Mismatch) (s : State) : exec (.collComplete g err) s = execCollComplete g err s := rfl
theorem exec_fabricRequest (port : Nat) (flit : Flit) (s : State) : exec (.fabricRequest port flit) s = execFabricRequest port flit s := rfl
theorem exec_fabricData (port : Nat) (flit : Flit) (s : State) : exec (.fabricData port flit) s = execFabricData port flit s := rfl
theorem exec_holdFlit (g : FlitTo) (step : Nat) (s : State) : exec (.holdFlit g step) s = execHoldFlit g step s := rfl
theorem exec_nackFlit (tag : FlitTo) (wait : Nat) (s : State) : exec (.nackFlit tag wait) s = execNackFlit tag wait s := rfl
theorem exec_hibnFlit (g : GroupPeer) (step : Nat) (s : State) : exec (.hibnFlit g step) s = execHibnFlit g step s := rfl
theorem exec_rejoinFlit (g : FlitTo) (step : Nat) (s : State) : exec (.rejoinFlit g step) s = execRejoinFlit g step s := rfl
theorem exec_retryResend (s : State) : exec .retryResend s = execRetryResend s := rfl
theorem exec_linkLost (port : Nat) (s : State) : exec (.linkLost port) s = execLinkLost port s := rfl
theorem exec_linkRetrainTimeout (port : Nat) (s : State) : exec (.linkRetrainTimeout port) s = execLinkRetrainTimeout port s := rfl
theorem exec_shootdownMulticast (port : Nat) (src : ShootFrom) (ctx : Nat) (base : Nat) (len : Nat) (s : State) : exec (.shootdownMulticast port src ctx base len) s = execShootdownMulticast port src ctx base len s := rfl
theorem exec_shootdownAck (ack : ShootAck) (s : State) : exec (.shootdownAck ack) s = execShootdownAck ack s := rfl
theorem exec_shootdownTimeout (modid : Nat) (s : State) : exec (.shootdownTimeout modid) s = execShootdownTimeout modid s := rfl
theorem exec_requestAging (s : State) : exec .requestAging s = execRequestAging s := rfl
theorem exec_scrubWriteback (addr : Nat) (s : State) : exec (.scrubWriteback addr) s = execScrubWriteback addr s := rfl
theorem exec_llcLineError (line : Nat) (slice : Nat) (way : Nat) (dirty : Bool) (s : State) : exec (.llcLineError line slice way dirty) s = execLlcLineError line slice way dirty s := rfl
theorem exec_dieFence (cause : FenceCause) (s : State) : exec (.dieFence cause) s = execDieFence cause s := rfl
theorem exec_dieLinkTimeout (link : LinkSilence) (s : State) : exec (.dieLinkTimeout link) s = execDieLinkTimeout link s := rfl
theorem exec_dieRejoin (die : Nat) (s : State) : exec (.dieRejoin die) s = execDieRejoin die s := rfl
theorem exec_thermalTrip (die : Nat) (s : State) : exec (.thermalTrip die) s = execThermalTrip die s := rfl
theorem exec_pageRetirement (page : Nat) (spare : Nat) (s : State) : exec (.pageRetirement page spare) s = execPageRetirement page spare s := rfl
theorem exec_clusterGate (die : Nat) (cluster : Nat) (s : State) : exec (.clusterGate die cluster) s = execClusterGate die cluster s := rfl
theorem exec_clusterPowerDown (die : Nat) (cluster : Nat) (s : State) : exec (.clusterPowerDown die cluster) s = execClusterPowerDown die cluster s := rfl
theorem exec_clusterUngate (die : Nat) (cluster : Nat) (s : State) : exec (.clusterUngate die cluster) s = execClusterUngate die cluster s := rfl
theorem exec_placement (die : Nat) (s : State) : exec (.placement die) s = execPlacement die s := rfl
theorem exec_drainTimeout (die : Nat) (s : State) : exec (.drainTimeout die) s = execDrainTimeout die s := rfl
theorem exec_tickBoundary (s : State) : exec .tickBoundary s = execTickBoundary s := rfl
theorem exec_predecessorRelease (launch : Nat) (s : State) : exec (.predecessorRelease launch) s = execPredecessorRelease launch s := rfl
theorem exec_nopPacket (q : Nat) (s : State) : exec (.nopPacket q) s = execNopPacket q s := rfl
theorem exec_slotLoad (q : Nat) (s : State) : exec (.slotLoad q) s = execSlotLoad q s := rfl
theorem exec_slotEvict (q : Nat) (s : State) : exec (.slotEvict q) s = execSlotEvict q s := rfl
theorem exec_invoke (q : Nat) (s : State) : exec (.invoke q) s = execInvoke q s := rfl
theorem exec_invokeTick (q : Nat) (s : State) : exec (.invokeTick q) s = execInvokeTick q s := rfl
theorem exec_mboxPut (q : Nat) (s : State) : exec (.mboxPut q) s = execMboxPut q s := rfl
theorem exec_mboxTake (q : Nat) (s : State) : exec (.mboxTake q) s = execMboxTake q s := rfl
theorem exec_signalPacket (q : Nat) (s : State) : exec (.signalPacket q) s = execSignalPacket q s := rfl
theorem exec_waitAll (q : Nat) (s : State) : exec (.waitAll q) s = execWaitAll q s := rfl
theorem exec_waitAny (q : Nat) (s : State) : exec (.waitAny q) s = execWaitAny q s := rfl
theorem exec_phaseOpen (q : Nat) (s : State) : exec (.phaseOpen q) s = execPhaseOpen q s := rfl
theorem exec_phaseClose (q : Nat) (s : State) : exec (.phaseClose q) s = execPhaseClose q s := rfl
theorem exec_cancelPacket (q : Nat) (s : State) : exec (.cancelPacket q) s = execCancelPacket q s := rfl
theorem exec_hibList (q : Nat) (s : State) : exec (.hibList q) s = execHibList q s := rfl
theorem exec_queueResume (q : Nat) (s : State) : exec (.queueResume q) s = execQueueResume q s := rfl
theorem exec_wridxWrite (q : Nat) (value : BitVec 32) (s : State) : exec (.wridxWrite q value) s = execWridxWrite q value s := rfl
theorem exec_statusWrite (q : Nat) (value : BitVec 64) (s : State) : exec (.statusWrite q value) s = execStatusWrite q value s := rfl
theorem exec_rdidxWrite (q : Nat) (value : BitVec 32) (s : State) : exec (.rdidxWrite q value) s = execRdidxWrite q value s := rfl
theorem exec_queueBind (q : Nat) (value : BitVec 64) (s : State) : exec (.queueBind q value) s = execQueueBind q value s := rfl
theorem exec_queueUnbind (q : Nat) (s : State) : exec (.queueUnbind q) s = execQueueUnbind q s := rfl
theorem exec_qprioWrite (q : Nat) (prio : BitVec 3) (s : State) : exec (.qprioWrite q prio) s = execQprioWrite q prio s := rfl
theorem exec_contextCreate (ctx : Nat) (entry : BitVec 512) (s : State) : exec (.contextCreate ctx entry) s = execContextCreate ctx entry s := rfl
theorem exec_contextRelease (ctx : Nat) (s : State) : exec (.contextRelease ctx) s = execContextRelease ctx s := rfl
theorem exec_shootdown (base : BitVec 64) (len : BitVec 64) (ctl : BitVec 64) (s : State) : exec (.shootdown base len ctl) s = execShootdown base len ctl s := rfl
theorem exec_tickperWrite (value : BitVec 64) (s : State) : exec (.tickperWrite value) s = execTickperWrite value s := rfl
theorem exec_hibreq (s : State) : exec .hibreq s = execHibreq s := rfl
theorem exec_flushWrite (s : State) : exec .flushWrite s = execFlushWrite s := rfl
theorem exec_attestation (nonce : BitVec 256) (buffer : BitVec 64) (s : State) : exec (.attestation nonce buffer) s = execAttestation nonce buffer s := rfl
theorem exec_bloomClear (channel : Nat) (s : State) : exec (.bloomClear channel) s = execBloomClear channel s := rfl
theorem exec_groupCreate (entry : GroupEntry) (s : State) : exec (.groupCreate entry) s = execGroupCreate entry s := rfl
theorem exec_groupDissolve (g : Nat) (s : State) : exec (.groupDissolve g) s = execGroupDissolve g s := rfl
theorem exec_registerWrite (access : BarAccess) (value : BitVec 64) (s : State) : exec (.registerWrite access value) s = execRegisterWrite access value s := rfl
theorem exec_warnEntry (s : State) : exec .warnEntry s = execWarnEntry s := rfl
theorem exec_warnExit (s : State) : exec .warnExit s = execWarnExit s := rfl
theorem exec_b1Entry (s : State) : exec .b1Entry s = execB1Entry s := rfl
theorem exec_b1Exit (s : State) : exec .b1Exit s = execB1Exit s := rfl
theorem exec_b2Entry (cause : BitVec 2) (s : State) : exec (.b2Entry cause) s = execB2Entry cause s := rfl
theorem exec_park (s : State) : exec .park s = execPark s := rfl
theorem exec_drain (s : State) : exec .drain s = execDrain s := rfl
theorem exec_seal (s : State) : exec .seal s = execSeal s := rfl
theorem exec_powerOff (s : State) : exec .powerOff s = execPowerOff s := rfl
theorem exec_warmResume (s : State) : exec .warmResume s = execWarmResume s := rfl
theorem exec_coldBoot (s : State) : exec .coldBoot s = execColdBoot s := rfl
theorem exec_budgetRecompute (budget : Nat) (s : State) : exec (.budgetRecompute budget) s = execBudgetRecompute budget s := rfl
theorem exec_heartbeat (s : State) : exec .heartbeat s = execHeartbeat s := rfl
theorem exec_heartbeatMiss (s : State) : exec .heartbeatMiss s = execHeartbeatMiss s := rfl
theorem exec_currentSample (die : Nat) (cluster : Nat) (value : Nat) (s : State) : exec (.currentSample die cluster value) s = execCurrentSample die cluster value s := rfl
theorem exec_wearUpdate (die : Nat) (cluster : Nat) (weight : Nat) (s : State) : exec (.wearUpdate die cluster weight) s = execWearUpdate die cluster weight s := rfl
theorem exec_clockChange (die : Nat) (mhz : Nat) (retn : Nat) (s : State) : exec (.clockChange die mhz retn) s = execClockChange die mhz retn s := rfl
theorem exec_bootLevelRise (dies : BitVec 16) (s : State) : exec (.bootLevelRise dies) s = execBootLevelRise dies s := rfl
theorem exec_firmwareUpdate (image : FwImage) (s : State) : exec (.firmwareUpdate image) s = execFirmwareUpdate image s := rfl
theorem exec_writePerforms (k : Nat) (s : State) : exec (.writePerforms k) s = execWritePerforms k s := rfl
theorem exec_portRetrained (port : Nat) (s : State) : exec (.portRetrained port) s = execPortRetrained port s := rfl
theorem exec_baseDieFault (die : Nat) (s : State) : exec (.baseDieFault die) s = execBaseDieFault die s := rfl
theorem exec_llcWayReenable (slice : Nat) (way : Nat) (s : State) : exec (.llcWayReenable slice way) s = execLlcWayReenable slice way s := rfl
theorem exec_termination (launch : Nat) (rank : Nat) (s : State) : exec (.termination launch rank) s = execTermination launch rank s := rfl

end Sys2Proof.Machine
end

