-- ==== Sys2Proof/Laws/Lanes.lean ====
section
/-! SUPPORT. What the row operations give lane by lane: elements read back from a row built of them, and the rows and flags that
landing a range of rows schedules. -/

namespace Sys2Proof.Machine

theorem tagBytes_cases (f : Nat) : tagBytes f = 1 ∨ tagBytes f = 2 ∨ tagBytes f = 4 := by
  unfold tagBytes; split <;> simp

/-- A row built from elements reads back each element, cut to its lane. -/
theorem elem_ofElems {e : Nat} (he : e = 1 ∨ e = 2 ∨ e = 4) (xs : List Nat) {k : Nat} (hk : k < 64 / e) :
    elem e (ofElems e xs) k = xs.getD k 0 % 2 ^ (8 * e) := by
  have key : ∀ (xs : List Nat) (k : Nat),
      (xs.foldr (fun x acc => x % 2 ^ (8 * e) + 2 ^ (8 * e) * acc) 0) / 2 ^ (8 * e * k) % 2 ^ (8 * e)
        = xs.getD k 0 % 2 ^ (8 * e) := by
    intro xs
    have hp : 0 < 2 ^ (8 * e) := by positivity
    induction xs with
    | nil => intro k; simp
    | cons x r ih =>
      intro k
      cases k with
      | zero => simp
      | succ k =>
        have h1 : 2 ^ (8 * e * (k + 1)) = 2 ^ (8 * e) * 2 ^ (8 * e * k) := by rw [← pow_add]; ring_nf
        rw [List.foldr_cons, h1, ← Nat.div_div_eq_div_mul, Nat.add_mul_div_left _ _ hp,
          Nat.div_eq_of_lt (Nat.mod_lt _ hp), Nat.zero_add, ih k, List.getD_cons_succ]
  have hb : 8 * e * k + 8 * e ≤ 512 := by
    rcases he with rfl | rfl | rfl <;> omega
  unfold elem ofElems bitsAt
  rw [BitVec.toNat_ofNat, Nat.shiftRight_eq_div_pow, ← key xs k]
  have hs : 2 ^ 512 = 2 ^ (8 * e * k) * 2 ^ (512 - 8 * e * k) := by rw [← pow_add]; congr 1; omega
  rw [hs, Nat.mod_mul_right_div_self, Nat.mod_mod_of_dvd]
  exact pow_dvd_pow 2 (by omega)

theorem length_elems (e : Nat) (r : Row) : (elems e r).length = 64 / e := by simp [elems]

theorem getElem?_elems (e : Nat) (r : Row) {k : Nat} (hk : k < 64 / e) : (elems e r)[k]? = some (elem e r k) := by
  simp [elems, hk]

/-- A bit is set in the union of flags exactly where some item sets it. -/
theorem testBit_foldl_or {α : Type} (g : α → Nat) (b : Nat) : ∀ (l : List α) (a : Nat),
    (l.foldl (fun a x => a ||| g x) a).testBit b = true ↔ a.testBit b = true ∨ ∃ x ∈ l, (g x).testBit b = true := by
  intro l
  induction l with
  | nil => simp
  | cons x r ih => intro a; simp [ih, Nat.testBit_or, or_assoc]

/-- A row of listed lanes, as many as the format has. -/
theorem laneRow_spec (f t : Nat) (xs : List Flagged) (lane : Nat → Flagged)
    (h : ∀ k, k < 64 / tagBytes f → xs[k]? = some (lane k)) (hn : xs.length ≤ 64 / tagBytes f) :
    (laneRow f t xs).row.tag = t ∧
    (∀ k, k < 64 / tagBytes f → elem (tagBytes f) (laneRow f t xs).row.data k = (lane k).val % 2 ^ (8 * tagBytes f)) ∧
    (∀ b, (laneRow f t xs).flags.testBit b = true ↔ ∃ k, k < 64 / tagBytes f ∧ (lane k).flags.testBit b = true) := by
  refine ⟨rfl, fun k hk => ?_, fun b => ?_⟩
  · simp only [laneRow]
    rw [elem_ofElems (tagBytes_cases f) _ hk]
    simp [List.getD_eq_getElem?_getD, h k hk]
  · simp only [laneRow, testBit_foldl_or, Nat.zero_testBit, Bool.false_eq_true, false_or]
    constructor
    · rintro ⟨x, hx, hb⟩
      obtain ⟨k, hk⟩ := List.mem_iff_getElem?.1 hx
      have hl : k < 64 / tagBytes f := by
        have := (List.getElem?_eq_some_iff.1 hk).1; omega
      exact ⟨k, hl, by rw [h k hl] at hk; cases hk; exact hb⟩
    · rintro ⟨k, hk, hb⟩
      exact ⟨_, List.mem_of_getElem? (h k hk), hb⟩

/-- Rows scheduled for a range are the rows that the function gives, with every flag of theirs. -/
theorem landRows_spec (s : State) (i : Instr) (d : BitVec 11) (cnt : BitVec 4) (lat tag e : Nat) (row : Nat → RowOut)
    (lane : Nat → Nat → Flagged)
    (h : ∀ j, j ≤ cnt.toNat → (row j).row.tag = tag ∧
      (∀ k, k < 64 / e → elem e (row j).row.data k = (lane j k).val % 2 ^ (8 * e)) ∧
      (∀ b, (row j).flags.testBit b = true ↔ ∃ k, k < 64 / e ∧ (lane j k).flags.testBit b = true)) :
    ∃ rows fl, s.landRows i d cnt lat row = s.landV (s.slotFor i) d.toNat lat rows fl ∧ RowsAre rows fl cnt.toNat tag e lane := by
  refine ⟨_, _, rfl, by simp, by simp, fun j r hj => ?_, fun j fl b hj => ?_⟩
  · simp only [List.map_map, List.getElem?_map, Option.map_eq_some_iff] at hj
    obtain ⟨j', hj', rfl⟩ := hj
    rw [List.getElem?_eq_some_iff] at hj'
    obtain ⟨hlt, he⟩ := hj'
    simp only [List.length_range] at hlt
    simp only [List.getElem_range] at he
    subst he
    have := h j (by omega)
    exact ⟨this.1, this.2.1⟩
  · simp only [List.map_map, List.getElem?_map, Option.map_eq_some_iff] at hj
    obtain ⟨j', hj', rfl⟩ := hj
    rw [List.getElem?_eq_some_iff] at hj'
    obtain ⟨hlt, he⟩ := hj'
    simp only [List.length_range] at hlt
    simp only [List.getElem_range] at he
    subst he
    exact (h j (by omega)).2.2 b

/-- A one-source instruction lane by lane. -/
theorem vec1_spec (s : State) (i : Instr) (f : VR) (lat t : Nat) (g : Nat → Flagged) :
    ∃ rows fl, s.vec1 i f lat t g = s.landV (s.slotFor i) f.d.toNat lat rows fl ∧
      RowsAre rows fl f.cnt.toNat t (tagBytes f.fmt.toNat) (fun j k =>
        g (elem (tagBytes f.fmt.toNat) (s.u.srcRow f.a j).data k)) :=
  landRows_spec s i f.d f.cnt lat t _ _ _ (fun j _ => laneRow_spec _ _ _ _
    (fun k hk => by simp [getElem?_elems _ _ hk]) (by simp [length_elems]))

/-- A two-source instruction lane by lane. -/
theorem vec2_spec (s : State) (i : Instr) (f : VR) (lat t : Nat) (g : Nat → Nat → Flagged) :
    ∃ rows fl, s.vec2 i f lat t g = s.landV (s.slotFor i) f.d.toNat lat rows fl ∧
      RowsAre rows fl f.cnt.toNat t (tagBytes f.fmt.toNat) (fun j k =>
        g (elem (tagBytes f.fmt.toNat) (s.u.srcRow f.a j).data k) (elem (tagBytes f.fmt.toNat) (s.u.srcRow f.b j).data k)) :=
  landRows_spec s i f.d f.cnt lat t _ _ _ (fun j _ => laneRow_spec _ _ _ _
    (fun k hk => by simp [List.getElem?_zipWith, getElem?_elems _ _ hk]) (by simp [length_elems]))

/-- A three-source instruction lane by lane. -/
theorem vec3_spec (s : State) (i : Instr) (f : VR) (lat t : Nat) (g : Nat → Nat → Nat → Flagged) :
    ∃ rows fl, s.vec3 i f lat t g = s.landV (s.slotFor i) f.d.toNat lat rows fl ∧
      RowsAre rows fl f.cnt.toNat t (tagBytes f.fmt.toNat) (fun j k =>
        g (elem (tagBytes f.fmt.toNat) (s.u.srcRow f.a j).data k) (elem (tagBytes f.fmt.toNat) (s.u.srcRow f.b j).data k)
          (elem (tagBytes f.fmt.toNat) (s.u.srcRow f.c j).data k)) :=
  landRows_spec s i f.d f.cnt lat t _ _ _ (fun j _ => laneRow_spec _ _ _ _
    (fun k hk => by simp [List.getElem?_zipWith, getElem?_elems _ _ hk]) (by simp [length_elems]))

end Sys2Proof.Machine
end

