-- ==== Sys2Proof/Laws/PerInstr.lean ====
section
/-! SUPPORT. The families of statements about an instruction as syntax, one lemma per constructor. -/

namespace Sys2Proof

theorem lR_op (op : BitVec 8) (d a b c : BitVec 6) : fld (lR op d a b c) 56 8 = op := by
  show (op ++ d ++ a ++ b ++ c ++ 0#32).extractLsb' 56 8 = op
  repeat rw [BitVec.extractLsb'_append_eq_of_le (by omega)]
  simp
theorem lI_op (op : BitVec 8) (d a : BitVec 6) (imm : BitVec 32) : fld (lI op d a imm) 56 8 = op := by
  show (op ++ d ++ a ++ imm ++ 0#12).extractLsb' 56 8 = op
  repeat rw [BitVec.extractLsb'_append_eq_of_le (by omega)]
  simp
theorem lB_op (op : BitVec 8) (a : BitVec 6) (off : BitVec 26) : fld (lB op a off) 56 8 = op := by
  show (op ++ a ++ off ++ 0#24).extractLsb' 56 8 = op
  repeat rw [BitVec.extractLsb'_append_eq_of_le (by omega)]
  simp
theorem lS_op (op : BitVec 8) (a : BitVec 6) (imm : BitVec 20) (len : BitVec 16) : fld (lS op a imm len) 56 8 = op := by
  show (op ++ a ++ imm ++ len ++ 0#14).extractLsb' 56 8 = op
  repeat rw [BitVec.extractLsb'_append_eq_of_le (by omega)]
  simp
theorem lX_op (op : BitVec 8) (d a : BitVec 6) (sno : BitVec 12) : fld (lX op d a sno) 56 8 = op := by
  show (op ++ d ++ a ++ sno ++ 0#32).extractLsb' 56 8 = op
  repeat rw [BitVec.extractLsb'_append_eq_of_le (by omega)]
  simp
theorem lVR_op (op : BitVec 8) (f : VR) : fld (lVR op f) 56 8 = op := by
  show (op ++ f.d ++ f.a ++ f.b ++ f.c ++ f.rnd ++ f.cnt ++ f.sat ++ f.fmt).extractLsb' 56 8 = op
  repeat rw [BitVec.extractLsb'_append_eq_of_le (by omega)]
  simp
theorem lVS_op (op : BitVec 8) (f : VS) : fld (lVS op f) 56 8 = op := by
  show (op ++ f.d ++ f.a ++ f.s ++ f.imm ++ f.rnd ++ f.cnt ++ 0#6).extractLsb' 56 8 = op
  repeat rw [BitVec.extractLsb'_append_eq_of_le (by omega)]
  simp
theorem lVT_op (op : BitVec 8) (t ta : BitVec 7) (v : BitVec 11) (idx : BitVec 4) (rest : BitVec 27) : fld (lVT op t ta v idx rest) 56 8 = op := by
  show (op ++ t ++ ta ++ v ++ idx ++ rest).extractLsb' 56 8 = op
  repeat rw [BitVec.extractLsb'_append_eq_of_le (by omega)]
  simp
theorem lMA_op (op : BitVec 8) (f : MA) : fld (lMA op f) 56 8 = op := by
  show (op ++ f.acc ++ f.h ++ f.sa ++ f.sn ++ f.oc ++ 0#1 ++ f.z ++ f.fmt ++ 0#24).extractLsb' 56 8 = op
  repeat rw [BitVec.extractLsb'_append_eq_of_le (by omega)]
  simp
theorem lMem_op (op : BitVec 8) (f : MemF) : fld (lMem op f) 56 8 = op := by
  show (op ++ f.r ++ f.sp ++ f.xi ++ f.b ++ f.off ++ f.oc ++ f.svc ++ f.o ++ 0#1).extractLsb' 56 8 = op
  repeat rw [BitVec.extractLsb'_append_eq_of_le (by omega)]
  simp
theorem lMemT_op (op : BitVec 8) (f : MemT) : fld (lMemT op f) 56 8 = op := by
  show (op ++ 0#4 ++ f.t ++ f.h ++ 0#27 ++ f.oc ++ f.svc ++ 0#7).extractLsb' 56 8 = op
  repeat rw [BitVec.extractLsb'_append_eq_of_le (by omega)]
  simp
theorem lCC_op (op : BitVec 8) (f : CC) : fld (lCC op f) 56 8 = op := by
  show (op ++ f.tok ++ f.sa ++ f.sd ++ f.sl ++ f.oc ++ f.svc ++ f.dl ++ f.md).extractLsb' 56 8 = op
  repeat rw [BitVec.extractLsb'_append_eq_of_le (by omega)]
  simp
theorem lY_op (op : BitVec 6) (rest : BitVec 26) : fld (lY op rest) 26 6 = op := by
  show (0#32 ++ op ++ rest).extractLsb' 26 6 = op
  rw [BitVec.extractLsb'_append_eq_of_le (by omega), BitVec.extractLsb'_append_eq_of_add_le (by omega)]
  simp

/-- The opcode field of the word that encodes an instruction of a slot holds the instruction's opcode (03 R66 to R69). -/
def Laws.OpcodeField.Statement (i : Instr) : Prop := ∀ k, i.slotKind = some k → opcodeField k (encode i) = i.opcode

theorem Laws.OpcodeField.add (d : BitVec 6) (a : BitVec 6) (b : BitVec 6) : Laws.OpcodeField.Statement (.add d a b) := fun _ h => by
  cases h; exact congrArg BitVec.toNat (lR_op _ _ _ _ _)
theorem Laws.OpcodeField.sub (d : BitVec 6) (a : BitVec 6) (b : BitVec 6) : Laws.OpcodeField.Statement (.sub d a b) := fun _ h => by
  cases h; exact congrArg BitVec.toNat (lR_op _ _ _ _ _)
theorem Laws.OpcodeField.mul (d : BitVec 6) (a : BitVec 6) (b : BitVec 6) : Laws.OpcodeField.Statement (.mul d a b) := fun _ h => by
  cases h; exact congrArg BitVec.toNat (lR_op _ _ _ _ _)
theorem Laws.OpcodeField.mulhiS (d : BitVec 6) (a : BitVec 6) (b : BitVec 6) : Laws.OpcodeField.Statement (.mulhiS d a b) := fun _ h => by
  cases h; exact congrArg BitVec.toNat (lR_op _ _ _ _ _)
theorem Laws.OpcodeField.mulhiU (d : BitVec 6) (a : BitVec 6) (b : BitVec 6) : Laws.OpcodeField.Statement (.mulhiU d a b) := fun _ h => by
  cases h; exact congrArg BitVec.toNat (lR_op _ _ _ _ _)
theorem Laws.OpcodeField.divS (d : BitVec 6) (a : BitVec 6) (b : BitVec 6) : Laws.OpcodeField.Statement (.divS d a b) := fun _ h => by
  cases h; exact congrArg BitVec.toNat (lR_op _ _ _ _ _)
theorem Laws.OpcodeField.divU (d : BitVec 6) (a : BitVec 6) (b : BitVec 6) : Laws.OpcodeField.Statement (.divU d a b) := fun _ h => by
  cases h; exact congrArg BitVec.toNat (lR_op _ _ _ _ _)
theorem Laws.OpcodeField.remS (d : BitVec 6) (a : BitVec 6) (b : BitVec 6) : Laws.OpcodeField.Statement (.remS d a b) := fun _ h => by
  cases h; exact congrArg BitVec.toNat (lR_op _ _ _ _ _)
theorem Laws.OpcodeField.remU (d : BitVec 6) (a : BitVec 6) (b : BitVec 6) : Laws.OpcodeField.Statement (.remU d a b) := fun _ h => by
  cases h; exact congrArg BitVec.toNat (lR_op _ _ _ _ _)
theorem Laws.OpcodeField.land (d : BitVec 6) (a : BitVec 6) (b : BitVec 6) : Laws.OpcodeField.Statement (.land d a b) := fun _ h => by
  cases h; exact congrArg BitVec.toNat (lR_op _ _ _ _ _)
theorem Laws.OpcodeField.lor (d : BitVec 6) (a : BitVec 6) (b : BitVec 6) : Laws.OpcodeField.Statement (.lor d a b) := fun _ h => by
  cases h; exact congrArg BitVec.toNat (lR_op _ _ _ _ _)
theorem Laws.OpcodeField.lxor (d : BitVec 6) (a : BitVec 6) (b : BitVec 6) : Laws.OpcodeField.Statement (.lxor d a b) := fun _ h => by
  cases h; exact congrArg BitVec.toNat (lR_op _ _ _ _ _)
theorem Laws.OpcodeField.andn (d : BitVec 6) (a : BitVec 6) (b : BitVec 6) : Laws.OpcodeField.Statement (.andn d a b) := fun _ h => by
  cases h; exact congrArg BitVec.toNat (lR_op _ _ _ _ _)
theorem Laws.OpcodeField.shl (d : BitVec 6) (a : BitVec 6) (b : BitVec 6) : Laws.OpcodeField.Statement (.shl d a b) := fun _ h => by
  cases h; exact congrArg BitVec.toNat (lR_op _ _ _ _ _)
theorem Laws.OpcodeField.shr (d : BitVec 6) (a : BitVec 6) (b : BitVec 6) : Laws.OpcodeField.Statement (.shr d a b) := fun _ h => by
  cases h; exact congrArg BitVec.toNat (lR_op _ _ _ _ _)
theorem Laws.OpcodeField.sar (d : BitVec 6) (a : BitVec 6) (b : BitVec 6) : Laws.OpcodeField.Statement (.sar d a b) := fun _ h => by
  cases h; exact congrArg BitVec.toNat (lR_op _ _ _ _ _)
theorem Laws.OpcodeField.rotl (d : BitVec 6) (a : BitVec 6) (b : BitVec 6) : Laws.OpcodeField.Statement (.rotl d a b) := fun _ h => by
  cases h; exact congrArg BitVec.toNat (lR_op _ _ _ _ _)
theorem Laws.OpcodeField.minS (d : BitVec 6) (a : BitVec 6) (b : BitVec 6) : Laws.OpcodeField.Statement (.minS d a b) := fun _ h => by
  cases h; exact congrArg BitVec.toNat (lR_op _ _ _ _ _)
theorem Laws.OpcodeField.minU (d : BitVec 6) (a : BitVec 6) (b : BitVec 6) : Laws.OpcodeField.Statement (.minU d a b) := fun _ h => by
  cases h; exact congrArg BitVec.toNat (lR_op _ _ _ _ _)
theorem Laws.OpcodeField.maxS (d : BitVec 6) (a : BitVec 6) (b : BitVec 6) : Laws.OpcodeField.Statement (.maxS d a b) := fun _ h => by
  cases h; exact congrArg BitVec.toNat (lR_op _ _ _ _ _)
theorem Laws.OpcodeField.maxU (d : BitVec 6) (a : BitVec 6) (b : BitVec 6) : Laws.OpcodeField.Statement (.maxU d a b) := fun _ h => by
  cases h; exact congrArg BitVec.toNat (lR_op _ _ _ _ _)
theorem Laws.OpcodeField.cmpEq (d : BitVec 6) (a : BitVec 6) (b : BitVec 6) : Laws.OpcodeField.Statement (.cmpEq d a b) := fun _ h => by
  cases h; exact congrArg BitVec.toNat (lR_op _ _ _ _ _)
theorem Laws.OpcodeField.cmpNe (d : BitVec 6) (a : BitVec 6) (b : BitVec 6) : Laws.OpcodeField.Statement (.cmpNe d a b) := fun _ h => by
  cases h; exact congrArg BitVec.toNat (lR_op _ _ _ _ _)
theorem Laws.OpcodeField.cmpLt (d : BitVec 6) (a : BitVec 6) (b : BitVec 6) : Laws.OpcodeField.Statement (.cmpLt d a b) := fun _ h => by
  cases h; exact congrArg BitVec.toNat (lR_op _ _ _ _ _)
theorem Laws.OpcodeField.cmpLe (d : BitVec 6) (a : BitVec 6) (b : BitVec 6) : Laws.OpcodeField.Statement (.cmpLe d a b) := fun _ h => by
  cases h; exact congrArg BitVec.toNat (lR_op _ _ _ _ _)
theorem Laws.OpcodeField.cmpLtu (d : BitVec 6) (a : BitVec 6) (b : BitVec 6) : Laws.OpcodeField.Statement (.cmpLtu d a b) := fun _ h => by
  cases h; exact congrArg BitVec.toNat (lR_op _ _ _ _ _)
theorem Laws.OpcodeField.cmpLeu (d : BitVec 6) (a : BitVec 6) (b : BitVec 6) : Laws.OpcodeField.Statement (.cmpLeu d a b) := fun _ h => by
  cases h; exact congrArg BitVec.toNat (lR_op _ _ _ _ _)
theorem Laws.OpcodeField.cmpiEq (d : BitVec 6) (a : BitVec 6) (imm : BitVec 32) : Laws.OpcodeField.Statement (.cmpiEq d a imm) := fun _ h => by
  cases h; exact congrArg BitVec.toNat (lI_op _ _ _ _)
theorem Laws.OpcodeField.cmpiNe (d : BitVec 6) (a : BitVec 6) (imm : BitVec 32) : Laws.OpcodeField.Statement (.cmpiNe d a imm) := fun _ h => by
  cases h; exact congrArg BitVec.toNat (lI_op _ _ _ _)
theorem Laws.OpcodeField.cmpiLt (d : BitVec 6) (a : BitVec 6) (imm : BitVec 32) : Laws.OpcodeField.Statement (.cmpiLt d a imm) := fun _ h => by
  cases h; exact congrArg BitVec.toNat (lI_op _ _ _ _)
theorem Laws.OpcodeField.cmpiLe (d : BitVec 6) (a : BitVec 6) (imm : BitVec 32) : Laws.OpcodeField.Statement (.cmpiLe d a imm) := fun _ h => by
  cases h; exact congrArg BitVec.toNat (lI_op _ _ _ _)
theorem Laws.OpcodeField.cmpiLtu (d : BitVec 6) (a : BitVec 6) (imm : BitVec 32) : Laws.OpcodeField.Statement (.cmpiLtu d a imm) := fun _ h => by
  cases h; exact congrArg BitVec.toNat (lI_op _ _ _ _)
theorem Laws.OpcodeField.cmpiLeu (d : BitVec 6) (a : BitVec 6) (imm : BitVec 32) : Laws.OpcodeField.Statement (.cmpiLeu d a imm) := fun _ h => by
  cases h; exact congrArg BitVec.toNat (lI_op _ _ _ _)
theorem Laws.OpcodeField.sel (d : BitVec 6) (a : BitVec 6) (b : BitVec 6) (c : BitVec 6) : Laws.OpcodeField.Statement (.sel d a b c) := fun _ h => by
  cases h; exact congrArg BitVec.toNat (lR_op _ _ _ _ _)
theorem Laws.OpcodeField.addi (d : BitVec 6) (a : BitVec 6) (imm : BitVec 32) : Laws.OpcodeField.Statement (.addi d a imm) := fun _ h => by
  cases h; exact congrArg BitVec.toNat (lI_op _ _ _ _)
theorem Laws.OpcodeField.li (d : BitVec 6) (imm : BitVec 32) : Laws.OpcodeField.Statement (.li d imm) := fun _ h => by
  cases h; exact congrArg BitVec.toNat (lI_op _ _ _ _)
theorem Laws.OpcodeField.lih (d : BitVec 6) (imm : BitVec 32) : Laws.OpcodeField.Statement (.lih d imm) := fun _ h => by
  cases h; exact congrArg BitVec.toNat (lI_op _ _ _ _)
theorem Laws.OpcodeField.clz (d : BitVec 6) (a : BitVec 6) : Laws.OpcodeField.Statement (.clz d a) := fun _ h => by
  cases h; exact congrArg BitVec.toNat (lR_op _ _ _ _ _)
theorem Laws.OpcodeField.popc (d : BitVec 6) (a : BitVec 6) : Laws.OpcodeField.Statement (.popc d a) := fun _ h => by
  cases h; exact congrArg BitVec.toNat (lR_op _ _ _ _ _)
theorem Laws.OpcodeField.bitrev (d : BitVec 6) (a : BitVec 6) : Laws.OpcodeField.Statement (.bitrev d a) := fun _ h => by
  cases h; exact congrArg BitVec.toNat (lR_op _ _ _ _ _)
theorem Laws.OpcodeField.crc32 (d : BitVec 6) (a : BitVec 6) (b : BitVec 6) : Laws.OpcodeField.Statement (.crc32 d a b) := fun _ h => by
  cases h; exact congrArg BitVec.toNat (lR_op _ _ _ _ _)
theorem Laws.OpcodeField.extr (d : BitVec 6) (a : BitVec 6) (pos : BitVec 6) (len : BitVec 6) : Laws.OpcodeField.Statement (.extr d a pos len) := fun _ h => by
  cases h; exact congrArg BitVec.toNat (lR_op _ _ _ _ _)
theorem Laws.OpcodeField.ins (d : BitVec 6) (a : BitVec 6) (pos : BitVec 6) (len : BitVec 6) : Laws.OpcodeField.Statement (.ins d a pos len) := fun _ h => by
  cases h; exact congrArg BitVec.toNat (lR_op _ _ _ _ _)
theorem Laws.OpcodeField.brZ (a : BitVec 6) (off : BitVec 26) : Laws.OpcodeField.Statement (.brZ a off) := fun _ h => by
  cases h; exact congrArg BitVec.toNat (lB_op _ _ _)
theorem Laws.OpcodeField.brNz (a : BitVec 6) (off : BitVec 26) : Laws.OpcodeField.Statement (.brNz a off) := fun _ h => by
  cases h; exact congrArg BitVec.toNat (lB_op _ _ _)
theorem Laws.OpcodeField.brLtz (a : BitVec 6) (off : BitVec 26) : Laws.OpcodeField.Statement (.brLtz a off) := fun _ h => by
  cases h; exact congrArg BitVec.toNat (lB_op _ _ _)
theorem Laws.OpcodeField.brGez (a : BitVec 6) (off : BitVec 26) : Laws.OpcodeField.Statement (.brGez a off) := fun _ h => by
  cases h; exact congrArg BitVec.toNat (lB_op _ _ _)
theorem Laws.OpcodeField.jmp (off : BitVec 26) : Laws.OpcodeField.Statement (.jmp off) := fun _ h => by
  cases h; exact congrArg BitVec.toNat (lB_op _ _ _)
theorem Laws.OpcodeField.call (off : BitVec 26) : Laws.OpcodeField.Statement (.call off) := fun _ h => by
  cases h; exact congrArg BitVec.toNat (lB_op _ _ _)
theorem Laws.OpcodeField.ret : Laws.OpcodeField.Statement .ret := fun _ h => by
  cases h; exact congrArg BitVec.toNat (lR_op _ _ _ _ _)
theorem Laws.OpcodeField.loop (a : BitVec 6) (len : BitVec 16) : Laws.OpcodeField.Statement (.loop a len) := fun _ h => by
  cases h; exact congrArg BitVec.toNat (lS_op _ _ _ _)
theorem Laws.OpcodeField.loopi (imm : BitVec 20) (len : BitVec 16) : Laws.OpcodeField.Statement (.loopi imm len) := fun _ h => by
  cases h; exact congrArg BitVec.toNat (lS_op _ _ _ _)
theorem Laws.OpcodeField.lbrk : Laws.OpcodeField.Statement .lbrk := fun _ h => by
  cases h; exact congrArg BitVec.toNat (lS_op _ _ _ _)
theorem Laws.OpcodeField.mfsr (d : BitVec 6) (sno : BitVec 12) : Laws.OpcodeField.Statement (.mfsr d sno) := fun _ h => by
  cases h; exact congrArg BitVec.toNat (lX_op _ _ _ _)
theorem Laws.OpcodeField.mtsr (a : BitVec 6) (sno : BitVec 12) : Laws.OpcodeField.Statement (.mtsr a sno) := fun _ h => by
  cases h; exact congrArg BitVec.toNat (lX_op _ _ _ _)
theorem Laws.OpcodeField.slack (imm : BitVec 32) : Laws.OpcodeField.Statement (.slack imm) := fun _ h => by
  cases h; exact congrArg BitVec.toNat (lI_op _ _ _ _)
theorem Laws.OpcodeField.trap (imm : BitVec 32) : Laws.OpcodeField.Statement (.trap imm) := fun _ h => by
  cases h; exact congrArg BitVec.toNat (lI_op _ _ _ _)
theorem Laws.OpcodeField.endUnit : Laws.OpcodeField.Statement .endUnit := fun _ h => by
  cases h; exact congrArg BitVec.toNat (lR_op _ _ _ _ _)
theorem Laws.OpcodeField.rft : Laws.OpcodeField.Statement .rft := fun _ h => by
  cases h; exact congrArg BitVec.toNat (lR_op _ _ _ _ _)
theorem Laws.OpcodeField.setx (a : BitVec 6) (sno : BitVec 12) : Laws.OpcodeField.Statement (.setx a sno) := fun _ h => by
  cases h; exact congrArg BitVec.toNat (lX_op _ _ _ _)
theorem Laws.OpcodeField.getx (d : BitVec 6) (sno : BitVec 12) : Laws.OpcodeField.Statement (.getx d sno) := fun _ h => by
  cases h; exact congrArg BitVec.toNat (lX_op _ _ _ _)
theorem Laws.OpcodeField.vadd (f : VR) : Laws.OpcodeField.Statement (.vadd f) := fun _ h => by
  cases h; exact congrArg BitVec.toNat (lVR_op _ _)
theorem Laws.OpcodeField.vsub (f : VR) : Laws.OpcodeField.Statement (.vsub f) := fun _ h => by
  cases h; exact congrArg BitVec.toNat (lVR_op _ _)
theorem Laws.OpcodeField.vmul (f : VR) : Laws.OpcodeField.Statement (.vmul f) := fun _ h => by
  cases h; exact congrArg BitVec.toNat (lVR_op _ _)
theorem Laws.OpcodeField.vfma (f : VR) : Laws.OpcodeField.Statement (.vfma f) := fun _ h => by
  cases h; exact congrArg BitVec.toNat (lVR_op _ _)
theorem Laws.OpcodeField.vfms (f : VR) : Laws.OpcodeField.Statement (.vfms f) := fun _ h => by
  cases h; exact congrArg BitVec.toNat (lVR_op _ _)
theorem Laws.OpcodeField.vdiv (f : VR) : Laws.OpcodeField.Statement (.vdiv f) := fun _ h => by
  cases h; exact congrArg BitVec.toNat (lVR_op _ _)
theorem Laws.OpcodeField.vmin (f : VR) : Laws.OpcodeField.Statement (.vmin f) := fun _ h => by
  cases h; exact congrArg BitVec.toNat (lVR_op _ _)
theorem Laws.OpcodeField.vmax (f : VR) : Laws.OpcodeField.Statement (.vmax f) := fun _ h => by
  cases h; exact congrArg BitVec.toNat (lVR_op _ _)
theorem Laws.OpcodeField.vabs (f : VR) : Laws.OpcodeField.Statement (.vabs f) := fun _ h => by
  cases h; exact congrArg BitVec.toNat (lVR_op _ _)
theorem Laws.OpcodeField.vneg (f : VR) : Laws.OpcodeField.Statement (.vneg f) := fun _ h => by
  cases h; exact congrArg BitVec.toNat (lVR_op _ _)
theorem Laws.OpcodeField.vcpsgn (f : VR) : Laws.OpcodeField.Statement (.vcpsgn f) := fun _ h => by
  cases h; exact congrArg BitVec.toNat (lVR_op _ _)
theorem Laws.OpcodeField.vscal (f : VS) : Laws.OpcodeField.Statement (.vscal f) := fun _ h => by
  cases h; exact congrArg BitVec.toNat (lVS_op _ _)
theorem Laws.OpcodeField.vrnd (f : VR) : Laws.OpcodeField.Statement (.vrnd f) := fun _ h => by
  cases h; exact congrArg BitVec.toNat (lVR_op _ _)
theorem Laws.OpcodeField.vrcp (f : VR) : Laws.OpcodeField.Statement (.vrcp f) := fun _ h => by
  cases h; exact congrArg BitVec.toNat (lVR_op _ _)
theorem Laws.OpcodeField.vrsq (f : VR) : Laws.OpcodeField.Statement (.vrsq f) := fun _ h => by
  cases h; exact congrArg BitVec.toNat (lVR_op _ _)
theorem Laws.OpcodeField.vsqrt (f : VR) : Laws.OpcodeField.Statement (.vsqrt f) := fun _ h => by
  cases h; exact congrArg BitVec.toNat (lVR_op _ _)
theorem Laws.OpcodeField.vexp2 (f : VR) : Laws.OpcodeField.Statement (.vexp2 f) := fun _ h => by
  cases h; exact congrArg BitVec.toNat (lVR_op _ _)
theorem Laws.OpcodeField.vlog2 (f : VR) : Laws.OpcodeField.Statement (.vlog2 f) := fun _ h => by
  cases h; exact congrArg BitVec.toNat (lVR_op _ _)
theorem Laws.OpcodeField.vtanh (f : VR) : Laws.OpcodeField.Statement (.vtanh f) := fun _ h => by
  cases h; exact congrArg BitVec.toNat (lVR_op _ _)
theorem Laws.OpcodeField.vcmpEq (f : VR) : Laws.OpcodeField.Statement (.vcmpEq f) := fun _ h => by
  cases h; exact congrArg BitVec.toNat (lVR_op _ _)
theorem Laws.OpcodeField.vcmpNe (f : VR) : Laws.OpcodeField.Statement (.vcmpNe f) := fun _ h => by
  cases h; exact congrArg BitVec.toNat (lVR_op _ _)
theorem Laws.OpcodeField.vcmpLt (f : VR) : Laws.OpcodeField.Statement (.vcmpLt f) := fun _ h => by
  cases h; exact congrArg BitVec.toNat (lVR_op _ _)
theorem Laws.OpcodeField.vcmpLe (f : VR) : Laws.OpcodeField.Statement (.vcmpLe f) := fun _ h => by
  cases h; exact congrArg BitVec.toNat (lVR_op _ _)
theorem Laws.OpcodeField.vcmpGt (f : VR) : Laws.OpcodeField.Statement (.vcmpGt f) := fun _ h => by
  cases h; exact congrArg BitVec.toNat (lVR_op _ _)
theorem Laws.OpcodeField.vcmpGe (f : VR) : Laws.OpcodeField.Statement (.vcmpGe f) := fun _ h => by
  cases h; exact congrArg BitVec.toNat (lVR_op _ _)
theorem Laws.OpcodeField.viadd (f : VR) : Laws.OpcodeField.Statement (.viadd f) := fun _ h => by
  cases h; exact congrArg BitVec.toNat (lVR_op _ _)
theorem Laws.OpcodeField.visub (f : VR) : Laws.OpcodeField.Statement (.visub f) := fun _ h => by
  cases h; exact congrArg BitVec.toNat (lVR_op _ _)
theorem Laws.OpcodeField.vimul (f : VR) : Laws.OpcodeField.Statement (.vimul f) := fun _ h => by
  cases h; exact congrArg BitVec.toNat (lVR_op _ _)
theorem Laws.OpcodeField.vimad (f : VR) : Laws.OpcodeField.Statement (.vimad f) := fun _ h => by
  cases h; exact congrArg BitVec.toNat (lVR_op _ _)
theorem Laws.OpcodeField.vimin (f : VR) : Laws.OpcodeField.Statement (.vimin f) := fun _ h => by
  cases h; exact congrArg BitVec.toNat (lVR_op _ _)
theorem Laws.OpcodeField.vimax (f : VR) : Laws.OpcodeField.Statement (.vimax f) := fun _ h => by
  cases h; exact congrArg BitVec.toNat (lVR_op _ _)
theorem Laws.OpcodeField.vavg (f : VR) : Laws.OpcodeField.Statement (.vavg f) := fun _ h => by
  cases h; exact congrArg BitVec.toNat (lVR_op _ _)
theorem Laws.OpcodeField.vicmpEq (f : VR) : Laws.OpcodeField.Statement (.vicmpEq f) := fun _ h => by
  cases h; exact congrArg BitVec.toNat (lVR_op _ _)
theorem Laws.OpcodeField.vicmpNe (f : VR) : Laws.OpcodeField.Statement (.vicmpNe f) := fun _ h => by
  cases h; exact congrArg BitVec.toNat (lVR_op _ _)
theorem Laws.OpcodeField.vicmpLt (f : VR) : Laws.OpcodeField.Statement (.vicmpLt f) := fun _ h => by
  cases h; exact congrArg BitVec.toNat (lVR_op _ _)
theorem Laws.OpcodeField.vicmpLe (f : VR) : Laws.OpcodeField.Statement (.vicmpLe f) := fun _ h => by
  cases h; exact congrArg BitVec.toNat (lVR_op _ _)
theorem Laws.OpcodeField.vicmpLtu (f : VR) : Laws.OpcodeField.Statement (.vicmpLtu f) := fun _ h => by
  cases h; exact congrArg BitVec.toNat (lVR_op _ _)
theorem Laws.OpcodeField.vicmpLeu (f : VR) : Laws.OpcodeField.Statement (.vicmpLeu f) := fun _ h => by
  cases h; exact congrArg BitVec.toNat (lVR_op _ _)
theorem Laws.OpcodeField.vand (f : VR) : Laws.OpcodeField.Statement (.vand f) := fun _ h => by
  cases h; exact congrArg BitVec.toNat (lVR_op _ _)
theorem Laws.OpcodeField.vor (f : VR) : Laws.OpcodeField.Statement (.vor f) := fun _ h => by
  cases h; exact congrArg BitVec.toNat (lVR_op _ _)
theorem Laws.OpcodeField.vxor (f : VR) : Laws.OpcodeField.Statement (.vxor f) := fun _ h => by
  cases h; exact congrArg BitVec.toNat (lVR_op _ _)
theorem Laws.OpcodeField.vshl (f : VR) : Laws.OpcodeField.Statement (.vshl f) := fun _ h => by
  cases h; exact congrArg BitVec.toNat (lVR_op _ _)
theorem Laws.OpcodeField.vshr (f : VR) : Laws.OpcodeField.Statement (.vshr f) := fun _ h => by
  cases h; exact congrArg BitVec.toNat (lVR_op _ _)
theorem Laws.OpcodeField.vsar (f : VR) : Laws.OpcodeField.Statement (.vsar f) := fun _ h => by
  cases h; exact congrArg BitVec.toNat (lVR_op _ _)
theorem Laws.OpcodeField.vclz (f : VR) : Laws.OpcodeField.Statement (.vclz f) := fun _ h => by
  cases h; exact congrArg BitVec.toNat (lVR_op _ _)
theorem Laws.OpcodeField.vpopc (f : VR) : Laws.OpcodeField.Statement (.vpopc f) := fun _ h => by
  cases h; exact congrArg BitVec.toNat (lVR_op _ _)
theorem Laws.OpcodeField.vsel (f : VR) : Laws.OpcodeField.Statement (.vsel f) := fun _ h => by
  cases h; exact congrArg BitVec.toNat (lVR_op _ _)
theorem Laws.OpcodeField.vclamp (f : VR) : Laws.OpcodeField.Statement (.vclamp f) := fun _ h => by
  cases h; exact congrArg BitVec.toNat (lVR_op _ _)
theorem Laws.OpcodeField.vcvt (f : VR) : Laws.OpcodeField.Statement (.vcvt f) := fun _ h => by
  cases h; exact congrArg BitVec.toNat (lVR_op _ _)
theorem Laws.OpcodeField.vqnt (f : VR) : Laws.OpcodeField.Statement (.vqnt f) := fun _ h => by
  cases h; exact congrArg BitVec.toNat (lVR_op _ _)
theorem Laws.OpcodeField.vdqn (f : VR) : Laws.OpcodeField.Statement (.vdqn f) := fun _ h => by
  cases h; exact congrArg BitVec.toNat (lVR_op _ _)
theorem Laws.OpcodeField.vcmpr (f : VR) : Laws.OpcodeField.Statement (.vcmpr f) := fun _ h => by
  cases h; exact congrArg BitVec.toNat (lVR_op _ _)
theorem Laws.OpcodeField.vmov (f : VR) : Laws.OpcodeField.Statement (.vmov f) := fun _ h => by
  cases h; exact congrArg BitVec.toNat (lVR_op _ _)
theorem Laws.OpcodeField.vfill (f : VS) : Laws.OpcodeField.Statement (.vfill f) := fun _ h => by
  cases h; exact congrArg BitVec.toNat (lVS_op _ _)
theorem Laws.OpcodeField.vbcs (f : VS) : Laws.OpcodeField.Statement (.vbcs f) := fun _ h => by
  cases h; exact congrArg BitVec.toNat (lVS_op _ _)
theorem Laws.OpcodeField.vperm (f : VR) : Laws.OpcodeField.Statement (.vperm f) := fun _ h => by
  cases h; exact congrArg BitVec.toNat (lVR_op _ _)
theorem Laws.OpcodeField.vsld (f : VS) : Laws.OpcodeField.Statement (.vsld f) := fun _ h => by
  cases h; exact congrArg BitVec.toNat (lVS_op _ _)
theorem Laws.OpcodeField.vzip (f : VR) : Laws.OpcodeField.Statement (.vzip f) := fun _ h => by
  cases h; exact congrArg BitVec.toNat (lVR_op _ _)
theorem Laws.OpcodeField.vunz (f : VR) : Laws.OpcodeField.Statement (.vunz f) := fun _ h => by
  cases h; exact congrArg BitVec.toNat (lVR_op _ _)
theorem Laws.OpcodeField.vrsum (f : VR) : Laws.OpcodeField.Statement (.vrsum f) := fun _ h => by
  cases h; exact congrArg BitVec.toNat (lVR_op _ _)
theorem Laws.OpcodeField.vrmax (f : VR) : Laws.OpcodeField.Statement (.vrmax f) := fun _ h => by
  cases h; exact congrArg BitVec.toNat (lVR_op _ _)
theorem Laws.OpcodeField.vrmin (f : VR) : Laws.OpcodeField.Statement (.vrmin f) := fun _ h => by
  cases h; exact congrArg BitVec.toNat (lVR_op _ _)
theorem Laws.OpcodeField.tcsum (f : VR) : Laws.OpcodeField.Statement (.tcsum f) := fun _ h => by
  cases h; exact congrArg BitVec.toNat (lVR_op _ _)
theorem Laws.OpcodeField.tcmax (f : VR) : Laws.OpcodeField.Statement (.tcmax f) := fun _ h => by
  cases h; exact congrArg BitVec.toNat (lVR_op _ _)
theorem Laws.OpcodeField.tcrd (t : BitVec 7) (v : BitVec 11) (idx : BitVec 4) : Laws.OpcodeField.Statement (.tcrd t v idx) := fun _ h => by
  cases h; exact congrArg BitVec.toNat (lVT_op _ _ _ _ _ _)
theorem Laws.OpcodeField.tcwr (t : BitVec 7) (v : BitVec 11) (idx : BitVec 4) : Laws.OpcodeField.Statement (.tcwr t v idx) := fun _ h => by
  cases h; exact congrArg BitVec.toNat (lVT_op _ _ _ _ _ _)
theorem Laws.OpcodeField.ttrn (t : BitVec 7) (ta : BitVec 7) : Laws.OpcodeField.Statement (.ttrn t ta) := fun _ h => by
  cases h; exact congrArg BitVec.toNat (lVT_op _ _ _ _ _ _)
theorem Laws.OpcodeField.tcfg (t : BitVec 7) (rows : BitVec 4) (rowb : BitVec 5) (fmt : BitVec 4) : Laws.OpcodeField.Statement (.tcfg t rows rowb fmt) := fun _ h => by
  cases h; exact congrArg BitVec.toNat (lVT_op _ _ _ _ _ _)
theorem Laws.OpcodeField.trel (t : BitVec 7) : Laws.OpcodeField.Statement (.trel t) := fun _ h => by
  cases h; exact congrArg BitVec.toNat (lVT_op _ _ _ _ _ _)
theorem Laws.OpcodeField.vcrc (f : VR) : Laws.OpcodeField.Statement (.vcrc f) := fun _ h => by
  cases h; exact congrArg BitVec.toNat (lVR_op _ _)
theorem Laws.OpcodeField.mcfg (f : MA) : Laws.OpcodeField.Statement (.mcfg f) := fun _ h => by
  cases h; exact congrArg BitVec.toNat (lMA_op _ _)
theorem Laws.OpcodeField.mscl (f : MA) : Laws.OpcodeField.Statement (.mscl f) := fun _ h => by
  cases h; exact congrArg BitVec.toNat (lMA_op _ _)
theorem Laws.OpcodeField.mlds (f : MA) : Laws.OpcodeField.Statement (.mlds f) := fun _ h => by
  cases h; exact congrArg BitVec.toNat (lMA_op _ _)
theorem Laws.OpcodeField.mldsT (f : MA) : Laws.OpcodeField.Statement (.mldsT f) := fun _ h => by
  cases h; exact congrArg BitVec.toNat (lMA_op _ _)
theorem Laws.OpcodeField.mldsh (f : MA) : Laws.OpcodeField.Statement (.mldsh f) := fun _ h => by
  cases h; exact congrArg BitVec.toNat (lMA_op _ _)
theorem Laws.OpcodeField.mldsp (f : MA) : Laws.OpcodeField.Statement (.mldsp f) := fun _ h => by
  cases h; exact congrArg BitVec.toNat (lMA_op _ _)
theorem Laws.OpcodeField.mswp (f : MA) : Laws.OpcodeField.Statement (.mswp f) := fun _ h => by
  cases h; exact congrArg BitVec.toNat (lMA_op _ _)
theorem Laws.OpcodeField.mstr (f : MA) : Laws.OpcodeField.Statement (.mstr f) := fun _ h => by
  cases h; exact congrArg BitVec.toNat (lMA_op _ _)
theorem Laws.OpcodeField.mstrT (f : MA) : Laws.OpcodeField.Statement (.mstrT f) := fun _ h => by
  cases h; exact congrArg BitVec.toNat (lMA_op _ _)
theorem Laws.OpcodeField.mstrh (f : MA) : Laws.OpcodeField.Statement (.mstrh f) := fun _ h => by
  cases h; exact congrArg BitVec.toNat (lMA_op _ _)
theorem Laws.OpcodeField.mgrp (f : MA) : Laws.OpcodeField.Statement (.mgrp f) := fun _ h => by
  cases h; exact congrArg BitVec.toNat (lMA_op _ _)
theorem Laws.OpcodeField.msps (f : MA) : Laws.OpcodeField.Statement (.msps f) := fun _ h => by
  cases h; exact congrArg BitVec.toNat (lMA_op _ _)
theorem Laws.OpcodeField.mza (f : MA) : Laws.OpcodeField.Statement (.mza f) := fun _ h => by
  cases h; exact congrArg BitVec.toNat (lMA_op _ _)
theorem Laws.OpcodeField.mwra (f : MA) : Laws.OpcodeField.Statement (.mwra f) := fun _ h => by
  cases h; exact congrArg BitVec.toNat (lMA_op _ _)
theorem Laws.OpcodeField.mrda (f : MA) : Laws.OpcodeField.Statement (.mrda f) := fun _ h => by
  cases h; exact congrArg BitVec.toNat (lMA_op _ _)
theorem Laws.OpcodeField.mrds (f : MA) : Laws.OpcodeField.Statement (.mrds f) := fun _ h => by
  cases h; exact congrArg BitVec.toNat (lMA_op _ _)
theorem Laws.OpcodeField.mcan (f : MA) : Laws.OpcodeField.Statement (.mcan f) := fun _ h => by
  cases h; exact congrArg BitVec.toNat (lMA_op _ _)
theorem Laws.OpcodeField.ldB (f : MemF) : Laws.OpcodeField.Statement (.ldB f) := fun _ h => by
  cases h; exact congrArg BitVec.toNat (lMem_op _ _)
theorem Laws.OpcodeField.ldBu (f : MemF) : Laws.OpcodeField.Statement (.ldBu f) := fun _ h => by
  cases h; exact congrArg BitVec.toNat (lMem_op _ _)
theorem Laws.OpcodeField.ldH (f : MemF) : Laws.OpcodeField.Statement (.ldH f) := fun _ h => by
  cases h; exact congrArg BitVec.toNat (lMem_op _ _)
theorem Laws.OpcodeField.ldHu (f : MemF) : Laws.OpcodeField.Statement (.ldHu f) := fun _ h => by
  cases h; exact congrArg BitVec.toNat (lMem_op _ _)
theorem Laws.OpcodeField.ldW (f : MemF) : Laws.OpcodeField.Statement (.ldW f) := fun _ h => by
  cases h; exact congrArg BitVec.toNat (lMem_op _ _)
theorem Laws.OpcodeField.ldWu (f : MemF) : Laws.OpcodeField.Statement (.ldWu f) := fun _ h => by
  cases h; exact congrArg BitVec.toNat (lMem_op _ _)
theorem Laws.OpcodeField.ldD (f : MemF) : Laws.OpcodeField.Statement (.ldD f) := fun _ h => by
  cases h; exact congrArg BitVec.toNat (lMem_op _ _)
theorem Laws.OpcodeField.vld (f : MemF) : Laws.OpcodeField.Statement (.vld f) := fun _ h => by
  cases h; exact congrArg BitVec.toNat (lMem_op _ _)
theorem Laws.OpcodeField.vlds (f : MemF) : Laws.OpcodeField.Statement (.vlds f) := fun _ h => by
  cases h; exact congrArg BitVec.toNat (lMem_op _ _)
theorem Laws.OpcodeField.vldb (f : MemF) : Laws.OpcodeField.Statement (.vldb f) := fun _ h => by
  cases h; exact congrArg BitVec.toNat (lMem_op _ _)
theorem Laws.OpcodeField.tld (f : MemT) : Laws.OpcodeField.Statement (.tld f) := fun _ h => by
  cases h; exact congrArg BitVec.toNat (lMemT_op _ _)
theorem Laws.OpcodeField.thdl (f : MemF) : Laws.OpcodeField.Statement (.thdl f) := fun _ h => by
  cases h; exact congrArg BitVec.toNat (lMem_op _ _)
theorem Laws.OpcodeField.ldb (f : MemF) : Laws.OpcodeField.Statement (.ldb f) := fun _ h => by
  cases h; exact congrArg BitVec.toNat (lMem_op _ _)
theorem Laws.OpcodeField.pld (f : MemF) : Laws.OpcodeField.Statement (.pld f) := fun _ h => by
  cases h; exact congrArg BitVec.toNat (lMem_op _ _)
theorem Laws.OpcodeField.take (f : MemF) : Laws.OpcodeField.Statement (.take f) := fun _ h => by
  cases h; exact congrArg BitVec.toNat (lMem_op _ _)
theorem Laws.OpcodeField.peek (f : MemF) : Laws.OpcodeField.Statement (.peek f) := fun _ h => by
  cases h; exact congrArg BitVec.toNat (lMem_op _ _)
theorem Laws.OpcodeField.stB (f : MemF) : Laws.OpcodeField.Statement (.stB f) := fun _ h => by
  cases h; exact congrArg BitVec.toNat (lMem_op _ _)
theorem Laws.OpcodeField.stH (f : MemF) : Laws.OpcodeField.Statement (.stH f) := fun _ h => by
  cases h; exact congrArg BitVec.toNat (lMem_op _ _)
theorem Laws.OpcodeField.stW (f : MemF) : Laws.OpcodeField.Statement (.stW f) := fun _ h => by
  cases h; exact congrArg BitVec.toNat (lMem_op _ _)
theorem Laws.OpcodeField.stD (f : MemF) : Laws.OpcodeField.Statement (.stD f) := fun _ h => by
  cases h; exact congrArg BitVec.toNat (lMem_op _ _)
theorem Laws.OpcodeField.vst (f : MemF) : Laws.OpcodeField.Statement (.vst f) := fun _ h => by
  cases h; exact congrArg BitVec.toNat (lMem_op _ _)
theorem Laws.OpcodeField.vsts (f : MemF) : Laws.OpcodeField.Statement (.vsts f) := fun _ h => by
  cases h; exact congrArg BitVec.toNat (lMem_op _ _)
theorem Laws.OpcodeField.tst (f : MemT) : Laws.OpcodeField.Statement (.tst f) := fun _ h => by
  cases h; exact congrArg BitVec.toNat (lMemT_op _ _)
theorem Laws.OpcodeField.lbf (f : MemF) : Laws.OpcodeField.Statement (.lbf f) := fun _ h => by
  cases h; exact congrArg BitVec.toNat (lMem_op _ _)
theorem Laws.OpcodeField.putf (f : MemF) : Laws.OpcodeField.Statement (.putf f) := fun _ h => by
  cases h; exact congrArg BitVec.toNat (lMem_op _ _)
theorem Laws.OpcodeField.aadd (f : MemF) : Laws.OpcodeField.Statement (.aadd f) := fun _ h => by
  cases h; exact congrArg BitVec.toNat (lMem_op _ _)
theorem Laws.OpcodeField.aminS (f : MemF) : Laws.OpcodeField.Statement (.aminS f) := fun _ h => by
  cases h; exact congrArg BitVec.toNat (lMem_op _ _)
theorem Laws.OpcodeField.aminU (f : MemF) : Laws.OpcodeField.Statement (.aminU f) := fun _ h => by
  cases h; exact congrArg BitVec.toNat (lMem_op _ _)
theorem Laws.OpcodeField.amaxS (f : MemF) : Laws.OpcodeField.Statement (.amaxS f) := fun _ h => by
  cases h; exact congrArg BitVec.toNat (lMem_op _ _)
theorem Laws.OpcodeField.amaxU (f : MemF) : Laws.OpcodeField.Statement (.amaxU f) := fun _ h => by
  cases h; exact congrArg BitVec.toNat (lMem_op _ _)
theorem Laws.OpcodeField.aand (f : MemF) : Laws.OpcodeField.Statement (.aand f) := fun _ h => by
  cases h; exact congrArg BitVec.toNat (lMem_op _ _)
theorem Laws.OpcodeField.aor (f : MemF) : Laws.OpcodeField.Statement (.aor f) := fun _ h => by
  cases h; exact congrArg BitVec.toNat (lMem_op _ _)
theorem Laws.OpcodeField.axor (f : MemF) : Laws.OpcodeField.Statement (.axor f) := fun _ h => by
  cases h; exact congrArg BitVec.toNat (lMem_op _ _)
theorem Laws.OpcodeField.aswp (f : MemF) : Laws.OpcodeField.Statement (.aswp f) := fun _ h => by
  cases h; exact congrArg BitVec.toNat (lMem_op _ _)
theorem Laws.OpcodeField.acas (f : MemF) : Laws.OpcodeField.Statement (.acas f) := fun _ h => by
  cases h; exact congrArg BitVec.toNat (lMem_op _ _)
theorem Laws.OpcodeField.afadd (f : MemF) : Laws.OpcodeField.Statement (.afadd f) := fun _ h => by
  cases h; exact congrArg BitVec.toNat (lMem_op _ _)
theorem Laws.OpcodeField.afmin (f : MemF) : Laws.OpcodeField.Statement (.afmin f) := fun _ h => by
  cases h; exact congrArg BitVec.toNat (lMem_op _ _)
theorem Laws.OpcodeField.afmax (f : MemF) : Laws.OpcodeField.Statement (.afmax f) := fun _ h => by
  cases h; exact congrArg BitVec.toNat (lMem_op _ _)
theorem Laws.OpcodeField.cpy (f : CC) : Laws.OpcodeField.Statement (.cpy f) := fun _ h => by
  cases h; exact congrArg BitVec.toNat (lCC_op _ _)
theorem Laws.OpcodeField.cpy2 (f : CC) : Laws.OpcodeField.Statement (.cpy2 f) := fun _ h => by
  cases h; exact congrArg BitVec.toNat (lCC_op _ _)
theorem Laws.OpcodeField.cpyt (f : CC) : Laws.OpcodeField.Statement (.cpyt f) := fun _ h => by
  cases h; exact congrArg BitVec.toNat (lCC_op _ _)
theorem Laws.OpcodeField.cpym (f : CC) : Laws.OpcodeField.Statement (.cpym f) := fun _ h => by
  cases h; exact congrArg BitVec.toNat (lCC_op _ _)
theorem Laws.OpcodeField.cpyk (f : CC) : Laws.OpcodeField.Statement (.cpyk f) := fun _ h => by
  cases h; exact congrArg BitVec.toNat (lCC_op _ _)
theorem Laws.OpcodeField.cpyc (f : CC) : Laws.OpcodeField.Statement (.cpyc f) := fun _ h => by
  cases h; exact congrArg BitVec.toNat (lCC_op _ _)
theorem Laws.OpcodeField.cpya (f : CC) : Laws.OpcodeField.Statement (.cpya f) := fun _ h => by
  cases h; exact congrArg BitVec.toNat (lCC_op _ _)
theorem Laws.OpcodeField.cpyg (f : CC) : Laws.OpcodeField.Statement (.cpyg f) := fun _ h => by
  cases h; exact congrArg BitVec.toNat (lCC_op _ _)
theorem Laws.OpcodeField.cpys (f : CC) : Laws.OpcodeField.Statement (.cpys f) := fun _ h => by
  cases h; exact congrArg BitVec.toNat (lCC_op _ _)
theorem Laws.OpcodeField.cpyf (f : CC) : Laws.OpcodeField.Statement (.cpyf f) := fun _ h => by
  cases h; exact congrArg BitVec.toNat (lCC_op _ _)
theorem Laws.OpcodeField.pref (f : CC) : Laws.OpcodeField.Statement (.pref f) := fun _ h => by
  cases h; exact congrArg BitVec.toNat (lCC_op _ _)
theorem Laws.OpcodeField.collRs (f : CC) : Laws.OpcodeField.Statement (.collRs f) := fun _ h => by
  cases h; exact congrArg BitVec.toNat (lCC_op _ _)
theorem Laws.OpcodeField.collAg (f : CC) : Laws.OpcodeField.Statement (.collAg f) := fun _ h => by
  cases h; exact congrArg BitVec.toNat (lCC_op _ _)
theorem Laws.OpcodeField.collAr (f : CC) : Laws.OpcodeField.Statement (.collAr f) := fun _ h => by
  cases h; exact congrArg BitVec.toNat (lCC_op _ _)
theorem Laws.OpcodeField.collBc (f : CC) : Laws.OpcodeField.Statement (.collBc f) := fun _ h => by
  cases h; exact congrArg BitVec.toNat (lCC_op _ _)
theorem Laws.OpcodeField.spill (f : CC) : Laws.OpcodeField.Statement (.spill f) := fun _ h => by
  cases h; exact congrArg BitVec.toNat (lCC_op _ _)
theorem Laws.OpcodeField.fill (f : CC) : Laws.OpcodeField.Statement (.fill f) := fun _ h => by
  cases h; exact congrArg BitVec.toNat (lCC_op _ _)
theorem Laws.OpcodeField.zfill (f : CC) : Laws.OpcodeField.Statement (.zfill f) := fun _ h => by
  cases h; exact congrArg BitVec.toNat (lCC_op _ _)
theorem Laws.OpcodeField.ccan (f : CC) : Laws.OpcodeField.Statement (.ccan f) := fun _ h => by
  cases h; exact congrArg BitVec.toNat (lCC_op _ _)
theorem Laws.OpcodeField.fence (cmask : BitVec 16) (scope : BitVec 3) : Laws.OpcodeField.Statement (.fence cmask scope) := fun _ h => by
  cases h; exact congrArg BitVec.toNat (lY_op _ _)
theorem Laws.OpcodeField.ownE (sa : BitVec 6) (sl : BitVec 6) : Laws.OpcodeField.Statement (.ownE sa sl) := fun _ h => by
  cases h; exact congrArg BitVec.toNat (lY_op _ _)
theorem Laws.OpcodeField.ownP (sa : BitVec 6) (sl : BitVec 6) : Laws.OpcodeField.Statement (.ownP sa sl) := fun _ h => by
  cases h; exact congrArg BitVec.toNat (lY_op _ _)
theorem Laws.OpcodeField.wchk (m : BitVec 3) (sm : BitVec 6) : Laws.OpcodeField.Statement (.wchk m sm) := fun _ h => by
  cases h; exact congrArg BitVec.toNat (lY_op _ _)
theorem Laws.OpcodeField.weng (eng : BitVec 2) : Laws.OpcodeField.Statement (.weng eng) := fun _ h => by
  cases h; exact congrArg BitVec.toNat (lY_op _ _)
theorem Laws.OpcodeField.bar (sa : BitVec 6) (sn : BitVec 6) (oc : BitVec 4) : Laws.OpcodeField.Statement (.bar sa sn oc) := fun _ h => by
  cases h; exact congrArg BitVec.toNat (lY_op _ _)
theorem Laws.OpcodeField.barc (sa : BitVec 6) (sn : BitVec 6) (oc : BitVec 4) : Laws.OpcodeField.Statement (.barc sa sn oc) := fun _ h => by
  cases h; exact congrArg BitVec.toNat (lY_op _ _)
theorem Laws.OpcodeField.sig (sa : BitVec 6) (sv : BitVec 6) (oc : BitVec 4) (d : BitVec 6) : Laws.OpcodeField.Statement (.sig sa sv oc d) := fun _ h => by
  cases h; exact congrArg BitVec.toNat (lY_op _ _)
theorem Laws.OpcodeField.wsig (sa : BitVec 6) (sv : BitVec 6) (oc : BitVec 4) (d : BitVec 6) (mode : BitVec 4) : Laws.OpcodeField.Statement (.wsig sa sv oc d mode) := fun _ h => by
  cases h; exact congrArg BitVec.toNat (lY_op _ _)
theorem Laws.OpcodeField.wsiga (sa : BitVec 6) (sv : BitVec 6) (oc : BitVec 4) (d : BitVec 6) (mode : BitVec 4) : Laws.OpcodeField.Statement (.wsiga sa sv oc d mode) := fun _ h => by
  cases h; exact congrArg BitVec.toNat (lY_op _ _)
theorem Laws.OpcodeField.tickw (sv : BitVec 6) : Laws.OpcodeField.Statement (.tickw sv) := fun _ h => by
  cases h; exact congrArg BitVec.toNat (lY_op _ _)
theorem Laws.OpcodeField.yield : Laws.OpcodeField.Statement .yield := fun _ h => by
  cases h; exact congrArg BitVec.toNat (lY_op _ _)
theorem Laws.OpcodeField.alloc (d : BitVec 6) (sz : BitVec 6) (lf : BitVec 6) (h : Bool) (st : Bool) (k : Bool) : Laws.OpcodeField.Statement (.alloc d sz lf h st k) := fun _ h => by
  cases h; exact congrArg BitVec.toNat (lY_op _ _)
theorem Laws.OpcodeField.free (sa : BitVec 6) : Laws.OpcodeField.Statement (.free sa) := fun _ h => by
  cases h; exact congrArg BitVec.toNat (lY_op _ _)
theorem Laws.OpcodeField.renew (sa : BitVec 6) : Laws.OpcodeField.Statement (.renew sa) := fun _ h => by
  cases h; exact congrArg BitVec.toNat (lY_op _ _)
theorem Laws.OpcodeField.mark (sa : BitVec 6) (tag : BitVec 16) : Laws.OpcodeField.Statement (.mark sa tag) := fun _ h => by
  cases h; exact congrArg BitVec.toNat (lY_op _ _)
theorem Laws.OpcodeField.hint (sa : BitVec 6) : Laws.OpcodeField.Statement (.hint sa) := fun _ h => by
  cases h; exact congrArg BitVec.toNat (lY_op _ _)
theorem Laws.OpcodeField.hibq (d : BitVec 6) (which : BitVec 2) : Laws.OpcodeField.Statement (.hibq d which) := fun _ h => by
  cases h; exact congrArg BitVec.toNat (lY_op _ _)
theorem Laws.OpcodeField.qbind (q : BitVec 3) (sc : BitVec 6) (fmt : BitVec 4) : Laws.OpcodeField.Statement (.qbind q sc fmt) := fun _ h => by
  cases h; exact congrArg BitVec.toNat (lY_op _ _)
theorem Laws.OpcodeField.emptyBundle (p : Bool) (wait : BitVec 5) (pop : BitVec 8) : Laws.OpcodeField.Statement (.emptyBundle p wait pop) := fun _ h => by cases h
theorem Laws.OpcodeField.resultLanding (err : Option Mismatch) : Laws.OpcodeField.Statement (.resultLanding err) := fun _ h => by cases h
theorem Laws.OpcodeField.scoreboardLanding (k : Nat) : Laws.OpcodeField.Statement (.scoreboardLanding k) := fun _ h => by cases h
theorem Laws.OpcodeField.quantumExpiry : Laws.OpcodeField.Statement .quantumExpiry := fun _ h => by cases h
theorem Laws.OpcodeField.slackExhausted : Laws.OpcodeField.Statement .slackExhausted := fun _ h => by cases h
theorem Laws.OpcodeField.watchdogExpiry : Laws.OpcodeField.Statement .watchdogExpiry := fun _ h => by cases h
theorem Laws.OpcodeField.softStop : Laws.OpcodeField.Statement .softStop := fun _ h => by cases h
theorem Laws.OpcodeField.debugStop (launch : Nat) (rank : Nat) : Laws.OpcodeField.Statement (.debugStop launch rank) := fun _ h => by cases h
theorem Laws.OpcodeField.resume (launch : Nat) (rank : Nat) (place : Place) : Laws.OpcodeField.Statement (.resume launch rank place) := fun _ h => by cases h
theorem Laws.OpcodeField.unitEnded : Laws.OpcodeField.Statement .unitEnded := fun _ h => by cases h
theorem Laws.OpcodeField.allocExpiry : Laws.OpcodeField.Statement .allocExpiry := fun _ h => by cases h
theorem Laws.OpcodeField.retnChange (die : Nat) (retn : Nat) : Laws.OpcodeField.Statement (.retnChange die retn) := fun _ h => by cases h
theorem Laws.OpcodeField.latchHeadFetch (q : BitVec 3) : Laws.OpcodeField.Statement (.latchHeadFetch q) := fun _ h => by cases h
theorem Laws.OpcodeField.matrixAccept : Laws.OpcodeField.Statement .matrixAccept := fun _ h => by cases h
theorem Laws.OpcodeField.matrixStep (load : Bool) (err : Option Mismatch) : Laws.OpcodeField.Statement (.matrixStep load err) := fun _ h => by cases h
theorem Laws.OpcodeField.matrixComplete (load : Bool) : Laws.OpcodeField.Statement (.matrixComplete load) := fun _ h => by cases h
theorem Laws.OpcodeField.bandGate (band : Nat) : Laws.OpcodeField.Statement (.bandGate band) := fun _ h => by cases h
theorem Laws.OpcodeField.bandWake : Laws.OpcodeField.Statement .bandWake := fun _ h => by cases h
theorem Laws.OpcodeField.copyAccept : Laws.OpcodeField.Statement .copyAccept := fun _ h => by cases h
theorem Laws.OpcodeField.copyChunk (k : Nat) (chunk : Nat) (err : Option Mismatch) : Laws.OpcodeField.Statement (.copyChunk k chunk err) := fun _ h => by cases h
theorem Laws.OpcodeField.copyComplete (k : Nat) : Laws.OpcodeField.Statement (.copyComplete k) := fun _ h => by cases h
theorem Laws.OpcodeField.engineStopTimeout : Laws.OpcodeField.Statement .engineStopTimeout := fun _ h => by cases h
theorem Laws.OpcodeField.collSend (g : Nat) : Laws.OpcodeField.Statement (.collSend g) := fun _ h => by cases h
theorem Laws.OpcodeField.collMessage (g : Nat) (step : Nat) (data : List (BitVec 8)) : Laws.OpcodeField.Statement (.collMessage g step data) := fun _ h => by cases h
theorem Laws.OpcodeField.collComplete (g : Nat) (err : Option Mismatch) : Laws.OpcodeField.Statement (.collComplete g err) := fun _ h => by cases h
theorem Laws.OpcodeField.fabricRequest (port : Nat) (flit : Flit) : Laws.OpcodeField.Statement (.fabricRequest port flit) := fun _ h => by cases h
theorem Laws.OpcodeField.fabricData (port : Nat) (flit : Flit) : Laws.OpcodeField.Statement (.fabricData port flit) := fun _ h => by cases h
theorem Laws.OpcodeField.holdFlit (g : FlitTo) (step : Nat) : Laws.OpcodeField.Statement (.holdFlit g step) := fun _ h => by cases h
theorem Laws.OpcodeField.nackFlit (tag : FlitTo) (wait : Nat) : Laws.OpcodeField.Statement (.nackFlit tag wait) := fun _ h => by cases h
theorem Laws.OpcodeField.hibnFlit (g : GroupPeer) (step : Nat) : Laws.OpcodeField.Statement (.hibnFlit g step) := fun _ h => by cases h
theorem Laws.OpcodeField.rejoinFlit (g : FlitTo) (step : Nat) : Laws.OpcodeField.Statement (.rejoinFlit g step) := fun _ h => by cases h
theorem Laws.OpcodeField.retryResend : Laws.OpcodeField.Statement .retryResend := fun _ h => by cases h
theorem Laws.OpcodeField.linkLost (port : Nat) : Laws.OpcodeField.Statement (.linkLost port) := fun _ h => by cases h
theorem Laws.OpcodeField.linkRetrainTimeout (port : Nat) : Laws.OpcodeField.Statement (.linkRetrainTimeout port) := fun _ h => by cases h
theorem Laws.OpcodeField.shootdownMulticast (port : Nat) (src : ShootFrom) (ctx : Nat) (base : Nat) (len : Nat) : Laws.OpcodeField.Statement (.shootdownMulticast port src ctx base len) := fun _ h => by cases h
theorem Laws.OpcodeField.shootdownAck (ack : ShootAck) : Laws.OpcodeField.Statement (.shootdownAck ack) := fun _ h => by cases h
theorem Laws.OpcodeField.shootdownTimeout (modid : Nat) : Laws.OpcodeField.Statement (.shootdownTimeout modid) := fun _ h => by cases h
theorem Laws.OpcodeField.requestAging : Laws.OpcodeField.Statement .requestAging := fun _ h => by cases h
theorem Laws.OpcodeField.scrubWriteback (addr : Nat) : Laws.OpcodeField.Statement (.scrubWriteback addr) := fun _ h => by cases h
theorem Laws.OpcodeField.llcLineError (line : Nat) (slice : Nat) (way : Nat) (dirty : Bool) : Laws.OpcodeField.Statement (.llcLineError line slice way dirty) := fun _ h => by cases h
theorem Laws.OpcodeField.dieFence (cause : FenceCause) : Laws.OpcodeField.Statement (.dieFence cause) := fun _ h => by cases h
theorem Laws.OpcodeField.dieLinkTimeout (link : LinkSilence) : Laws.OpcodeField.Statement (.dieLinkTimeout link) := fun _ h => by cases h
theorem Laws.OpcodeField.dieRejoin (die : Nat) : Laws.OpcodeField.Statement (.dieRejoin die) := fun _ h => by cases h
theorem Laws.OpcodeField.thermalTrip (die : Nat) : Laws.OpcodeField.Statement (.thermalTrip die) := fun _ h => by cases h
theorem Laws.OpcodeField.pageRetirement (page : Nat) (spare : Nat) : Laws.OpcodeField.Statement (.pageRetirement page spare) := fun _ h => by cases h
theorem Laws.OpcodeField.clusterGate (die : Nat) (cluster : Nat) : Laws.OpcodeField.Statement (.clusterGate die cluster) := fun _ h => by cases h
theorem Laws.OpcodeField.clusterPowerDown (die : Nat) (cluster : Nat) : Laws.OpcodeField.Statement (.clusterPowerDown die cluster) := fun _ h => by cases h
theorem Laws.OpcodeField.clusterUngate (die : Nat) (cluster : Nat) : Laws.OpcodeField.Statement (.clusterUngate die cluster) := fun _ h => by cases h
theorem Laws.OpcodeField.placement (die : Nat) : Laws.OpcodeField.Statement (.placement die) := fun _ h => by cases h
theorem Laws.OpcodeField.drainTimeout (die : Nat) : Laws.OpcodeField.Statement (.drainTimeout die) := fun _ h => by cases h
theorem Laws.OpcodeField.tickBoundary : Laws.OpcodeField.Statement .tickBoundary := fun _ h => by cases h
theorem Laws.OpcodeField.predecessorRelease (launch : Nat) : Laws.OpcodeField.Statement (.predecessorRelease launch) := fun _ h => by cases h
theorem Laws.OpcodeField.nopPacket (q : Nat) : Laws.OpcodeField.Statement (.nopPacket q) := fun _ h => by cases h
theorem Laws.OpcodeField.slotLoad (q : Nat) : Laws.OpcodeField.Statement (.slotLoad q) := fun _ h => by cases h
theorem Laws.OpcodeField.slotEvict (q : Nat) : Laws.OpcodeField.Statement (.slotEvict q) := fun _ h => by cases h
theorem Laws.OpcodeField.invoke (q : Nat) : Laws.OpcodeField.Statement (.invoke q) := fun _ h => by cases h
theorem Laws.OpcodeField.invokeTick (q : Nat) : Laws.OpcodeField.Statement (.invokeTick q) := fun _ h => by cases h
theorem Laws.OpcodeField.mboxPut (q : Nat) : Laws.OpcodeField.Statement (.mboxPut q) := fun _ h => by cases h
theorem Laws.OpcodeField.mboxTake (q : Nat) : Laws.OpcodeField.Statement (.mboxTake q) := fun _ h => by cases h
theorem Laws.OpcodeField.signalPacket (q : Nat) : Laws.OpcodeField.Statement (.signalPacket q) := fun _ h => by cases h
theorem Laws.OpcodeField.waitAll (q : Nat) : Laws.OpcodeField.Statement (.waitAll q) := fun _ h => by cases h
theorem Laws.OpcodeField.waitAny (q : Nat) : Laws.OpcodeField.Statement (.waitAny q) := fun _ h => by cases h
theorem Laws.OpcodeField.phaseOpen (q : Nat) : Laws.OpcodeField.Statement (.phaseOpen q) := fun _ h => by cases h
theorem Laws.OpcodeField.phaseClose (q : Nat) : Laws.OpcodeField.Statement (.phaseClose q) := fun _ h => by cases h
theorem Laws.OpcodeField.cancelPacket (q : Nat) : Laws.OpcodeField.Statement (.cancelPacket q) := fun _ h => by cases h
theorem Laws.OpcodeField.hibList (q : Nat) : Laws.OpcodeField.Statement (.hibList q) := fun _ h => by cases h
theorem Laws.OpcodeField.queueResume (q : Nat) : Laws.OpcodeField.Statement (.queueResume q) := fun _ h => by cases h
theorem Laws.OpcodeField.wridxWrite (q : Nat) (value : BitVec 32) : Laws.OpcodeField.Statement (.wridxWrite q value) := fun _ h => by cases h
theorem Laws.OpcodeField.statusWrite (q : Nat) (value : BitVec 64) : Laws.OpcodeField.Statement (.statusWrite q value) := fun _ h => by cases h
theorem Laws.OpcodeField.rdidxWrite (q : Nat) (value : BitVec 32) : Laws.OpcodeField.Statement (.rdidxWrite q value) := fun _ h => by cases h
theorem Laws.OpcodeField.queueBind (q : Nat) (value : BitVec 64) : Laws.OpcodeField.Statement (.queueBind q value) := fun _ h => by cases h
theorem Laws.OpcodeField.queueUnbind (q : Nat) : Laws.OpcodeField.Statement (.queueUnbind q) := fun _ h => by cases h
theorem Laws.OpcodeField.qprioWrite (q : Nat) (prio : BitVec 3) : Laws.OpcodeField.Statement (.qprioWrite q prio) := fun _ h => by cases h
theorem Laws.OpcodeField.contextCreate (ctx : Nat) (entry : BitVec 512) : Laws.OpcodeField.Statement (.contextCreate ctx entry) := fun _ h => by cases h
theorem Laws.OpcodeField.contextRelease (ctx : Nat) : Laws.OpcodeField.Statement (.contextRelease ctx) := fun _ h => by cases h
theorem Laws.OpcodeField.shootdown (base : BitVec 64) (len : BitVec 64) (ctl : BitVec 64) : Laws.OpcodeField.Statement (.shootdown base len ctl) := fun _ h => by cases h
theorem Laws.OpcodeField.tickperWrite (value : BitVec 64) : Laws.OpcodeField.Statement (.tickperWrite value) := fun _ h => by cases h
theorem Laws.OpcodeField.hibreq : Laws.OpcodeField.Statement .hibreq := fun _ h => by cases h
theorem Laws.OpcodeField.flushWrite : Laws.OpcodeField.Statement .flushWrite := fun _ h => by cases h
theorem Laws.OpcodeField.attestation (nonce : BitVec 256) (buffer : BitVec 64) : Laws.OpcodeField.Statement (.attestation nonce buffer) := fun _ h => by cases h
theorem Laws.OpcodeField.bloomClear (channel : Nat) : Laws.OpcodeField.Statement (.bloomClear channel) := fun _ h => by cases h
theorem Laws.OpcodeField.groupCreate (entry : GroupEntry) : Laws.OpcodeField.Statement (.groupCreate entry) := fun _ h => by cases h
theorem Laws.OpcodeField.groupDissolve (g : Nat) : Laws.OpcodeField.Statement (.groupDissolve g) := fun _ h => by cases h
theorem Laws.OpcodeField.registerWrite (access : BarAccess) (value : BitVec 64) : Laws.OpcodeField.Statement (.registerWrite access value) := fun _ h => by cases h
theorem Laws.OpcodeField.warnEntry : Laws.OpcodeField.Statement .warnEntry := fun _ h => by cases h
theorem Laws.OpcodeField.warnExit : Laws.OpcodeField.Statement .warnExit := fun _ h => by cases h
theorem Laws.OpcodeField.b1Entry : Laws.OpcodeField.Statement .b1Entry := fun _ h => by cases h
theorem Laws.OpcodeField.b1Exit : Laws.OpcodeField.Statement .b1Exit := fun _ h => by cases h
theorem Laws.OpcodeField.b2Entry (cause : BitVec 2) : Laws.OpcodeField.Statement (.b2Entry cause) := fun _ h => by cases h
theorem Laws.OpcodeField.park : Laws.OpcodeField.Statement .park := fun _ h => by cases h
theorem Laws.OpcodeField.drain : Laws.OpcodeField.Statement .drain := fun _ h => by cases h
theorem Laws.OpcodeField.seal : Laws.OpcodeField.Statement .seal := fun _ h => by cases h
theorem Laws.OpcodeField.powerOff : Laws.OpcodeField.Statement .powerOff := fun _ h => by cases h
theorem Laws.OpcodeField.warmResume : Laws.OpcodeField.Statement .warmResume := fun _ h => by cases h
theorem Laws.OpcodeField.coldBoot : Laws.OpcodeField.Statement .coldBoot := fun _ h => by cases h
theorem Laws.OpcodeField.budgetRecompute (budget : Nat) : Laws.OpcodeField.Statement (.budgetRecompute budget) := fun _ h => by cases h
theorem Laws.OpcodeField.heartbeat : Laws.OpcodeField.Statement .heartbeat := fun _ h => by cases h
theorem Laws.OpcodeField.heartbeatMiss : Laws.OpcodeField.Statement .heartbeatMiss := fun _ h => by cases h
theorem Laws.OpcodeField.currentSample (die : Nat) (cluster : Nat) (value : Nat) : Laws.OpcodeField.Statement (.currentSample die cluster value) := fun _ h => by cases h
theorem Laws.OpcodeField.wearUpdate (die : Nat) (cluster : Nat) (weight : Nat) : Laws.OpcodeField.Statement (.wearUpdate die cluster weight) := fun _ h => by cases h
theorem Laws.OpcodeField.clockChange (die : Nat) (mhz : Nat) (retn : Nat) : Laws.OpcodeField.Statement (.clockChange die mhz retn) := fun _ h => by cases h
theorem Laws.OpcodeField.bootLevelRise (dies : BitVec 16) : Laws.OpcodeField.Statement (.bootLevelRise dies) := fun _ h => by cases h
theorem Laws.OpcodeField.firmwareUpdate (image : FwImage) : Laws.OpcodeField.Statement (.firmwareUpdate image) := fun _ h => by cases h
theorem Laws.OpcodeField.writePerforms (k : Nat) : Laws.OpcodeField.Statement (.writePerforms k) := fun _ h => by cases h
theorem Laws.OpcodeField.portRetrained (port : Nat) : Laws.OpcodeField.Statement (.portRetrained port) := fun _ h => by cases h
theorem Laws.OpcodeField.baseDieFault (die : Nat) : Laws.OpcodeField.Statement (.baseDieFault die) := fun _ h => by cases h
theorem Laws.OpcodeField.llcWayReenable (slice : Nat) (way : Nat) : Laws.OpcodeField.Statement (.llcWayReenable slice way) := fun _ h => by cases h
theorem Laws.OpcodeField.termination (launch : Nat) (rank : Nat) : Laws.OpcodeField.Statement (.termination launch rank) := fun _ h => by cases h

end Sys2Proof
end

