-- ==== Sys2Proof/Tests/Slice0.lean ====
section
/-! SUPPORT. Small checks: the decode checks refuse what 03 puts out of range, words written out from the encodings, worked values
of the spec, and for every statement a state and operands that meet its hypotheses together. -/

namespace Sys2Proof

open Sys2Proof.Machine

set_option Elab.async false

/-! Ill-formed terms (03 R71 to R85): a field that an opcode leaves unused, and each value that is out of range. -/

theorem test_unusedFieldRefused : (Instr.vabs ⟨1, 2, 3, 0, 0, 0, 0, 1⟩).wellFormed = false := by decide +kernel
theorem test_unusedScalarRefused : (Instr.mza ⟨1, 0, 9, 0, 0, 0, 0⟩).wellFormed = false := by decide +kernel
theorem test_unusedOffsetRefused : (Instr.ldB ⟨64, 0, 0, 1, 0, 0, 0, 0⟩).wellFormed = false := by decide +kernel
theorem test_unusedModRefused : (Instr.cpy ⟨1, 2, 3, 4, 0, 0, 0, 1⟩).wellFormed = false := by decide +kernel
theorem test_unusedFillRefused : (Instr.vfill ⟨1, 0, 2, 0x1B, 0, 0⟩).wellFormed = false := by decide +kernel
theorem test_emptyBodyRefused : (Instr.loop 1 0).wellFormed = false := by decide +kernel
theorem test_wideFieldRefused : (Instr.extr 1 2 40 24).wellFormed = false := by decide +kernel
theorem test_extentNumberRefused : (Instr.getx 1 64).wellFormed = false := by decide +kernel
theorem test_rangeRefused : (Instr.vadd ⟨2047, 0, 0, 0, 0, 1, 0, 1⟩).wellFormed = false := by decide +kernel
theorem test_saturationRefused : (Instr.vadd ⟨0, 0, 0, 0, 0, 0, 2, 1⟩).wellFormed = false := by decide +kernel
theorem test_formatRefused : (Instr.viadd ⟨0, 0, 0, 0, 0, 0, 0, 1⟩).wellFormed = false := by decide +kernel
theorem test_trailerRowRefused : (Instr.vqnt ⟨2047, 0, 0, 0, 0, 0, 0, 8⟩).wellFormed = false := by decide +kernel
theorem test_overlapRefused : (Instr.vcmpr ⟨16, 0, 17, 0, 0, 3, 0, 6⟩).wellFormed = false := by decide +kernel
theorem test_elementRefused : (Instr.vbcs ⟨0, 0, 0, 0x43, 0, 0⟩).wellFormed = false := by decide +kernel
theorem test_slideRefused : (Instr.vsld ⟨0, 0, 0, 65, 0, 0⟩).wellFormed = false := by decide +kernel
theorem test_rowBytesRefused : (Instr.tcfg 0 0 16 1).wellFormed = false := by decide +kernel
theorem test_tileRefused : (Instr.mza ⟨24, 0, 0, 0, 0, 0, 0⟩).wellFormed = false := by decide +kernel
theorem test_planeFormatRefused : (Instr.mlds ⟨0, 0, 1, 2, 0, 0, 4⟩).wellFormed = false := by decide +kernel
theorem test_spaceRefused : (Instr.take ⟨1, 0, 0, 0, 0, 0, 0, 0⟩).wellFormed = false := by decide +kernel
theorem test_spaceIndexRefused : (Instr.ldB ⟨1, 2, 1, 0, 0, 0, 0, 0⟩).wellFormed = false := by decide +kernel
theorem test_tokenRefused : (Instr.cpy ⟨0, 1, 2, 3, 0, 0, 0, 0⟩).wellFormed = false := by decide +kernel
theorem test_prefetchTargetRefused : (Instr.pref ⟨1, 2, 3, 4, 0, 0, 0, 2⟩).wellFormed = false := by decide +kernel
theorem test_fenceMaskRefused : (Instr.fence 0 1).wellFormed = false := by decide +kernel
theorem test_fenceScopeRefused : (Instr.fence 1 5).wellFormed = false := by decide +kernel
theorem test_engineRefused : (Instr.weng 3).wellFormed = false := by decide +kernel
theorem test_modeRefused : (Instr.wsig 1 2 0 3 5).wellFormed = false := by decide +kernel
theorem test_allocTargetRefused : (Instr.alloc 0 1 2 false false false).wellFormed = false := by decide +kernel
theorem test_unbindFormatRefused : (Instr.qbind 0 0 1).wellFormed = false := by decide +kernel

/-! Words written out field by field from the layouts and the opcode maps (03 R66 to R84), each read back. -/

def wordsS0 : List (BitVec 64 × Instr) := [
    (0x01A5634000000000, .add 41 22 13),
    (0x02A5634000000000, .sub 41 22 13),
    (0x03A5634000000000, .mul 41 22 13),
    (0x04A5634000000000, .mulhiS 41 22 13),
    (0x05A5634000000000, .mulhiU 41 22 13),
    (0x06A5634000000000, .divS 41 22 13),
    (0x07A5634000000000, .divU 41 22 13),
    (0x08A5634000000000, .remS 41 22 13),
    (0x09A5634000000000, .remU 41 22 13),
    (0x0AA5634000000000, .land 41 22 13),
    (0x0BA5634000000000, .lor 41 22 13),
    (0x0CA5634000000000, .lxor 41 22 13),
    (0x0DA5634000000000, .andn 41 22 13),
    (0x0EA5634000000000, .shl 41 22 13),
    (0x0FA5634000000000, .shr 41 22 13),
    (0x10A5634000000000, .sar 41 22 13),
    (0x11A5634000000000, .rotl 41 22 13),
    (0x12A5634000000000, .minS 41 22 13),
    (0x13A5634000000000, .minU 41 22 13),
    (0x14A5634000000000, .maxS 41 22 13),
    (0x15A5634000000000, .maxU 41 22 13),
    (0x16A5634000000000, .cmpEq 41 22 13),
    (0x17A5634000000000, .cmpNe 41 22 13),
    (0x18A5634000000000, .cmpLt 41 22 13)]
def wordsS1 : List (BitVec 64 × Instr) := [
    (0x19A5634000000000, .cmpLe 41 22 13),
    (0x1AA5634000000000, .cmpLtu 41 22 13),
    (0x1BA5634000000000, .cmpLeu 41 22 13),
    (0x29A5634000000000, .crc32 41 22 13),
    (0x22A5637600000000, .sel 41 22 13 54),
    (0x26A5600000000000, .clz 41 22),
    (0x27A5600000000000, .popc 41 22),
    (0x28A5600000000000, .bitrev 41 22),
    (0x3200000000000000, .ret),
    (0x3A00000000000000, .endUnit),
    (0x3B00000000000000, .rft),
    (0x3500000000000000, .lbrk),
    (0x23A5689ABCDE7000, .addi 41 22 0x89abcde7),
    (0x1CA5689ABCDE7000, .cmpiEq 41 22 0x89abcde7),
    (0x1DA5689ABCDE7000, .cmpiNe 41 22 0x89abcde7),
    (0x1EA5689ABCDE7000, .cmpiLt 41 22 0x89abcde7),
    (0x1FA5689ABCDE7000, .cmpiLe 41 22 0x89abcde7),
    (0x20A5689ABCDE7000, .cmpiLtu 41 22 0x89abcde7),
    (0x21A5689ABCDE7000, .cmpiLeu 41 22 0x89abcde7),
    (0x24A4089ABCDE7000, .li 41 0x89abcde7),
    (0x25A4089ABCDE7000, .lih 41 0x89abcde7),
    (0x3800089ABCDE7000, .slack 0x89abcde7),
    (0x3900089ABCDE7000, .trap 0x89abcde7),
    (0x2C5AABCDE5000000, .brZ 22 0x2abcde5)]
def wordsS2 : List (BitVec 64 × Instr) := [
    (0x2D5AABCDE5000000, .brNz 22 0x2abcde5),
    (0x2E5AABCDE5000000, .brLtz 22 0x2abcde5),
    (0x2F5AABCDE5000000, .brGez 22 0x2abcde5),
    (0x3002ABCDE5000000, .jmp 0x2abcde5),
    (0x3102ABCDE5000000, .call 0x2abcde5),
    (0x335800002FBBC000, .loop 22 0xBEEF),
    (0x3402AF37AFBBC000, .loopi 0xABCDE 0xBEEF),
    (0x36A409A500000000, .mfsr 41 0x9A5),
    (0x370169A500000000, .mtsr 22 0x9A5),
    (0x3DA4002D00000000, .getx 41 0x2D),
    (0x3C01602D00000000, .setx 22 0x2D),
    (0x2AA56A1700000000, .extr 41 22 40 23),
    (0x2BA56A1700000000, .ins 41 22 40 23)]
def wordsV0 : List (BitVec 64 × Instr) := [
    (0x01C82C8A59800A53, .vadd { d := 1601, a := 802, b := 1203, c := 0, rnd := 2, cnt := 9, sat := 1, fmt := 3 }),
    (0x02C82C8A59800A53, .vsub { d := 1601, a := 802, b := 1203, c := 0, rnd := 2, cnt := 9, sat := 1, fmt := 3 }),
    (0x03C82C8A59800A53, .vmul { d := 1601, a := 802, b := 1203, c := 0, rnd := 2, cnt := 9, sat := 1, fmt := 3 }),
    (0x06C82C8A59800A53, .vdiv { d := 1601, a := 802, b := 1203, c := 0, rnd := 2, cnt := 9, sat := 1, fmt := 3 }),
    (0x07C82C8A59800A53, .vmin { d := 1601, a := 802, b := 1203, c := 0, rnd := 2, cnt := 9, sat := 1, fmt := 3 }),
    (0x08C82C8A59800A53, .vmax { d := 1601, a := 802, b := 1203, c := 0, rnd := 2, cnt := 9, sat := 1, fmt := 3 }),
    (0x04C82C8A59994E52, .vfma { d := 1601, a := 802, b := 1203, c := 404, rnd := 3, cnt := 9, sat := 1, fmt := 2 }),
    (0x05C82C8A59994E52, .vfms { d := 1601, a := 802, b := 1203, c := 404, rnd := 3, cnt := 9, sat := 1, fmt := 2 }),
    (0x09C82C8800000241, .vabs { d := 1601, a := 802, b := 0, c := 0, rnd := 0, cnt := 9, sat := 0, fmt := 1 }),
    (0x0AC82C8800000241, .vneg { d := 1601, a := 802, b := 0, c := 0, rnd := 0, cnt := 9, sat := 0, fmt := 1 }),
    (0x0BC82C8A59800242, .vcpsgn { d := 1601, a := 802, b := 1203, c := 0, rnd := 0, cnt := 9, sat := 0, fmt := 2 }),
    (0x0DC82C8800000652, .vrnd { d := 1601, a := 802, b := 0, c := 0, rnd := 1, cnt := 9, sat := 1, fmt := 2 }),
    (0x0EC82C8800000652, .vrcp { d := 1601, a := 802, b := 0, c := 0, rnd := 1, cnt := 9, sat := 1, fmt := 2 }),
    (0x0FC82C8800000652, .vrsq { d := 1601, a := 802, b := 0, c := 0, rnd := 1, cnt := 9, sat := 1, fmt := 2 }),
    (0x10C82C8800000652, .vsqrt { d := 1601, a := 802, b := 0, c := 0, rnd := 1, cnt := 9, sat := 1, fmt := 2 }),
    (0x11C82C8800000652, .vexp2 { d := 1601, a := 802, b := 0, c := 0, rnd := 1, cnt := 9, sat := 1, fmt := 2 }),
    (0x12C82C8800000652, .vlog2 { d := 1601, a := 802, b := 0, c := 0, rnd := 1, cnt := 9, sat := 1, fmt := 2 }),
    (0x13C82C8800000652, .vtanh { d := 1601, a := 802, b := 0, c := 0, rnd := 1, cnt := 9, sat := 1, fmt := 2 }),
    (0x14C82C8A59800241, .vcmpEq { d := 1601, a := 802, b := 1203, c := 0, rnd := 0, cnt := 9, sat := 0, fmt := 1 }),
    (0x15C82C8A59800241, .vcmpNe { d := 1601, a := 802, b := 1203, c := 0, rnd := 0, cnt := 9, sat := 0, fmt := 1 }),
    (0x16C82C8A59800241, .vcmpLt { d := 1601, a := 802, b := 1203, c := 0, rnd := 0, cnt := 9, sat := 0, fmt := 1 }),
    (0x17C82C8A59800241, .vcmpLe { d := 1601, a := 802, b := 1203, c := 0, rnd := 0, cnt := 9, sat := 0, fmt := 1 }),
    (0x18C82C8A59800241, .vcmpGt { d := 1601, a := 802, b := 1203, c := 0, rnd := 0, cnt := 9, sat := 0, fmt := 1 }),
    (0x19C82C8A59800241, .vcmpGe { d := 1601, a := 802, b := 1203, c := 0, rnd := 0, cnt := 9, sat := 0, fmt := 1 })]
def wordsV1 : List (BitVec 64 × Instr) := [
    (0x1AC82C8A59800257, .viadd { d := 1601, a := 802, b := 1203, c := 0, rnd := 0, cnt := 9, sat := 1, fmt := 7 }),
    (0x1BC82C8A59800257, .visub { d := 1601, a := 802, b := 1203, c := 0, rnd := 0, cnt := 9, sat := 1, fmt := 7 }),
    (0x1CC82C8A59800257, .vimul { d := 1601, a := 802, b := 1203, c := 0, rnd := 0, cnt := 9, sat := 1, fmt := 7 }),
    (0x1EC82C8A59800257, .vimin { d := 1601, a := 802, b := 1203, c := 0, rnd := 0, cnt := 9, sat := 1, fmt := 7 }),
    (0x1FC82C8A59800257, .vimax { d := 1601, a := 802, b := 1203, c := 0, rnd := 0, cnt := 9, sat := 1, fmt := 7 }),
    (0x20C82C8A59800E56, .vavg { d := 1601, a := 802, b := 1203, c := 0, rnd := 3, cnt := 9, sat := 1, fmt := 6 }),
    (0x1DC82C8A59994255, .vimad { d := 1601, a := 802, b := 1203, c := 404, rnd := 0, cnt := 9, sat := 1, fmt := 5 }),
    (0x21C82C8A59800244, .vicmpEq { d := 1601, a := 802, b := 1203, c := 0, rnd := 0, cnt := 9, sat := 0, fmt := 4 }),
    (0x22C82C8A59800244, .vicmpNe { d := 1601, a := 802, b := 1203, c := 0, rnd := 0, cnt := 9, sat := 0, fmt := 4 }),
    (0x23C82C8A59800244, .vicmpLt { d := 1601, a := 802, b := 1203, c := 0, rnd := 0, cnt := 9, sat := 0, fmt := 4 }),
    (0x24C82C8A59800244, .vicmpLe { d := 1601, a := 802, b := 1203, c := 0, rnd := 0, cnt := 9, sat := 0, fmt := 4 }),
    (0x25C82C8A59800244, .vicmpLtu { d := 1601, a := 802, b := 1203, c := 0, rnd := 0, cnt := 9, sat := 0, fmt := 4 }),
    (0x26C82C8A59800244, .vicmpLeu { d := 1601, a := 802, b := 1203, c := 0, rnd := 0, cnt := 9, sat := 0, fmt := 4 }),
    (0x27C82C8A5980024C, .vand { d := 1601, a := 802, b := 1203, c := 0, rnd := 0, cnt := 9, sat := 0, fmt := 12 }),
    (0x28C82C8A5980024C, .vor { d := 1601, a := 802, b := 1203, c := 0, rnd := 0, cnt := 9, sat := 0, fmt := 12 }),
    (0x29C82C8A5980024C, .vxor { d := 1601, a := 802, b := 1203, c := 0, rnd := 0, cnt := 9, sat := 0, fmt := 12 }),
    (0x2AC82C8A59800245, .vshl { d := 1601, a := 802, b := 1203, c := 0, rnd := 0, cnt := 9, sat := 0, fmt := 5 }),
    (0x2BC82C8A59800245, .vshr { d := 1601, a := 802, b := 1203, c := 0, rnd := 0, cnt := 9, sat := 0, fmt := 5 }),
    (0x2CC82C8A59800245, .vsar { d := 1601, a := 802, b := 1203, c := 0, rnd := 0, cnt := 9, sat := 0, fmt := 5 }),
    (0x2DC82C8800000246, .vclz { d := 1601, a := 802, b := 0, c := 0, rnd := 0, cnt := 9, sat := 0, fmt := 6 }),
    (0x2EC82C8800000246, .vpopc { d := 1601, a := 802, b := 0, c := 0, rnd := 0, cnt := 9, sat := 0, fmt := 6 }),
    (0x2FC82C8A59994249, .vsel { d := 1601, a := 802, b := 1203, c := 404, rnd := 0, cnt := 9, sat := 0, fmt := 9 }),
    (0x30C82C8A59994249, .vclamp { d := 1601, a := 802, b := 1203, c := 404, rnd := 0, cnt := 9, sat := 0, fmt := 9 }),
    (0x31C82C8800000A57, .vcvt { d := 1601, a := 802, b := 0, c := 0, rnd := 2, cnt := 9, sat := 1, fmt := 7 })]
def wordsV2 : List (BitVec 64 × Instr) := [
    (0x32C82C8800000658, .vqnt { d := 1601, a := 802, b := 0, c := 0, rnd := 1, cnt := 9, sat := 1, fmt := 8 }),
    (0x33C82C8800000E42, .vdqn { d := 1601, a := 802, b := 0, c := 0, rnd := 3, cnt := 9, sat := 0, fmt := 2 }),
    (0x34C82C8A5980024A, .vcmpr { d := 1601, a := 802, b := 1203, c := 0, rnd := 0, cnt := 9, sat := 0, fmt := 10 }),
    (0x35C82C8800000240, .vmov { d := 1601, a := 802, b := 0, c := 0, rnd := 0, cnt := 9, sat := 0, fmt := 0 }),
    (0x46C82C8800000240, .vcrc { d := 1601, a := 802, b := 0, c := 0, rnd := 0, cnt := 9, sat := 0, fmt := 0 }),
    (0x38C82C8A59800240, .vperm { d := 1601, a := 802, b := 1203, c := 0, rnd := 0, cnt := 9, sat := 0, fmt := 0 }),
    (0x3AC82C8A59800240, .vzip { d := 1601, a := 802, b := 1203, c := 0, rnd := 0, cnt := 9, sat := 0, fmt := 0 }),
    (0x3BC82C8A59800240, .vunz { d := 1601, a := 802, b := 1203, c := 0, rnd := 0, cnt := 9, sat := 0, fmt := 0 }),
    (0x3CC82C8800000654, .vrsum { d := 1601, a := 802, b := 0, c := 0, rnd := 1, cnt := 9, sat := 1, fmt := 4 }),
    (0x3FC82C8800000654, .tcsum { d := 1601, a := 802, b := 0, c := 0, rnd := 1, cnt := 9, sat := 1, fmt := 4 }),
    (0x3DC82C8800000247, .vrmax { d := 1601, a := 802, b := 0, c := 0, rnd := 0, cnt := 9, sat := 0, fmt := 7 }),
    (0x3EC82C8800000247, .vrmin { d := 1601, a := 802, b := 0, c := 0, rnd := 0, cnt := 9, sat := 0, fmt := 7 }),
    (0x40C82C8800000247, .tcmax { d := 1601, a := 802, b := 0, c := 0, rnd := 0, cnt := 9, sat := 0, fmt := 7 }),
    (0x0CC82C8AD0000A40, .vscal { d := 1601, a := 802, s := 45, imm := 0, rnd := 2, cnt := 9 }),
    (0x36C82002D000B240, .vfill { d := 1601, a := 0, s := 45, imm := 11, rnd := 0, cnt := 9 }),
    (0x37C82C8800026240, .vbcs { d := 1601, a := 802, s := 0, imm := 38, rnd := 0, cnt := 9 }),
    (0x39C82C88000A5240, .vsld { d := 1601, a := 802, s := 0, imm := 165, rnd := 0, cnt := 9 }),
    (0x41BA026958000000, .tcrd 93 1234 11),
    (0x42BA026958000000, .tcwr 93 1234 11),
    (0x43BAE80000000000, .ttrn 93 58),
    (0x45BA000000000000, .trel 93),
    (0x44BA000006AA4000, .tcfg 93 13 10 9)]
def wordsM0 : List (BitVec 64 × Instr) := [
    (0x0100009800000000, .mcfg { acc := 0, h := 0, sa := 0, sn := 38, oc := 0, z := 0, fmt := 0 }),
    (0x02A8009800000000, .mscl { acc := 21, h := 0, sa := 0, sn := 38, oc := 0, z := 0, fmt := 0 }),
    (0x03002D9B49000000, .mlds { acc := 0, h := 0, sa := 45, sn := 38, oc := 13, z := 0, fmt := 9 }),
    (0x04002D9B42000000, .mldsT { acc := 0, h := 0, sa := 45, sn := 38, oc := 13, z := 0, fmt := 2 }),
    (0x0506ED0340000000, .mldsh { acc := 0, h := 27, sa := 45, sn := 0, oc := 13, z := 0, fmt := 0 }),
    (0x06002D9B43000000, .mldsp { acc := 0, h := 0, sa := 45, sn := 38, oc := 13, z := 0, fmt := 3 }),
    (0x0700000000000000, .mswp { acc := 0, h := 0, sa := 0, sn := 0, oc := 0, z := 0, fmt := 0 }),
    (0x1100000000000000, .mcan { acc := 0, h := 0, sa := 0, sn := 0, oc := 0, z := 0, fmt := 0 }),
    (0x08A82D9B5A000000, .mstr { acc := 21, h := 0, sa := 45, sn := 38, oc := 13, z := 1, fmt := 10 }),
    (0x09A82D9B51000000, .mstrT { acc := 21, h := 0, sa := 45, sn := 38, oc := 13, z := 1, fmt := 1 }),
    (0x0AAEED0350000000, .mstrh { acc := 21, h := 27, sa := 45, sn := 0, oc := 13, z := 1, fmt := 0 }),
    (0x0BA82D9B58000000, .mgrp { acc := 21, h := 0, sa := 45, sn := 38, oc := 13, z := 1, fmt := 8 }),
    (0x0CA82D9B52000000, .msps { acc := 21, h := 0, sa := 45, sn := 38, oc := 13, z := 1, fmt := 2 }),
    (0x0DA8000000000000, .mza { acc := 21, h := 0, sa := 0, sn := 0, oc := 0, z := 0, fmt := 0 }),
    (0x0EA82D9B40000000, .mwra { acc := 21, h := 0, sa := 45, sn := 38, oc := 13, z := 0, fmt := 0 }),
    (0x0FA82D9804000000, .mrda { acc := 21, h := 0, sa := 45, sn := 38, oc := 0, z := 0, fmt := 4 }),
    (0x10A82D9809000000, .mrds { acc := 21, h := 0, sa := 45, sn := 38, oc := 0, z := 0, fmt := 9 })]
def wordsL0 : List (BitVec 64 × Instr) := [
    (0x01072EDD379BD700, .ldB { r := 57, sp := 1, xi := 13, b := 46, off := 638174, oc := 11, svc := 2, o := 0 }),
    (0x02072EDD379BD700, .ldBu { r := 57, sp := 1, xi := 13, b := 46, off := 638174, oc := 11, svc := 2, o := 0 }),
    (0x03072EDD379BD700, .ldH { r := 57, sp := 1, xi := 13, b := 46, off := 638174, oc := 11, svc := 2, o := 0 }),
    (0x04072EDD379BD700, .ldHu { r := 57, sp := 1, xi := 13, b := 46, off := 638174, oc := 11, svc := 2, o := 0 }),
    (0x05072EDD379BD700, .ldW { r := 57, sp := 1, xi := 13, b := 46, off := 638174, oc := 11, svc := 2, o := 0 }),
    (0x06072EDD379BD700, .ldWu { r := 57, sp := 1, xi := 13, b := 46, off := 638174, oc := 11, svc := 2, o := 0 }),
    (0x07072EDD379BD700, .ldD { r := 57, sp := 1, xi := 13, b := 46, off := 638174, oc := 11, svc := 2, o := 0 }),
    (0x08C83EDD379BD700, .vld { r := 1601, sp := 3, xi := 13, b := 46, off := 638174, oc := 11, svc := 2, o := 0 }),
    (0x0AC83EDD379BD700, .vldb { r := 1601, sp := 3, xi := 13, b := 46, off := 638174, oc := 11, svc := 2, o := 0 }),
    (0x09C8205D379BD746, .vlds { r := 1601, sp := 0, xi := 0, b := 46, off := 638174, oc := 11, svc := 2, o := 35 }),
    (0x0C03705D379BD700, .thdl { r := 27, sp := 2, xi := 0, b := 46, off := 638174, oc := 11, svc := 2, o := 0 }),
    (0x0D073EDD379BD746, .ldb { r := 57, sp := 3, xi := 13, b := 46, off := 638174, oc := 11, svc := 2, o := 35 }),
    (0x0E001EDD379BD700, .pld { r := 0, sp := 3, xi := 13, b := 46, off := 638174, oc := 11, svc := 2, o := 0 }),
    (0x0F07305D379BC000, .take { r := 57, sp := 2, xi := 0, b := 46, off := 638174, oc := 0, svc := 0, o := 0 }),
    (0x10073EDD379BC100, .peek { r := 57, sp := 3, xi := 13, b := 46, off := 638174, oc := 0, svc := 2, o := 0 }),
    (0x0B0BBB0000001700, .tld { t := 93, h := 27, oc := 11, svc := 2 })]
def wordsW0 : List (BitVec 64 × Instr) := [
    (0x01072EDD379BD700, .stB { r := 57, sp := 1, xi := 13, b := 46, off := 638174, oc := 11, svc := 2, o := 0 }),
    (0x02072EDD379BD700, .stH { r := 57, sp := 1, xi := 13, b := 46, off := 638174, oc := 11, svc := 2, o := 0 }),
    (0x03072EDD379BD700, .stW { r := 57, sp := 1, xi := 13, b := 46, off := 638174, oc := 11, svc := 2, o := 0 }),
    (0x04072EDD379BD700, .stD { r := 57, sp := 1, xi := 13, b := 46, off := 638174, oc := 11, svc := 2, o := 0 }),
    (0x05C83EDD379BD700, .vst { r := 1601, sp := 3, xi := 13, b := 46, off := 638174, oc := 11, svc := 2, o := 0 }),
    (0x06C8205D379BD746, .vsts { r := 1601, sp := 0, xi := 0, b := 46, off := 638174, oc := 11, svc := 2, o := 35 }),
    (0x08001EDD379BD700, .lbf { r := 0, sp := 3, xi := 13, b := 46, off := 638174, oc := 11, svc := 2, o := 0 }),
    (0x09001EDD379BC046, .putf { r := 0, sp := 3, xi := 13, b := 46, off := 638174, oc := 0, svc := 0, o := 35 }),
    (0x0A072EDD379BD746, .aadd { r := 57, sp := 1, xi := 13, b := 46, off := 638174, oc := 11, svc := 2, o := 35 }),
    (0x0B072EDD379BD746, .aminS { r := 57, sp := 1, xi := 13, b := 46, off := 638174, oc := 11, svc := 2, o := 35 }),
    (0x0C072EDD379BD746, .aminU { r := 57, sp := 1, xi := 13, b := 46, off := 638174, oc := 11, svc := 2, o := 35 }),
    (0x0D072EDD379BD746, .amaxS { r := 57, sp := 1, xi := 13, b := 46, off := 638174, oc := 11, svc := 2, o := 35 }),
    (0x0E072EDD379BD746, .amaxU { r := 57, sp := 1, xi := 13, b := 46, off := 638174, oc := 11, svc := 2, o := 35 }),
    (0x0F072EDD379BD746, .aand { r := 57, sp := 1, xi := 13, b := 46, off := 638174, oc := 11, svc := 2, o := 35 }),
    (0x10072EDD379BD746, .aor { r := 57, sp := 1, xi := 13, b := 46, off := 638174, oc := 11, svc := 2, o := 35 }),
    (0x11072EDD379BD746, .axor { r := 57, sp := 1, xi := 13, b := 46, off := 638174, oc := 11, svc := 2, o := 35 }),
    (0x12072EDD379BD746, .aswp { r := 57, sp := 1, xi := 13, b := 46, off := 638174, oc := 11, svc := 2, o := 35 }),
    (0x13072EDD379BD746, .acas { r := 57, sp := 1, xi := 13, b := 46, off := 638174, oc := 11, svc := 2, o := 35 }),
    (0x14072EDD379BD746, .afadd { r := 57, sp := 1, xi := 13, b := 46, off := 638174, oc := 11, svc := 2, o := 35 }),
    (0x15072EDD379BD746, .afmin { r := 57, sp := 1, xi := 13, b := 46, off := 638174, oc := 11, svc := 2, o := 35 }),
    (0x16072EDD379BD746, .afmax { r := 57, sp := 1, xi := 13, b := 46, off := 638174, oc := 11, svc := 2, o := 35 }),
    (0x070BBB0000001700, .tst { t := 93, h := 27, oc := 11, svc := 2 })]
def wordsC0 : List (BitVec 64 × Instr) := [
    (0x01E6D996BAFBBC00, .cpy { tok := 57, sa := 45, sd := 38, sl := 22, oc := 11, svc := 2, dl := 48879, md := 0 }),
    (0x02E6D996BAFBBC35, .cpy2 { tok := 57, sa := 45, sd := 38, sl := 22, oc := 11, svc := 2, dl := 48879, md := 53 }),
    (0x03E6D996BAFBBC05, .cpyt { tok := 57, sa := 45, sd := 38, sl := 22, oc := 11, svc := 2, dl := 48879, md := 5 }),
    (0x04E6D996BAFBBC35, .cpym { tok := 57, sa := 45, sd := 38, sl := 22, oc := 11, svc := 2, dl := 48879, md := 53 }),
    (0x05E6D996BAFBBC35, .cpyk { tok := 57, sa := 45, sd := 38, sl := 22, oc := 11, svc := 2, dl := 48879, md := 53 }),
    (0x06E6D996BAFBBC35, .cpyc { tok := 57, sa := 45, sd := 38, sl := 22, oc := 11, svc := 2, dl := 48879, md := 53 }),
    (0x07E6D996BAFBBC03, .cpya { tok := 57, sa := 45, sd := 38, sl := 22, oc := 11, svc := 2, dl := 48879, md := 3 }),
    (0x08E6D996BAFBBC35, .cpyg { tok := 57, sa := 45, sd := 38, sl := 22, oc := 11, svc := 2, dl := 48879, md := 53 }),
    (0x09E6D996BAFBBC00, .cpys { tok := 57, sa := 45, sd := 38, sl := 22, oc := 11, svc := 2, dl := 48879, md := 0 }),
    (0x0AE6D996BAFBBC00, .cpyf { tok := 57, sa := 45, sd := 38, sl := 22, oc := 11, svc := 2, dl := 48879, md := 0 }),
    (0x0BE6D996BAFBBC01, .pref { tok := 57, sa := 45, sd := 38, sl := 22, oc := 11, svc := 2, dl := 48879, md := 1 }),
    (0x0CE6D996BAFBBD35, .collRs { tok := 57, sa := 45, sd := 38, sl := 22, oc := 11, svc := 2, dl := 48879, md := 309 }),
    (0x0EE6D996BAFBBD35, .collAr { tok := 57, sa := 45, sd := 38, sl := 22, oc := 11, svc := 2, dl := 48879, md := 309 }),
    (0x0DE6D996BAFBBC35, .collAg { tok := 57, sa := 45, sd := 38, sl := 22, oc := 11, svc := 2, dl := 48879, md := 53 }),
    (0x0FE6D996BAFBBC35, .collBc { tok := 57, sa := 45, sd := 38, sl := 22, oc := 11, svc := 2, dl := 48879, md := 53 }),
    (0x10E6D00000000000, .spill { tok := 57, sa := 45, sd := 0, sl := 0, oc := 0, svc := 0, dl := 0, md := 0 }),
    (0x11E6D00000000000, .fill { tok := 57, sa := 45, sd := 0, sl := 0, oc := 0, svc := 0, dl := 0, md := 0 }),
    (0x12E40996BAFBBC00, .zfill { tok := 57, sa := 0, sd := 38, sl := 22, oc := 11, svc := 2, dl := 48879, md := 0 }),
    (0x13E4000000000000, .ccan { tok := 57, sa := 0, sd := 0, sl := 0, oc := 0, svc := 0, dl := 0, md := 0 })]
def wordsY0 : List (BitVec 64 × Instr) := [
    (0x0000000006FBBE00, .fence 0xBEEF 4),
    (0x000000000AD98000, .ownE 45 38),
    (0x000000000ED98000, .ownP 45 38),
    (0x0000000012DA0000, .wchk 5 45),
    (0x0000000016000000, .weng 2),
    (0x000000001AD9AC00, .bar 45 38 11),
    (0x000000001ED9AC00, .barc 45 38 11),
    (0x0000000022D9AD60, .sig 45 38 11 22),
    (0x0000000026D9AD64, .wsig 45 38 11 22 4),
    (0x000000002AD9AD64, .wsiga 45 38 11 22 4),
    (0x000000002C098000, .tickw 38),
    (0x0000000030000000, .yield),
    (0x0000000036D996A0, .alloc 45 38 22 true false true),
    (0x000000003AD00000, .free 45),
    (0x000000003ED00000, .renew 45),
    (0x0000000042DBEEF0, .mark 45 0xBEEF),
    (0x0000000046D00000, .hint 45),
    (0x000000004AD40000, .hibq 45 1),
    (0x000000004ECD2000, .qbind 5 38 9)]

/-- Every word decodes to its instruction, and the encoder gives the word back (03 R66 to R84). -/
def reads (k : SlotKind) (l : List (BitVec 64 × Instr)) : Bool :=
  l.all (fun p => decide ((decode k p.1).toOption = some p.2 ∧ encode p.2 = p.1))
theorem test_wordsS0 : reads .S wordsS0 = true := by decide +kernel
theorem test_wordsS1 : reads .S wordsS1 = true := by decide +kernel
theorem test_wordsS2 : reads .S wordsS2 = true := by decide +kernel
theorem test_wordsV0 : reads .V wordsV0 = true := by decide +kernel
theorem test_wordsV1 : reads .V wordsV1 = true := by decide +kernel
theorem test_wordsV2 : reads .V wordsV2 = true := by decide +kernel
theorem test_wordsM0 : reads .M wordsM0 = true := by decide +kernel
theorem test_wordsL0 : reads .L wordsL0 = true := by decide +kernel
theorem test_wordsW0 : reads .W wordsW0 = true := by decide +kernel
theorem test_wordsC0 : reads .C wordsC0 = true := by decide +kernel
theorem test_wordsY0 : reads .Y wordsY0 = true := by decide +kernel

/-! Small states. -/

/-- A unit on strand 0 of one core of one die, its checks made: s1 = 5, s2 = -3, s3 = 0x8000…, s10 a scratchpad address, s11 an
address in extent x1, s12 one in the die window; allocations of 4 granules at 0; tile group 0 configured FP32, group 1 BSE9;
h3 names 4 FP32 rows at the start of x1. -/
def tiny : State :=
  { State.reset with
    u := { Strand.idle ⟨0, 0, 0, 0⟩ with
      who := ⟨1, 0⟩, st := .ready, pc := 8,
      regs := { Regs.reset with
        s := [(1, 5), (2, -3), (3, 0x8000000000000000), (4, 1), (5, 64), (10, 64), (11, mkPaddr 3 1 64), (12, mkPaddr 2 0 64),
              (20, 0x1234), (22, 512), (23, 300), (24, 320), (63, 9)],
        t := [(0, ⟨true, 16, 64, 1, false, ⟨1, 0⟩⟩), (1, ⟨true, 4, 36, 8, false, ⟨1, 0⟩⟩)],
        v := [(0, ⟨0x3F800000, 1⟩), (16, ⟨0x0102, 8⟩)],
        h := [(3, BitVec.ofNat 256 ((mkPaddr 3 1 0).toNat + 2 ^ 64 * 3 + 2 ^ 68 * 64 + 2 ^ 80 * 64 + 2 ^ 112))],
        x := [(1, mkExt 0x20000 0x1000 true true false false 0 0 0 0), (2, mkExt 0x30000 0x1000 true false false false 0 0 0 0)],
        sr := { Specials.reset with handler := 40 } },
      own := { Owned.reset with array := true, nacc := 24 } },
    strands := [], cores := [], dies := [], checked := true,
    core := { Core.reset 0 0 0 with
      allocs := [⟨⟨1, 0⟩, 0, 4, false, false, false, false, 1000, 2000, 0, [0, 1, 2, 3, 4, 5, 6, 7]⟩],
      matrix := { Matrix.reset with owner := some ⟨1, 0⟩ } },
    die := { Die.reset 0 with cycle := 100 },
    work := { Work.reset with ctxs := [⟨0, 1, false, 0, 1, 4, 1, 0, 0, 0, 64, 2, [], 0, false, false, false⟩] } }

/-- The same unit before its bundle's checks. -/
def fresh : State := { tiny with checked := false }

theorem tiny_passes (i : Instr) : tiny.Passes i := .inl rfl

/-! Witnesses: for each statement with hypotheses, a state and operands that meet them, clause by clause. -/

/-- The statements on arithmetic, control, vectors, commands and frames suppose only that the instruction passes its checks: `tiny` passes every one, and before the
checks are made an instruction of each kind of slot passes them. -/
theorem witness_passes : (∀ i, tiny.Passes i) ∧ fresh.Passes (.add 1 2 3) ∧ fresh.Passes (.vadd ⟨0, 0, 0, 0, 0, 0, 0, 1⟩) ∧
    fresh.Passes (.mza ⟨0, 0, 0, 0, 0, 0, 0⟩) ∧ fresh.Passes (.ldW ⟨7, 0, 0, 10, 0, 0, 0, 0⟩) ∧
    fresh.Passes (.stW ⟨7, 3, 1, 11, 0, 0, 0, 0⟩) ∧ fresh.Passes (.cpy ⟨9, 1, 2, 3, 0, 0, 0, 0⟩) ∧ fresh.Passes .yield :=
  ⟨tiny_passes, .inr (by decide +kernel), .inr (by decide +kernel), .inr (by decide +kernel), .inr (by decide +kernel),
    .inr (by decide +kernel), .inr (by decide +kernel), .inr (by decide +kernel)⟩

/-- `tiny` with a loop stack. -/
def looping (l : List Loop) : State := { tiny with u := { tiny.u with loops := l } }

/-- A LOOP whose body leaves the innermost one, and one that fits with six levels open; an index that is the last bundle of a
body or not, and a level with iterations left or not; a bundle with a transfer and one without. -/
theorem witness_LoopStack : (tiny.Passes (.loop 1 4) ∧ tiny.Passes (.loopi 0 4)) ∧
    (let six : List Loop := List.replicate 6 ⟨5, 10, 3, 0⟩
      let s : State := { looping six with checked := false }
      s.checked = false ∧ s.hdr.pop = 0 ∧ s.u.regs.sr.chk = 0 ∧ s.u.loops = ⟨5, 10, 3, 0⟩ :: List.replicate 5 ⟨5, 10, 3, 0⟩ ∧
      (Instr.loop 1 6).wellFormed = true ∧ (Instr.loopi 1 7).wellFormed = true ∧ s.u.pc.toNat + 6 = 5 + 10 - 1 ∧
      5 + 10 - 1 < s.u.pc.toNat + 7 ∧ s.u.loops.length = 6 ∧ s.S 1 ≠ 0) ∧
    (let top : Loop := ⟨5, 4, 3, 1⟩; 8 = top.start.toNat + top.len.toNat - 1 ∧ 7 ≠ top.start.toNat + top.len.toNat - 1 ∧
      top.index.toNat + 1 < top.count.toNat ∧ top.count.toNat ≤ (2 : Word).toNat + 1) ∧
    ((looping [⟨5, 4, 3, 1⟩]).hdr.pop = 0 ∧ (looping [⟨5, 4, 3, 1⟩]).u.target = none) ∧
    ({ tiny with u := { tiny.u with target := some 3 } } : State).u.target = some 3 :=
  ⟨⟨.inl rfl, .inl rfl⟩, by decide +kernel, by decide +kernel, ⟨rfl, rfl⟩, rfl⟩

/-- 15 R344: LOOPI 0 goes on behind its body, and the back-edge rule counts the level round it whose last bundle that body ends at. -/
theorem test_emptyLoop : (match exec (.loopi 0 6) (looping [⟨5, 10, 3, 0⟩]) with
    | .next t => decide (t.u.target = some 5 ∧ t.u.loops = [⟨5, 10, 3, 1⟩])
    | _ => false) = true := by decide +kernel

theorem witness_LoopBreaks : ((looping [⟨5, 4, 3, 0⟩]).Passes .lbrk ∧ (looping [⟨5, 4, 3, 0⟩]).u.loops = [⟨5, 4, 3, 0⟩] ∧
    (looping [⟨5, 4, 3, 0⟩]).hdr.pop = 0) ∧
    (fresh.checked = false ∧ fresh.hdr.pop = 0 ∧ fresh.u.regs.sr.chk = 0 ∧ fresh.u.loops = []) :=
  ⟨⟨.inl rfl, rfl, rfl⟩, rfl, rfl, rfl, rfl⟩

theorem witness_SpecialRegisters : (0x009 : BitVec 12) ≠ 0x108 ∧ tiny.Passes (.mtsr 4 0x009) ∧ tiny.Passes (.mtsr 4 0x108) ∧
    fresh.Passes (.mtsr 4 0x009) := ⟨by decide, .inl rfl, .inl rfl, .inr (by decide +kernel)⟩

theorem witness_ChecksBeforeIssue :
    ((Instr.add 1 2 3).slotKind = some .S ∧ (Instr.add 1 2 3).wellFormed = true ∧ privilegedOp (.add 1 2 3) = false ∧
      specialTrap (.add 1 2 3) = none ∧ fresh.entryTrap 0 (.add 1 2 3) = none ∧ fresh.hdr.pop = 0 ∧ fresh.u.regs.sr.chk = 0) ∧
    (let i : Instr := .vabs ⟨0, 0, 3, 0, 0, 0, 0, 1⟩;
      i.slotKind = some .V ∧ fresh.checked = false ∧ i.clean ≠ i) ∧
    (let i : Instr := .getx 1 5;
      privilegedOp i = true ∧ fresh.u.privileged = false ∧ fresh.checked = false ∧ i.clean = i) ∧
    (let i : Instr := .loop 1 0;
      i.slotKind = some .S ∧ i.clean = i ∧ i.inRange = false ∧ privilegedOp i = false) ∧
    (let i : Instr := .mza ⟨0, 0, 0, 0, 0, 0, 0⟩;
      let s : State := { fresh with core := { fresh.core with matrix := Matrix.reset } };
      i.slotKind = some .M ∧ i.wellFormed = true ∧ s.checked = false ∧ s.hdr.pop = 0 ∧ s.core.matrix.owner ≠ some s.u.who) ∧
    (let f : VR := ⟨32, 32, 33, 0, 0, 0, 0, 1⟩;
      let s : State := { fresh with slot := 1 };
      (Instr.vadd f).wellFormed = true ∧ s.checked = false ∧ s.slot = 1 ∧ s.hdr.pop = 0 ∧ s.u.regs.sr.chk = 0 ∧ f.cnt = 0 ∧
      f.d.toNat ≤ f.a.toNat ∧ f.d.toNat ≤ f.b.toNat ∧ (∀ j, (s.u.latch j).bound = false) ∧
      s.u.configured (f.d.toNat / 16) = false) := by
  refine ⟨by decide +kernel, by decide +kernel, by decide +kernel, by decide +kernel, by decide +kernel, ?_⟩
  refine ⟨by decide +kernel, rfl, rfl, rfl, rfl, rfl, by decide, by decide, fun j => rfl, by decide +kernel⟩

theorem witness_AddressChecks :
    (fresh.checked = false ∧ fresh.hdr.pop = 0 ∧ fresh.u.regs.sr.chk = 0) ∧
    (let f : MemF := ⟨7, 3, 5, 11, 0, 0, 0, 0⟩;
      (Instr.ldB f).wellFormed = true ∧ (Instr.stD f).wellFormed = true ∧ (Instr.aadd f).wellFormed = true ∧
      (∃ t, fresh.memSpan 4 f 0 kRead true = .error t) ∧ (∃ t, fresh.memSpan 5 f 3 kWrite false = .error t) ∧
      ∃ t, fresh.memSpan 5 f 3 kBoth true = .error t) ∧
    (let x := tiny.u.ext 1;
      let a (o : Nat) := mkPaddr 3 1 o;
      pSpace (a 0) = 3 ∧ extLen (tiny.u.ext 5) = 0 ∧ pSpace (mkPaddr 3 5 0) = 3 ∧ extLen x ≠ 0 ∧ extLen x < pOff (a 0xFF9) + 2 ^ 3 ∧
      pOff (a 0xFF8) + 2 ^ 3 ≤ extLen x ∧ (kBoth.rd = true → extRd x = true) ∧ (kBoth.wr = true → extWr x = true) ∧
      tiny.cutAway x (pOff (a 0xFF8)) (2 ^ 3) = false ∧ tiny.cutAway x (pOff (a 0xFF4)) (2 ^ 3) = false ∧
      pOff (a 0xFF8) % 2 ^ 3 = 0 ∧ pOff (a 0xFF4) % 2 ^ 3 ≠ 0 ∧ pOff (a 0xFF4) + 2 ^ 3 ≤ extLen x) ∧
    (extWr (tiny.u.ext 2) = false ∧ pOff (mkPaddr 3 2 0xFF8) + 2 ^ 3 ≤ extLen (tiny.u.ext 2)) := by
  refine ⟨by decide, ?_, by decide +kernel, by decide +kernel⟩
  refine ⟨by decide +kernel, by decide +kernel, by decide +kernel, ⟨_, rfl⟩, ⟨_, rfl⟩, ⟨_, rfl⟩⟩

/-- `tiny` inside its handler, to return to bundle 9 with one write parked. -/
def handling : State := tiny.modU (fun u => u.modTrap (fun t =>
  { t with
    inHandler := true, ridx := 9, lastiss := 2,
    ifq := [⟨.scalar 4, 0, 0, 3, false, false, false, none, [⟨7, 0⟩], 0, 4, 0, 8, 0, 0, [], 0, [0], false⟩] }))

/-- `tiny` on a firmware core, with one unit saved at offset 0 of global memory. -/
def firmware (valid : Bool) : State :=
  { tiny with
    u := { tiny.u with privileged := true },
    mem := tiny.mem.poke 0 (headerBytes { readAreaHeader tiny.mem 0 with valid := valid, ridx := 12 }),
    work := { tiny.work with saved := [⟨⟨2, 0⟩, 0, 0, 0, Owned.reset, [], true, false, Kept.reset, false, 0⟩] } }

theorem witness_TrapsAndReturns :
    (tiny.Passes (.trap 3) ∧ ¬ ((3 : BitVec 32) = 0 ∧ tiny.u.trap.inHandler = true)) ∧
    (tiny.Passes (.trap 0) ∧ ¬ ((0 : BitVec 32) = 0 ∧ tiny.u.trap.inHandler = true)) ∧
    (handling.Passes (.trap 0) ∧ handling.u.trap.inHandler = true ∧ handling.u.trap.pend = none ∧ handling.hdr.pop = 0) ∧
    tiny.Passes .endUnit ∧
    (let s := firmware true;
      s.Passes .rft ∧ s.hdr.pop = 0 ∧ ∃ sv, s.work.saved = [sv] ∧ sv.area = areaOf s.u.regs.pr.savebase ∧
      sv.own.ctx = s.u.own.ctx ∧ s.core.at s.u.place = true ∧ s.u.place.cluster < 3 ∧ s.die.num = s.u.place.die ∧
      sv.die = s.u.place.die ∧ s.mayResume sv = true ∧ s.memberFits (.saved sv) s.core = true ∧ sv.cause ≠ 0x11 ∧
      (∀ u ∈ s.strands, u.st.onStrand = true → u.who.launch ≠ sv.who.launch) ∧
      (∀ u ∈ s.strands, groupsOf u sv.who = []) ∧ (readAreaHeader s.mem sv.area).pendf = false) ∧
    (let s : State := { firmware false with checked := false };
      s.checked = false ∧ s.u.privileged = true ∧ s.hdr.pop = 0 ∧ s.u.regs.sr.chk = 0 ∧
      (readAreaHeader s.mem (areaOf s.u.regs.pr.savebase)).valid = false) := by
  refine ⟨⟨.inl rfl, by decide⟩, ⟨.inl rfl, by decide⟩, ⟨.inl rfl, rfl, rfl, rfl⟩, .inl rfl, ⟨.inl rfl, rfl, _, rfl, ?_⟩, ?_⟩
  · decide +kernel
  · decide +kernel

theorem witness_ExceptionsDeliver :
    (delegable 0x15 = true ∧ tiny.u.regs.sr.handler ≠ 0 ∧ tiny.u.trap.inHandler = false ∧ tiny.u.trap.first = false ∧
      tiny.u.trap.late = none ∧ tiny.u.flights = [] ∧ tiny.u.accs = [] ∧ tiny.waiters = []) ∧
    (delegable 0x01 = false ∧ (0x01 : Nat) ≠ 0x09 ∧ tiny.core.copiesOf tiny.u.who = []) ∧
    (let s : State := { tiny with u := { tiny.u with trap := { tiny.u.trap with first := true } } };
      s.u.trap.first = true ∧ s.u.trap.late = none ∧ s.u.privileged = false) ∧
    (let s := tiny.landS 0 4 7 3;
      s.u.trap.inHandler = false ∧ s.u.flights ≠ [] ∧
      ∀ f ∈ s.u.flights, s.now < f.land ∧ f.next ≤ f.cnt ∧ f.same = false ∧ f.isEntry = true) := by
  refine ⟨by decide +kernel, by decide +kernel, by decide +kernel, by decide +kernel⟩

theorem witness_ResultsLand :
    (let s := tiny.landS 0 7 1 2;
      s.u.trap.settle = none ∧ (0 : Nat) < 1 ∧ s.u.flights ≠ [] ∧
      (∀ f ∈ s.u.flights, f.dest ≠ .scalar (9 : BitVec 6).toNat ∧ f.fault = none ∧ f.flags = 0) ∧ wfTab 0 s.u.regs.s = true) ∧
    (let f : Flight := ⟨.scalar 4, 0, 0, 118, false, false, true, some ⟨0x0A, 0⟩, [⟨7, 0⟩], 0, 4, 0, 8, 0, 0, [], 0, [0], false⟩;
      f.fault = some ⟨0x0A, 0⟩ ∧ f.cnt = 0 ∧ f.next = 0 ∧ f.same = false ∧ f.land ≤ 118) ∧
    (let f : Flight := ⟨.vector 16, 3, 1, 100, false, false, false, none, [⟨7, 1⟩, ⟨8, 1⟩, ⟨9, 1⟩], 0, 16, 1, 8, 0, 0, [], 0, [0, 0, 0, 0], false⟩;
      f.dest = .vector 16 ∧ f.fault = none ∧ f.same = false ∧ f.next ≤ f.cnt ∧ f.rows.length = f.cnt + 1 - f.next ∧
      (99 : Nat) < f.land ∧ (f.land ≤ 101 ∧ 101 - f.land < f.cnt - f.next) ∧ (f.land ≤ 102 ∧ f.cnt - f.next ≤ 102 - f.land)) := by
  decide +kernel

theorem witness_VectorMoves : (let g : VS := ⟨0, 0, 0, 0x3F, 0, 0⟩; (g.imm.toNat / 4 % 64 + 1) * 2 ^ (g.imm.toNat % 4) ≤ 64 → False) ∧
    (let g : VS := ⟨0, 0, 0, 0x1F, 0, 0⟩; (g.imm.toNat / 4 % 64 + 1) * 2 ^ (g.imm.toNat % 4) ≤ 64) := by decide +kernel;

theorem witness_TileOperations :
    ((tiny.u.group 2).conf = false ∨ (tiny.u.group 2).dirty = false ∨ (tiny.u.group 2).holder = tiny.u.who) ∧
    (tiny.u.group 0).holder = tiny.u.who := by decide +kernel

/-- A matrix command of the unit that loads a plane, running. -/
def loadCmd : MCmd := ⟨⟨1, 0⟩, encode (.mlds ⟨0, 0, 10, 1, 0, 0, 1⟩), 64, 16, 0, 0, 15, 0, false, 8, 90, 0, true, 95, 0, false, [], 0, 0, [], [], 128, false, 0⟩

/-- A copy command of the unit with token s7, waiting or running, of operation `op`. -/
def copyCmd (op : Nat) (running : Bool) : CCmd :=
  ⟨⟨1, 0⟩, op, 7, mkPaddr 3 1 0, mkPaddr 3 1 256, 128, 0, 0, 0, 0, 0, 8, 90, 0, running, false, [0], 64, 0, 0, none, 0, false, [], [], [], [],
    false, false, 0, 0, 0, 0, 0, false, 0⟩

theorem witness_CancelsTakeCommandsOut :
    (let s : State := { tiny with
        core := { tiny.core with matrix := { tiny.core.matrix with
          buf := [loadCmd], shadow := { Plane.none with st := .loading } } } };
      s.Passes (.mcan ⟨0, 0, 0, 0, 0, 0, 0⟩) ∧
      s.core.matrix.buf.any (fun c => decide (c.who = s.u.who) && c.running && isLoadOp (mOp c.word)) = true ∧
      s.core.matrix.shadow.st = .loading) ∧
    (let s : State := { tiny with core := { tiny.core with cbuf := [copyCmd 1 true] } };
      let g : CC := ⟨7, 0, 0, 0, 0, 0, 0, 0⟩;
      s.Passes (.ccan g) ∧ s.core.cbuf.find? (fun c => decide (c.who = s.u.who) && c.tok = g.tok.toNat) = some (copyCmd 1 true) ∧
      (copyCmd 1 true).coll = false ∧ g.tok ≠ 0 ∧ (copyCmd 1 true).op ≠ 5 ∧ wfTab 0 s.u.regs.s = true) ∧
    tiny.core.cbuf.find? (fun c => decide (c.who = tiny.u.who) && c.tok = (7 : BitVec 6).toNat) = none := by
  refine ⟨⟨.inl rfl, by decide +kernel, rfl⟩, ⟨.inl rfl, by decide +kernel, rfl, by decide, by decide +kernel⟩, rfl⟩

theorem witness_ScalarLoads :
    (let f : MemF := ⟨7, 0, 0, 10, 0, 0, 0, 0⟩;
      ∃ sp, tiny.memSpan 4 f 3 kRead true = .ok sp ∧ sp.space = 0 ∧ (∀ a ∈ sp.homes, tiny.mem.eccOf a = .clean)) ∧
    (let f : MemF := ⟨7, 3, 1, 11, 0, 0, 0, 0⟩;
      ∃ sp, tiny.memSpan 4 f 3 kRead true = .ok sp ∧ sp.space ≠ 0) := by
  refine ⟨⟨_, rfl, rfl, by decide +kernel⟩, ⟨_, rfl, by decide⟩⟩

theorem witness_VectorAndTileLoads :
    (let f : MemF := ⟨3, 0, 0, 10, 0, 0, 0, 0⟩;
      ∃ sps, tiny.rowSpans 4 f 0 false = .ok sps ∧ f.sp = 0 ∧ ∀ a ∈ sps.flatMap Span.homes, tiny.mem.eccOf a = .clean) ∧
    (let f : MemF := ⟨3, 3, 1, 11, 0, 0, 0, 5⟩;
      (∃ sps, tiny.rowSpans 4 f 1 false = .ok sps) ∧ (∃ sps, tiny.rowSpans 4 f 2 false = .ok sps) ∧ f.sp ≠ 0) ∧
    (∃ sps, tiny.tilePlan 4 ⟨0, 3, 0, 0⟩ false = .ok sps) ∧
    (∃ sp, tiny.memSpan 4 ⟨3, 3, 1, 11, 0, 0, 0, 0⟩ 5 kRead true = .ok sp) ∧
    (∃ sp, tiny.check 4 (tiny.effAddr ⟨0, 3, 1, 11, 0, 0, 0, 0⟩) 1 kRead 0 = .ok sp) ∧
    (∃ t, tiny.check 4 (tiny.effAddr ⟨0, 3, 5, 11, 0, 0, 0, 0⟩) 1 kRead 0 = .error t) := by
  refine ⟨⟨_, rfl, rfl, by decide +kernel⟩, ⟨⟨_, rfl⟩, ⟨_, rfl⟩, by decide⟩, ⟨_, rfl⟩, ⟨_, rfl⟩, ⟨_, rfl⟩, ⟨_, rfl⟩⟩

/-- `tiny` with blocks of the block cache. -/
def blocks (l : List Block) : State := { tiny with core := { tiny.core with blocks := l } }
def aBlock (base lines : Nat) : Block := ⟨⟨1, 0⟩, base, lines, lines, List.replicate (64 * lines) 3, [5, 6], Cover.strict, 0, false⟩

theorem witness_BlockLoads :
    (let f : MemF := ⟨7, 3, 1, 11, 0, 0, 0, 4⟩;
      (tiny.S f.o).toNat = 1 ∧ (tiny.S 5).toNat = 64 ∧ (tiny.S 0).toNat = 0 ∧ 64 < (tiny.S 11).toNat ∧
      (∃ sp, tiny.check 4 (tiny.effAddr f) (64 * 1) kRead 6 = .ok sp ∧ sp.homes.headD 0 = 0x20040) ∧
      16 ≤ ((blocks ((List.range 16).map (fun k => aBlock (64 * k) 1))).core.blocks.filter (fun b => !b.leaving)).length ∧
      1024 < ((blocks [aBlock 0 1024]).core.blocks.map Block.lines).sum + 1 ∧
      (blocks [aBlock 0x20000 2]).core.blocks.any (fun b => decide (b.who = tiny.u.who) &&
        (b.base < 0x20040 + 64 * 1 && 0x20040 < b.base + 64 * b.lines)) = true ∧
      tiny.core.blocks.length < 16 ∧ tiny.core.blocks = []) := by
  refine ⟨by decide +kernel, by decide +kernel, by decide +kernel, by decide +kernel, ⟨_, rfl, by decide +kernel⟩, by decide +kernel,
    by decide +kernel, by decide +kernel, by decide +kernel, rfl⟩

theorem witness_StoresAndAtomicsPend :
    (let f : MemF := ⟨7, 3, 1, 11, 0, 0, 0, 5⟩;
      (∃ sp, tiny.memSpan 5 f 3 kWrite false = .ok sp) ∧ (∃ sps, tiny.rowSpans 5 f 0 true = .ok sps) ∧
      (∃ sps, tiny.rowSpans 5 f 1 true = .ok sps) ∧ ∃ sp, tiny.memSpan 5 f 3 kBoth true = .ok sp) ∧
    (∃ sps, tiny.tilePlan 5 ⟨0, 3, 0, 0⟩ true = .ok sps) ∧
    (let f : MemF := ⟨0, 3, 1, 11, 0, 0, 0, 0⟩;
      let a := tiny.effAddr f;
      let base := extBase (tiny.u.ext (pXi a)) + pOff a;
      ((blocks [aBlock base 1]).core.blocks.filter (fun b => !b.leaving)).find? (fun b => decide (b.who = tiny.u.who) && b.base = base) =
        some (aBlock base 1)) := by
  refine ⟨⟨⟨_, rfl⟩, ⟨_, rfl⟩, ⟨_, rfl⟩, ⟨_, rfl⟩⟩, ⟨_, rfl⟩, by decide +kernel⟩

/-- An outstanding access of the unit to 8 bytes at home 0x20040. -/
def wordSpan : Span := ⟨3, 1, 64, 8, List.range' 0x20040 8, none, false, 0, 0x20000⟩

/-- A row of 12 bytes from the middle of a word on. -/
def rowSpan : Span := ⟨3, 1, 68, 12, List.range' 0x20044 12, none, false, 0, 0x20000⟩
def pending (a : Act) : State :=
  { tiny with u := { tiny.u with accs := [⟨a, 0, [wordSpan], 5, 8, 1, 99, 0, false, [], []⟩] } }
def pendingRow : State :=
  { tiny with u := { tiny.u with accs := [⟨.store [List.replicate 12 1], 0, [rowSpan], 5, 8, 1, 99, 0, false, [], []⟩] } }

theorem witness_AccessesPerform :
    (let s := pending (.store [[1, 2, 3, 4, 5, 6, 7, 8]]);
      s.mem.wf = true ∧ s.eligible 0 = true ∧ wordSpan.homes.Nodup ∧ wordSpan.homes.length = 8 ∧ wordSpan.peer = none ∧
      (∀ h ∈ wordSpan.homes, h / 8 = wordSpan.homes.headD 0 / 8) ∧
      ∀ h ∈ wordSpan.homes, s.blockOf [] h = none ∧ s.mem.eccOf h = .clean) ∧
    (let s := pendingRow;
      s.mem.wf = true ∧ s.eligible 0 = true ∧ rowSpan.homes = List.range' 0x20044 12 ∧ 8 - 0x20044 % 8 < 12 ∧
      ∀ h ∈ rowSpan.homes, s.blockOf [] h = none ∧ s.mem.eccOf h = .clean) ∧
    (let s := pending (.load 7 8 true); s.eligible 0 = true ∧ (∀ h ∈ wordSpan.homes, s.mem.eccOf h = .clean) ∧ wfTab 0 s.u.regs.s = true) ∧
    (let s := pending (.atomic .cas 5 0 7); s.mem.wf = true ∧ s.eligible 0 = true ∧ wordSpan.homes = List.range' 0x20040 8 ∧
      0x20040 % 8 = 0 ∧ s.mem.eccOf 0x20040 = .clean ∧ wfTab 0 s.u.regs.s = true) := by
  decide +kernel

theorem witness_SynchronisationPends :
    (∃ sp, tiny.sigSpan (tiny.S 11) kBoth = .ok sp) ∧ (∃ sp, tiny.ownSpan (tiny.S 0) (tiny.S 22) = .ok sp ∧ sp.homes ≠ []) ∧
    (∃ sp, tiny.ownSpan (tiny.S 0) (tiny.S 0) = .ok sp) := by
  refine ⟨⟨_, rfl⟩, ⟨_, rfl, by decide +kernel⟩, ⟨_, rfl⟩⟩

theorem witness_WaitsComplete :
    ((tiny.S 0).toNat ≤ tiny.window.tick ∧ tiny.window.tick < 2 ^ 64 ∧ tiny.waiters = [] ∧ tiny.window.tick < (tiny.S 1).toNat) ∧
    (tiny.u.target = none ∧ tiny.u.loops = []) := by decide +kernel

/-- `tiny` with n allocations of one granule, of k chunks each. -/
def holding (n k : Nat) : State := { tiny with core := { tiny.core with
  allocs := (List.range n).map (fun i => ⟨⟨1, 0⟩, i, 1, false, false, false, false, 10, 50, 0, (List.range k).map (fun j => k * i + j)⟩) } }

theorem witness_Allocations :
    (tiny.S 0).toNat = 0 ∧ 320 < (tiny.S 22).toNat ∧ 1 ≤ (tiny.S 1).toNat ∧ (tiny.S 1).toNat ≤ 320 ∧ (tiny.S 4).toNat ≠ 0 ∧
    64 ≤ (holding 64 2).core.allocs.length ∧
    ((tiny.S 24).toNat = 320 ∧ tiny.core.allocs.length < 64 ∧ tiny.core.freeFor tiny.u.who < 2 * 320) ∧
    (tiny.core.allocs.length < 64 ∧ 2 * 5 ≤ tiny.core.freeFor tiny.u.who ∧ tiny.core.lowestBase tiny.u.who 5 = some 4) ∧
    (let c : Core := { tiny.core with allocs := [⟨⟨1, 0⟩, 160, 1, false, false, false, false, 10, 50, 0, [0, 1]⟩] };
      (tiny.S 23).toNat = 300 ∧ 2 * 300 ≤ c.freeFor tiny.u.who ∧ c.lowestBase tiny.u.who 300 = none) ∧
    tiny.core.allocBase tiny.u.who (tiny.S 0) = some ⟨⟨1, 0⟩, 0, 4, false, false, false, false, 1000, 2000, 0, [0, 1, 2, 3, 4, 5, 6, 7]⟩ := by
  decide +kernel

/-- `tiny` with latch q2 bound to channel x1 + 0, its ring of 4 KiB, and a header in memory that counts n items pushed. -/
def latched (n : Nat) : State :=
  { tiny with
    u := { tiny.u with regs := { tiny.u.regs with q := [(2, ⟨true, mkPaddr 3 1 0, 1, 0, none, none, some 2⟩)] } },
    mem := tiny.mem.poke 0x20000 [BitVec.ofNat 8 n] }

theorem witness_QueueLatches :
    (tiny.Passes (.qbind 2 0 1) ∧ tiny.Passes (.qbind 2 11 1) ∧ wfTab Latch.none tiny.u.regs.q = true ∧ (11 : BitVec 6) ≠ 0) ∧
    (∀ n ≤ 1, let l := (latched n).u.latch 2; l.bound = true ∧ l.head = none ∧ l.cause = none ∧ l.logn = some 2 ∧
      wfTab Latch.none (latched n).u.regs.q = true ∧
      (latched n).u.accs.any (fun a => match a.act with | .qhead p => p = 2 | _ => false) = false) ∧
    (let s : State := { latched 0 with u := { (latched 0).u with regs := { (latched 0).u.regs with x := [] } } };
      ∃ c, (s.engineReads 7 [((s.u.latch 2).chan, 64, 0)]).data = .error c) ∧
    (let s := latched 0; let l := s.u.latch 2;
      ∃ hs, (s.engineReads 7 [(l.chan, 64, 0)]).data = .ok hs ∧ bytesNat hs.flatten % 2 ^ 64 ≤ l.pos.toNat) ∧
    (let s := latched 1; let l := s.u.latch 2;
      ∃ hs bs, (s.engineReads 7 [(l.chan, 64, 0)]).data = .ok hs ∧ l.pos.toNat < bytesNat hs.flatten % 2 ^ 64 ∧
        ((s.engineReads 7 [(l.chan, 64, 0)]).st.engineReads 7 [(addOff l.chan (64 + 64 * (l.pos.toNat % 2 ^ 2)), 64, 0)]).data = .ok bs) := by
  refine ⟨⟨.inl rfl, .inl rfl, rfl, by decide⟩, by decide +kernel, ⟨_, rfl⟩, ⟨_, rfl, by decide +kernel⟩, ⟨_, _, rfl, by decide +kernel, rfl⟩⟩

/-- `tiny` with the word at the address in s11 (home 0x20040) holding v, FULL or EMPTY. -/
def worded (v : Word) (full : Bool) : State :=
  { tiny with mem := ((tiny.mem.poke 0x20040 (wordBytes v)).setFull 0x20040 full) }

theorem witness_Mailboxes : ∀ full, let s := worded 7 full; let f : MemF := ⟨7, 3, 1, 11, 0, 0, 0, 0⟩;
    ∃ sp, s.memSpan 4 f 3 kBoth true = .ok sp ∧ s.memSpan 5 f 3 kBoth true = .ok sp ∧ sp.peer = none ∧
    sp.homes = List.range' 0x20040 8 ∧ 0x20040 % 8 = 0 ∧ s.waiters = [] ∧ s.u.accs = [] ∧ s.mem.eccOf 0x20040 = .clean ∧
    s.mem.wf = true ∧ s.mem.isFull 0x20040 = full ∧ s.core.addsTo s.u.who s.now 0 [0x20040 / 8] = false ∧
    (chunksOf sp.homes).any s.heldChunk = false ∧ s.Passes (.take f) ∧
    s.Passes (.putf f) := by
  intro full
  cases full
  · exact ⟨_, rfl, rfl, rfl, rfl, rfl, rfl, rfl, by decide +kernel, by decide +kernel, by decide +kernel, rfl, by decide +kernel, .inl rfl, .inl rfl⟩
  · exact ⟨_, rfl, rfl, rfl, rfl, rfl, rfl, rfl, by decide +kernel, by decide +kernel, by decide +kernel, rfl, by decide +kernel, .inl rfl, .inl rfl⟩

/-- Whether an answer is the span given. -/
def givesSpan (e : Except Trap Span) (sp : Span) : Bool := match e with | .ok x => x = sp | .error _ => false

theorem witness_SignalsAndBarriers :
    (∀ v : Fin 8, let s := worded (BitVec.ofNat 64 v) false;
      givesSpan (s.sigSpan (s.S 11) kRead) wordSpan = true ∧
      givesSpan (s.sigSpan (s.S 11) kBoth) wordSpan = true ∧
      wordSpan.peer = none ∧ wordSpan.homes = List.range' 0x20040 8 ∧ s.waiters = [] ∧ s.u.accs = [] ∧
      s.core.addsTo s.u.who s.now 0 [0x20040 / 8] = false ∧ (chunksOf wordSpan.homes).any s.heldChunk = false ∧
      s.mem.eccOf 0x20040 = .clean ∧ s.mem.word 0x20040 = BitVec.ofNat 64 v ∧ s.S 1 = 5) ∧
    ((5 : Word).toNat ≤ (5 : Word).toNat ∧ ¬ (5 : Word).toNat ≤ (4 : Word).toNat ∧ (6 : Word) &&& 5 ≠ 5 ∧ (7 : Word) &&& 5 = 5 ∧
      (2 : Word) &&& 5 = 0 ∧ (4 : Word) &&& 5 ≠ 0 ∧ (4 : BitVec 4).toNat ≤ 4) ∧
    (let s := worded 4 false; s.mem.wf = true ∧ (s.S 1).toNat % 2 ^ 32 = 5 ∧ (s.mem.word 0x20040).toNat % 2 ^ 32 + 1 = 5) ∧
    (let s := worded 3 false; s.mem.wf = true ∧ (s.mem.word 0x20040).toNat % 2 ^ 32 + 1 < 5) := by
  refine ⟨by decide +kernel, by decide, by decide +kernel, by decide +kernel⟩

/-- Two strands of one core, each with a unit of priority 0; the one in front has held issue for a quantum. -/
def pair : State :=
  { tiny with
    strands := [{ tiny.u with place := ⟨0, 0, 0, 1⟩, who := ⟨1, 1⟩ }], core := { tiny.core with heldFor := 256 }, die := { tiny.die with cycle := 4096 } }

theorem witness_IssueIsHandedOver :
    (pair.holderReady = true ∧ pair.quantumOver = true ∧ ∃ v, pickBest pair.otherReady = some v ∧ v.place.strand = 1) ∧
    (let s : State := { tiny with
        core := { tiny.core with matrix := { tiny.core.matrix with buf := [{ loadCmd with running := false }] } },
        u := { tiny.u with st := .running, time := { tiny.u.time with mslack := 9 } }, strands := pair.strands,
        die := { tiny.die with cycle := 1000000 } };
      s.u.st = .running ∧ s.u.trap.settle = none ∧ s.waitsSlack = true ∧ s.nextSlots = [] ∧ s.core.holder = s.u.place.strand ∧
      (pickBest s.otherReady).isSome = true) := by
  refine ⟨⟨by decide +kernel, by decide +kernel, _, rfl, rfl⟩, by decide +kernel⟩

/-- `tiny` at a unit's first bundle, with soft stops pending. -/
def softly (n : BitVec 5) : State := tiny.modU (fun u =>
  { u with trap := { u.trap with soft := n, wdStart := 50, wdBound := 50 }, time := { u.time with fresh := true } })

theorem witness_SoftStops :
    (∀ n : BitVec 5, n ≠ 0 → (softly n).settleDue = false ∧ (softly n).softDue = true ∧ (softly n).watchdogDue = true) ∧
    (softly 8).u.trap.soft.getLsbD 3 = true ∧ (softly 1).core.copiesOf (softly 1).u.who = [] ∧ (softly 1).servedMine = false ∧
    (let s : State := { softly 1 with core := { tiny.core with cbuf := [copyCmd 1 true] } };
      s.settleDue = false ∧ s.softDue = true ∧ s.u.trap.soft.getLsbD 3 = false ∧ s.u.trap.kill = false ∧
      s.core.copiesOf s.u.who ≠ []) ∧
    (∀ unrec, let s : State := tiny.modU (fun u => { u with trap := { u.trap with settle := some 60, unrec := unrec } });
      s.settleDue = true ∧ s.u.trap.unrec = unrec) ∧
    (let s : State := { softly 1 with waiters := [⟨⟨1, 0⟩, 0x20040, .take, some 7⟩] }; s.watchdogDue = true ∧ s.servedMine = true) ∧
    tiny.u.st.onStrand = true ∧ tiny.u.st ≠ .ending := by
  refine ⟨by decide +kernel, by decide +kernel, by decide +kernel, by decide +kernel, by decide +kernel, by decide +kernel,
    by decide +kernel, by decide, by decide⟩

/-- A module that is up, a strand in front free, with one unit of its context saved at offset 0. -/
def resumable : State :=
  { tiny with
    u := Strand.idle ⟨0, 0, 0, 0⟩,
    core := Core.reset 0 0 0,
    die := { tiny.die with fwcore := 11 },
    mem := tiny.mem.poke 0 (headerBytes { readAreaHeader tiny.mem 0 with valid := true, ridx := 12 }),
    window := { tiny.window with level := 3 },
    work := { tiny.work with saved := [⟨⟨2, 0⟩, 0, 0, 0, Owned.reset, [], true, false, Kept.reset, false, 0⟩] } }

theorem witness_UnitsGoAndResume :
    (let s : State := tiny.modU (fun u => { u with st := .ending }); s.endDone = true) ∧
    (∃ sv, resumable.work.saved.find? (fun x => decide (x.who = ⟨2, 0⟩) && x.firmware) = some sv) ∧
    (let s : State := { tiny with
        u := { tiny.u with trap := { tiny.u.trap with settle := some 10 } }, core := { tiny.core with cbuf := [copyCmd 1 true] },
        die := { tiny.die with cycle := 65546 } };
      s.u.trap.settle = some 10 ∧ 10 + 65536 ≤ s.now ∧ s.core.copiesOf s.u.who = [copyCmd 1 true] ∧ (copyCmd 1 true).coll = false ∧
      (copyCmd 1 true).tok ≠ 0 ∧ (copyCmd 1 true).op ≠ 5 ∧ wfTab 0 s.u.regs.s = true) ∧
    (let s := resumable; ∃ sv x, s.work.saved = [sv] ∧ s.u.st = .absent ∧ s.core.at s.u.place = true ∧ s.die.num = s.u.place.die ∧
      sv.die = s.u.place.die ∧ s.dieAt s.u.place.die = some x ∧ s.dieServes s.u.place.die = true ∧ x.coreServes s.core = true ∧
      s.reservedCore x sv.who.launch sv.own.prio s.core = false ∧ s.u.place.cluster < 3 ∧
      (∀ u ∈ s.strands, u.st.onStrand = true → u.who.launch ≠ sv.who.launch) ∧
      s.mayResume sv = true ∧ s.memberFits (.saved sv) s.core = true ∧ sv.cause ≠ 0x11 ∧ sv.own.ctx = s.u.own.ctx ∧
      (∀ u ∈ s.strands, groupsOf u sv.who = []) ∧ (readAreaHeader s.mem sv.area).pendf = false) := by
  refine ⟨by decide +kernel, ⟨_, rfl⟩, by decide +kernel, ⟨_, _, rfl, rfl, rfl, rfl, rfl, rfl, ?_⟩⟩
  decide +kernel

theorem witness_TimersAndFlushes :
    (tiny.core.die = tiny.die.num ∧ 349999 < tiny.die.retn ∧ 168000 * tiny.die.freq ≤ 349999 * 1400 ∧ tiny.die.lastRev = none) ∧
    (let x : Die := { tiny.die with lastRev := some 90 }; x.cycle < 90 + 1400 ∧ 167999 * 1400 < 168000 * x.freq) ∧
    (let s : State := { tiny with
        u := { tiny.u with regs := { tiny.u.regs with t := [(3, ⟨true, 4, 64, 1, true, ⟨2, 0⟩⟩)] } }, work := resumable.work };
      wfTab TGroup.none s.u.regs.t = true ∧ foreignDirty s.u = [3] ∧ ∃ sv ∈ s.work.saved, sv.who = (s.u.group 3).holder) := by
  refine ⟨by decide +kernel, by decide +kernel, by decide +kernel, by decide +kernel, _, List.mem_singleton.2 rfl, by decide +kernel⟩

/-- Whether an engine's read gives bytes. -/
def readsOk (r : EngineRead) : Bool := match r.data with | .ok _ => true | .error _ => false

/-- The completion code of the error that an engine's read ends with. -/
def errorCode (r : EngineRead) : Option Nat := match r.data with | .ok _ => none | .error e => some (codeOf e.cause)

/-- `tiny` with one command of the array, its bands gated or awake, and a plane loaded or not. -/
def arrayed (c : MCmd) (gated : List Nat) (valid : Bool) : State :=
  { tiny with
    core := { tiny.core with
      matrix := { tiny.core.matrix with
        buf := [c], gated := gated,
        active := if valid then { Plane.none with st := .valid, fmt := 1, mask := 15, kact := 128 } else Plane.none } },
    die := { tiny.die with cycle := 1000 } }

/-- MLDS of 16 FP32 rows, waiting or running, MSTR of one FP32 row into tile 0, and MZA of tile 0. -/
def mldsCmd : MCmd := { loadCmd with running := false, sav := 64, snv := 1 }
def mldsRun : MCmd := { mldsCmd with running := true, next := 1, mask := 1 }
def mstrCmd (running : Bool) : MCmd :=
  { loadCmd with word := encode (.mstr ⟨0, 0, 10, 1, 0, 0, 1⟩), snv := 1, running := running }
def mzaCmd (running : Bool) : MCmd := { loadCmd with word := encode (.mza ⟨0, 0, 0, 0, 0, 0, 0⟩), running := running }

/-- A command waiting behind another load of the unit that runs. -/
def crowded (c : MCmd) (gated : List Nat) : State :=
  (arrayed c gated false).modMatrix (fun m => { m with buf := { mldsRun with seq := 9 } :: m.buf })

theorem witness_TheArrayRuns :
    tiny.strandOf loadCmd.who = some tiny.u ∧ tiny.u.trap.settle = none ∧
    (∀ g ∈ [[], [0]], let s := arrayed mldsCmd g false; s.core.matrix.waiting = some mldsCmd ∧ s.core.matrix.room mldsCmd = true ∧
      s.core.matrix.waking = none ∧ isLoadOp (mOp mldsCmd.word) = true ∧ s.core.matrix.gatedFor mldsCmd = (g = [0]) ∧
      swapsOp (mOp mldsCmd.word) = false ∧ s.acceptTrap mldsCmd = none) ∧
    (let s := crowded { mldsCmd with seq := 8 } []; s.core.matrix.waiting = some { mldsCmd with seq := 8 } ∧
      s.core.matrix.room { mldsCmd with seq := 8 } = false) ∧
    (let c := mzaCmd false; let s := arrayed c [] true; s.core.matrix.waiting = some c ∧ s.core.matrix.room c = true ∧
      isLoadOp (mOp c.word) = false ∧ swapsOp (mOp c.word) = false ∧ s.acceptTrap c = none) ∧
    (let c : MCmd := { mstrCmd false with snv := 0 };
      let s := (arrayed c [] false).modMatrix (fun m => { m with shadow := (arrayed c [] true).core.matrix.active });
      let t := s.modMatrix (fun m => (m.noteHeld s.now).exchange);
      s.core.matrix.waiting = some c ∧ s.core.matrix.room c = true ∧ isLoadOp (mOp c.word) = false ∧ swapsOp (mOp c.word) = true ∧
      (t.acceptTrap c).isSome = true ∧ (t.acceptTrap (mstrCmd false)).isNone = true) ∧
    (let s : State := (arrayed mldsCmd [0] false).modMatrix (fun m => { m with waking := some 900 });
      let t : State := (arrayed mldsCmd [] false);
      s.core.matrix.waking = some 900 ∧ 900 ≤ s.now ∧ s.core.matrix.waiting = some mldsCmd ∧ s.core.matrix.room mldsCmd = true ∧
      t.acceptTrap mldsCmd = none ∧ t.acceptTrap { mldsCmd with snv := 0 } ≠ none) ∧
    (let s := (crowded { mldsCmd with seq := 8 } [0]).modMatrix (fun m => { m with waking := some 900 });
      s.core.matrix.waiting = some { mldsCmd with seq := 8 } ∧ s.core.matrix.room { mldsCmd with seq := 8 } = false) ∧
    (∀ b < 4, let m := (arrayed (mzaCmd false) [] false).core.matrix; m.bandHeld b = false ∧ m.gated.contains b = false ∧
      m.wanted b = false ∧ lookup 0 m.heldAt b + 64 ≤ 1000) ∧
    (∀ b < 4, (arrayed mldsCmd [] false).core.matrix.wanted b = true) ∧
    (let c := mzaCmd true; let s := arrayed c [] true; s.core.matrix.runningOf false = some c ∧ s.stepMay c = true ∧ mOp c.word = 13 ∧
      ({ s with u := { s.u with accs := [⟨.store [[1]], 0, [wordSpan], 5, 8, 1, 99, 0, false, [], []⟩] } } : State).core.matrix.runningOf false =
        some c) ∧
    (let c := mldsRun; let s := arrayed c [] true; s.core.matrix.runningOf true = some c ∧ s.stepMay c = true ∧ mOp c.word = 3 ∧
      readsOk (s.engineReads 3 ((c.loadParts c.next).map (fun x =>
        (x.addr, x.size, if x.inMasks then 0 else blockOfFmt c.fmt)))) = true) ∧
    (let c := mstrCmd true; let s := arrayed c [] true; s.core.matrix.runningOf false = some c ∧ s.stepMay c = true ∧ mOp c.word = 8 ∧
      s.u.own.tolerant = false ∧ wfTab 0 s.core.matrix.acc = true ∧ s.streamFault c (s.core.matrix.depthFor c) = none ∧
      readsOk (s.engineReads 3 (c.rowParts (s.core.matrix.depthFor c) (16 * c.next) (min 16 (c.rows - 16 * c.next)))) = true) ∧
    (∀ n ∈ [0, 1], let c := { mstrCmd true with next := n }; let s := arrayed c [] true; s.core.matrix.runningOf false = some c ∧
      (c.next < c.steps ↔ n = 0) ∧ c.began + c.minCycles ≤ s.now ∧ c.ovf = false) ∧
    (let c := { mstrCmd true with next := 1, ovf := true, sat := 3 }; let s := arrayed c [] true;
      s.core.matrix.runningOf false = some c ∧ c.steps ≤ c.next ∧ c.began + c.minCycles ≤ s.now ∧ c.sat ≠ 0 ∧ s.u.st ≠ .ending ∧
      (∀ x ∈ s.core.matrix.buf, x.who = c.who → c.seq ≤ x.seq → isLoadOp (mOp x.word) = false) ∧ s.u.trap.inHandler = false ∧
      s.u.trap.settle = none) ∧
    (handling.u.trap.inHandler = true ∧ handling.strandOf loadCmd.who = some handling.u) := by
  refine ⟨?_, rfl, ?_, ?_, ?_, ?_, ?_, ?_, ?_, ?_, ?_, ?_, ?_, ?_, ?_, ?_⟩ <;> decide +kernel

/-- `tiny` with one copy command. -/
def copying (c : CCmd) : State :=
  { tiny with
    core := { tiny.core with cbuf := [c] }, die := { tiny.die with cycle := 1000 }, window := { tiny.window with level := 3 } }

theorem witness_CopiesRun :
    (let c := copyCmd 1 false; let s := copying c; s.strandOf c.who = some s.u ∧ wfTab 0 s.u.regs.s = true ∧ s.mem.wf = true ∧ c.tok ≠ 0 ∧
      s.core.waitingCopy = some c ∧ s.heldAtBl1 c = false ∧ s.core.runningCopies < 16 ∧ c.coll = false ∧ s.copyCheck c = none) ∧
    (let c := { copyCmd 1 false with sl := 0 }; let s := copying c; s.core.waitingCopy = some c ∧ s.heldAtBl1 c = false ∧
      c.coll = false ∧ c.op ≠ 5 ∧ s.copyCheck c = some (12, 0, false)) ∧
    (∀ op ∈ [0x01, 0x12], let c := copyCmd op true; let s := copying c;
      let at' := chunkAt (c.chunkList 0) 0;
      s.core.cbuf[0]? = some c ∧ s.chunkMay c 0 = true ∧ s.unreachable c at'.1 at'.2 = none ∧
      readsOk (s.engineFetch 6 [(addOff c.sa at'.1, at'.2, 0)]) = true ∧
      givesSpan (s.engineAt 6 (addOff c.sd at'.1) at'.2 kWrite) ⟨3, 1, 256, 128, List.range' 0x20100 128, none, false, 0, 0x20000⟩ = true ∧
      (List.range' 0x20100 128).Nodup ∧ at'.2 = 128 ∧ ∀ h ∈ List.range' 0x20100 128, s.mem.eccOf h = .clean) ∧
    (let c := copyCmd 0x12 true;
      let far : State := { copying c with
        u := { tiny.u with regs := { tiny.u.regs with x := [(1, mkExt (remoteBase + 2 ^ 45 * 3) 0x1000 true true false false 0 0 0 0)] } },
        fabric := { State.reset.fabric with ports := [], fenced := [3] } };
      far.core.cbuf[0]? = some c ∧ far.chunkMay c 0 = true ∧
      far.unreachable c (chunkAt (c.chunkList 0) 0).1 (chunkAt (c.chunkList 0) 0).2 = some (1, true)) ∧
    (∀ code ∈ [none, some 6], let c := { copyCmd 1 true with todo := [], code := code };
      let s := copying c; s.core.cbuf[0]? = some c ∧ c.running = true ∧ c.coll = false ∧ c.xi = 0 ∧ c.wr = false) := by
  refine ⟨?_, ?_, ?_, ?_, ?_⟩ <;> decide +kernel

/-- Group 5 with its successor and predecessor at port 0, after `last` steps. -/
def ring (last : Nat) (inbox kept : List Msg) : Group := ⟨⟨0, 5, 0, 1, 0, 0, 2, 0, 0, 0, 0⟩, last, inbox, kept, false, false, none⟩

/-- COLL.BC of the root, 8 bytes, step 1 of group 5. -/
def bcCmd (sent : Bool) : CCmd :=
  { copyCmd 0xF true with coll := true, sl := 8, md := 0x0001000500000001, todo := [], sent := sent }

/-- `tiny` with that command and group, whose receive area is mapped, and one port. -/
def collective (x : Group) (sent up : Bool) : State :=
  { copying (bcCmd sent) with
    work := { tiny.work with maps := [⟨0, 0, 65536, 0x20000, true, true⟩] },
    fabric := { State.reset.fabric with groups := [x], ports := [⟨up, 0, 0, 0, []⟩] }, clock := 14000000 }

/-- A flit for this module, its CRC right. -/
def flitTo (type : Nat) (data : List Byte) : Flit :=
  let f : Flit := ⟨type, Config.moduleId % 2 ^ 17, 0, 2, 0, 5, data, 0⟩
  { f with crc := flitCrc f }

/-- The data of a request to add to, or to put into, the word at home 0x20040. -/
def requestFor (kind : Nat) : List Byte := natBytes 8 kind ++ natBytes 8 0x20040 ++ natBytes 8 7

/-- COLL.RS, AG or AR, not the root's, of 8 bytes into x1 + 256, its own message sent. -/
def stepCmd (op : Nat) : CCmd := { bcCmd true with op := op, md := 0x0000000500000001 }

theorem witness_GroupsAndFlits :
    (tiny.groupOf 5 = none ∧ tiny.collsOf 5 = [] ∧ (collective (ring 0 [] []) true true).groupOf 5 ≠ none) ∧
    (∀ sent, let s := collective (ring 0 [] []) sent true; let c := bcCmd sent;
      s.collFront 5 = some c ∧ s.groupOf 5 = some (ring 0 [] []) ∧ s.strandOf c.who = some s.u ∧ c.op ≠ 5 ∧ c.tok ≠ 0 ∧
      wfTab 0 s.u.regs.s = true ∧ c ∈ s.core.cbuf ∧ s.collsOf 5 = [c] ∧ s.fabric.ports[0]? = some ⟨true, 0, 0, 0, []⟩ ∧
      s.cutOff (ring 0 [] []) = false ∧ s.collSendDue 5 = !sent ∧ readsOk (s.engineReads 6 [(c.sa, c.sl.toNat, 0)]) = true) ∧
    (let s : State := { collective (ring 0 [] []) false true with mem := { tiny.mem with ecc := [(0x20000, ⟨false, [0, 4]⟩)] } };
      s.collSendDue 5 = true ∧ s.collsOf 5 = [bcCmd false] ∧
      errorCode (s.engineReads 6 [((bcCmd false).sa, (bcCmd false).sl.toNat, 0)]) = some 4 ∧ (4 : Nat) ≠ 3) ∧
    (let s0 := collective (ring 0 [] []) false true;
      let s : State := { s0 with fabric := { s0.fabric with fenced := [1] } };
      s.cutOff (ring 0 [] []) = true ∧ s.collsOf 5 = [bcCmd false]) ∧
    (let x := ring 3 [⟨5, []⟩] []; (3 : Nat) < 4 ∧ x.inbox.any (fun y => y.step = 4) = false ∧ x.inbox.any (fun y => y.step = 5) = true ∧
      (collective x true true).groupOf 5 = some x ∧ (collective x true true).supply.b1 = false ∧ x.entry.predPort = 0) ∧
    (∀ len ∈ [7, 8], let m : Msg := ⟨1, List.replicate len 7⟩; let x := ring 0 [m] []; let s := collective x true true; let c := bcCmd true;
      s.collFront 5 = some c ∧ s.groupOf 5 = some x ∧ s.groupServed x = true ∧ c.sent = true ∧ c.op = 0xF ∧ c.md.getLsbD 48 = true ∧ c.sl.toNat = 8 ∧
      x.inbox.find? (fun y => y.step = c.step) = some m ∧ s.collsOf 5 = [c]) ∧
    (∀ op ∈ [0xC, 0xD, 0xE, 0xF], let m : Msg := ⟨1, List.replicate 8 7⟩; let c := stepCmd op;
      let s : State := { collective (ring 0 [m] [⟨1, List.replicate 8 9⟩]) true true with core := { tiny.core with cbuf := [c] } };
      let s0 := s.modGroup 5 (fun y => { y with inbox := y.inbox.filter (fun n => n.step ≠ c.step) });
      s.collFront 5 = some c ∧ s.groupServed (ring 0 [m] [⟨1, List.replicate 8 9⟩]) = true ∧ ¬ (c.op = 0xF ∧ c.md.getLsbD 48 = true) ∧ m.data.length = c.sl.toNat ∧
      givesSpan (s0.engineAt 6 c.sd c.sl.toNat (if c.op = 0xE then kBoth else kWrite))
        ⟨3, 1, 256, 8, List.range' 0x20100 8, none, false, 0, 0x20000⟩ = true ∧ (List.range' 0x20100 8).Nodup ∧ s.mem.wf = true ∧
      (∀ h ∈ List.range' 0x20100 8, s.mem.eccOf h = .clean) ∧
      (reduceBytes c.redFmt (List.replicate 8 9) m.data).1.length = 8) ∧
    (∀ k ∈ [1, 2, 3], let f := flitTo 2 (requestFor k);
      bytesNat (f.payload.take 8) % 256 = k ∧ bytesNat ((f.payload.drop 8).take 8) = 0x20040 ∧ (f.payload.drop 16).length = 8 ∧
      tiny.mem.wf = true ∧ 0x20040 + 8 ≤ Config.hbmBytes ∧ ∀ a ∈ List.range' 0x20040 8, tiny.mem.eccOf a = .clean) ∧
    ((⟨0, (Config.moduleId + 1) % 2 ^ 17, true⟩ : Arrival).crc = true ∧ (⟨0, 0, false⟩ : Arrival).crc = false) ∧
    ((flitTo 1 []).type ≠ 2 ∧ (flitTo 2 []).type = 2 ∧ (flitTo 2 []).dmod = Config.moduleId % 2 ^ 17 ∧ (flitTo 1 []).type = 1 ∧
      tiny.supply.b1 = false ∧ tiny.groupOf 0 = none ∧ (collective (ring 0 [] []) true true).fabric.ports[0]? = some ⟨true, 0, 0, 0, []⟩) ∧
    (let x : Group := { ring 0 [] [⟨1, [9]⟩] with again := some 14000000 }; let s := collective x true true; s.groupOf 5 = some x ∧
      s.fabric.groups = [x] ∧ x.again = some s.clock ∧ x.entry.succPort = 0 ∧ s.clock < 14000001) ∧
    (let s := collective (ring 0 [] []) true false; s.portWaits 0 = [ring 0 [] []] ∧ s.collsOf 5 = [bcCmd true] ∧
      s.fabric.ports[0]? = some ⟨false, 0, 0, 0, []⟩) ∧
    (let c2 : CCmd := { bcCmd false with tok := 8, seq := 1, md := 0x0001000500000002 };
      let s : State := { collective (ring 0 [] []) true false with core := { tiny.core with cbuf := [bcCmd true, c2] } };
      s.portWaits 0 = [ring 0 [] []] ∧ s.collsOf 5 = [bcCmd true, c2] ∧ s.strandOf c2.who = some s.u ∧ c2.tok ≠ (bcCmd true).tok ∧
      c2.seq ≠ (bcCmd true).seq ∧ (bcCmd true).step < c2.step) ∧
    (let s : State := { collective (ring 0 [] []) false true with supply := { tiny.supply with b1 := true } };
      s.supply.b1 = true ∧ s.supply.b2 = false) := by
  refine ⟨by decide +kernel, by decide +kernel, by decide +kernel, by decide +kernel, by decide +kernel,
    by decide +kernel, by decide +kernel, by decide +kernel, ⟨rfl, rfl⟩, ⟨by decide, rfl, rfl, rfl, rfl, by decide +kernel, rfl⟩, by decide +kernel, by decide +kernel, by decide +kernel,
    by decide +kernel⟩

/-- A shoot-down of range 0 to 64 KiB of context 0, with module 3 still to answer. -/
def shooting : State := { tiny with work := { tiny.work with shoots := [⟨0, 0, 65536, [], [3], 0, none⟩] }, clock := 2800000 }

theorem witness_ShootDownsRevoke :
    (tiny.window.busy = false ∧ (0x8000000000000000 : BitVec 64).getLsbD 63 = true ∧ (0x8000000000000000 : BitVec 64).getLsbD 10 = false ∧
      tiny.supply.b1 = false) ∧
    (let s : State := { collective (ring 0 [] []) false true with supply := { tiny.supply with b1 := true } };
      s.supply.b1 = true ∧ s.fabric.ports[0]? = some ⟨true, 0, 0, 0, []⟩) ∧
    (let s := shooting; ∃ x, s.work.shoots = [x] ∧ 3 ∈ x.modules ∧ x.since + 2800000 ≤ s.clock) ∧
    (let s : State := { shooting with work := { tiny.work with shoots := [⟨0, 0, 65536, [0], [], 0, some (0, 3)⟩] } };
      ∃ x, s.work.shoots = [x] ∧ x.reply = some (0, 3) ∧ x.since + 2800000 ≤ s.clock ∧ (x.ctx, x.base, x.len) ∉ s.fabric.cut) := by
  refine ⟨by decide +kernel, by decide +kernel, ⟨_, rfl, by decide +kernel⟩, _, rfl, by decide +kernel⟩

/-- `tiny` with bits of the granule at 0x20040 in error, queued to be scrubbed. -/
def erring (flips : List Nat) : State :=
  { tiny with mem := { tiny.mem with ecc := [(0x20040, ⟨false, flips⟩)] }, errs := { State.reset.errs with scrubs := [(0x20040, 0)] } }

theorem witness_ErrorsAndDies :
    (let s := erring [3]; (∃ x ∈ s.errs.scrubs, x.1 = granOf 0x20040) ∧ s.mem.eccOf (granOf 0x20040) = .correctable ∧
      wfTab Code.clean s.mem.ecc = true ∧ s.errs.queue.length < 256) ∧
    ((0, 1) ∉ tiny.errs.ways ∧ tiny.mem.tagOf (64 * 0x801) = 0 ∧ 0x801 < 2 ^ 58 ∧ wfTab Code.clean tiny.mem.ecc = true ∧ tiny.mem.wf = true ∧
      (1 : Nat) ≠ 2 ∧ tiny.badList.length < 4096 ∧ wfTab [] tiny.errs.bloom = true) ∧
    (let s : State := { tiny with secure := { tiny.secure with records := { tiny.secure.records with
        badpage := [⟨0, true, List.replicate 4096 (1, 2)⟩] } } }; 4096 ≤ s.badList.length) ∧
    (∀ fenced, let s : State := { tiny with
        u := Strand.idle ⟨0, 0, 0, 0⟩, work := { tiny.work with ctxs := [] }, die := { tiny.die with fenced := fenced } };
      ∃ x, s.dieAt 0 = some x ∧ x.fenced = fenced ∧ (∀ c ∈ s.work.ctxs, c.dieset.getLsbD 0 = false) ∧
        (∀ u ∈ s.allStrands, u.place.die = 0 → u.st.onStrand = false) ∧ s.work.launches = [] ∧ x.retired = [] ∧ x.fwcore < 12 ∧
      wfTab 0 s.fwRecord = true ∧ s.windowsOn 0 1 = false) ∧
    (let s : State := { tiny with u := { tiny.u with own := { tiny.u.own with peers := [some (0, ⟨1, 0⟩)] } } }; s.windowsOn 0 0 = true) ∧
    (let s : State := { tiny with window := { tiny.window with level := 3, dies := 1 } }; s.window.dies.getLsbD 0 = true ∧ 2 ≤ s.window.level) ∧
    (∃ x, ({ tiny with die := { tiny.die with gated := [true, false, false] } } : State).dieAt 0 = some x ∧ x.gated.getD 0 false = true) := by
  refine ⟨by decide +kernel, by decide +kernel, by decide +kernel, fun fenced => ⟨_, rfl, rfl, by cases fenced <;> decide +kernel⟩,
    by decide +kernel, by decide +kernel, _, rfl, rfl⟩

/-- A slot's descriptor: one bundle, a unit that asks for the array or not. -/
def desc (array : Bool) : Desc := ⟨576, 1, 0, array, 1, 0, 0, false, false, 4, 0, 0, 0, 4096, 0⟩
def slotOne (array : Bool) : Slot := ⟨0, 3, 0, desc array, [], [], []⟩
def launchOne : Launch :=
  ⟨7, 70, 0, 0, 1, 1, 3, 0, 2, 4, none, none, true, true, 128, 0x40000, 0, none, [], [], [⟨0, 0, 2, 0, none⟩], false, false, false, none, [], 0⟩

/-- A module that is up, with one launch of two units and room for them. -/
def launching (array : Bool) : State :=
  { resumable with
    work := { tiny.work with
      slots := [slotOne array], launches := [launchOne],
      ctxs := [⟨0, 1, false, 0, 1, 4, 1, 0, 0, 0, 64, 2, [], 0, false, false, false⟩] } }

theorem witness_UnitsEnter : ∀ array, let s := launching array;
    ∃ x, s.dieServes x.num = true ∧ s.dieAt x.num = some x ∧ s.toPlace x true = [.pending launchOne] ∧ s.work.launches = [launchOne] ∧
    s.nextGroup launchOne x.num = some (slotOne array, [[0]]) ∧
    s.findTeam x launchOne.uid (s.prioOn launchOne x.num) [.fresh ⟨launchOne.uid, 0⟩ (slotOne array).desc] =
      some [(.fresh ⟨launchOne.uid, 0⟩ (slotOne array).desc, s.u.place)] ∧ launchOne.ctx = s.u.own.ctx ∧
    launchOne.shares = [⟨x.num, 0, 2, 0, none⟩] := by
  intro array
  cases array <;> exact ⟨(launching _).die, by decide +kernel, rfl, by decide +kernel⟩

/-- A module with a queue page of 4 KiB in host memory, its ring beginning with the packet `p`; the context maps 64 KiB of virtual
addresses from 0 onto home 0x20000. -/
def queue (state why : Nat) : Queue := ⟨0, true, 12, true, 3, 0, 5, 0, 0, 4, 0, 0, 0, state, 0, why, [], []⟩
def queued (state why : Nat) (p : Packet) : State :=
  { launching false with
    mem := tiny.mem.poke hostBase p,
    work := { (launching false).work with
      live := 1, pendLive := 1, launches := [], queues := [queue state why], maps := [⟨0, 0, 65536, 0x20000, true, true⟩] } }

/-- A packet of n units from (first byte, value) pairs. -/
def packet (n : Nat) (l : List (Nat × Nat)) : Packet := natBytes (64 * n) ((l.map (fun (i, v) => 2 ^ (8 * i) * v)).sum)

/-- That a packet is the one taken up next, sound, and nothing holds it back. -/
def sound (s : State) (x : Queue) (p : Packet) : Bool :=
  s.queueOf 0 = some x && s.queueServed x && s.packetAt x = some p && bytesCode x p = none && !s.queueOpen 0 && s.mem.wf

/-- A queue with that packet, in a state whose word at virtual address 64 holds v, FULL or EMPTY. -/
def at64 (p : Packet) (v : Word) (full : Bool) : State :=
  let s := queued 1 0 p; { s with mem := (s.mem.poke 0x20040 (wordBytes v)).setFull 0x20040 full }

theorem witness_PacketsAct :
    (let p := packet 1 [(0, 0), (1, 1), (8, 1)]; let s := queued 1 0 p; s.queueOf 0 = some (queue 1 0) ∧ s.queueServed (queue 1 0) = true ∧
      s.packetAt (queue 1 0) = some p ∧ bytesCode (queue 1 0) p = some 6 ∧ Packet.op p = 0 ∧ (queue 1 0).state = 1) ∧
    (let p := packet 1 [(0, 0), (1, 1)]; sound (queued 1 0 p) (queue 1 0) p = true ∧ Packet.op p = 0x00) ∧
    (let p := packet 1 [(0, 0x22), (1, 1), (16, 64), (24, 5)]; let s := at64 p 7 false; sound s (queue 1 0) p = true ∧
      Packet.op p = 0x22 ∧ s.wordHome 0 (Packet.num p 16 8) 8 true true = some 0x20040 ∧ s.mem.eccOf 0x20040 = .clean) ∧
    (∀ full, let p := packet 1 [(0, 0x20), (1, 1), (16, 64), (24, 5)]; let s := at64 p 7 full; sound s (queue 1 0) p = true ∧
      Packet.op p = 0x20 ∧ s.wordHome 0 (Packet.num p 16 8) 8 true true = some 0x20040 ∧ s.mem.isFull 0x20040 = full ∧
      s.boxRequest 0 = none ∧ s.waiters = []) ∧
    (∀ full, let p := packet 1 [(0, 0x21), (1, 1), (16, 64), (24, 128)]; let s := at64 p 7 full; sound s (queue 1 0) p = true ∧
      Packet.op p = 0x21 ∧ s.wordHome 0 (Packet.num p 16 8) 8 true true = some 0x20040 ∧
      s.wordHome 0 (Packet.num p 24 8) 8 false true = some 0x20080 ∧ s.mem.eccOf 0x20080 = .clean ∧ s.mem.isFull 0x20040 = full) ∧
    (let s : State := { at64 (packet 1 [(0, 0x20), (1, 1), (16, 64), (24, 5)]) 7 false with
        waiters := [⟨⟨1, 0⟩, 0x20040, .putf 1, none⟩, ⟨boxWho 0, 0x20040, .putf 5, none⟩] };
      (∃ y, s.boxRequest 0 = some y ∧ y.served = none) ∧ ∃ y ∈ s.waiters, y.addr = 0x20040 ∧ y.served = none ∧ isPutf y.wait = true) ∧
    (∀ op ∈ [0x23, 0x24], ∀ v ∈ [7, 8], let p := packet 1 [(0, op), (1, 1), (8, 1), (9, 1), (16, 64), (24, v)]; let s := at64 p 7 false;
      sound s (queue 1 0) p = true ∧ Packet.op p = op ∧ entriesOfPacket p = [(64, v)] ∧ s.wordHome 0 64 8 true false = some 0x20040 ∧
      sigMode (Packet.num p 9 1) (s.mem.word 0x20040) (BitVec.ofNat 64 v) = (v = 7)) ∧
    (let p := packet 1 [(0, 0x40), (1, 1), (8, 1), (16, 65536)]; let s := queued 1 0 p; sound s (queue 1 0) p = true ∧
      Packet.op p = 0x40 ∧ (Packet.num p 9 1).testBit 0 = false ∧ entriesOfPacket p = [(65536, 0)] ∧
      ∃ c, s.ctxOf (queue 1 0).ctx = some c ∧ c.list.length < 256) := by
  refine ⟨?_, ?_, ?_, ?_, ?_, ⟨⟨_, rfl, rfl⟩, ?_⟩, ?_, ?_, ?_, ?_, ?_, _, rfl, ?_⟩ <;> decide +kernel

/-- An image of one bundle without declarations, at home 0x21000. -/
def image1 : List Byte := packet 1 [(0, 576), (4, 1), (24, 4096)]
def graphOne : Graph := ⟨9, 2, 1, 0x20100, 256, false, false⟩
def phaseOne (done : Bool) : Phase := ⟨8, 0, 0, 0x20108, 264, none, 0, true, [], 1, [graphOne], false, done, false⟩

/-- A module with a packet to take up, and slots, launches and phases already there. -/
def worked (state why : Nat) (p : Packet) (sls : List Slot) (ls : List Launch) (ps : List Phase) : State :=
  let s := queued state why p
  { s with mem := s.mem.poke 0x21000 image1, work := { s.work with slots := sls, launches := ls, phases := ps } }

def invokePacket (op : Nat) : Packet :=
  packet 1 ([(0, op), (1, 1), (8, 3), (10, 4), (12, 1), (16, 70), (20, 9), (24, 8), (28, 0xFFFFFFFF), (40, 320)] ++
    if op = 0x11 then [(56, 3)] else [])

theorem witness_PacketsOpenWork :
    (let p := packet 1 [(0, 0x01), (1, 1), (8, 3), (16, 0x1000), (24, 640)]; let s := worked 1 0 p [] [] []; sound s (queue 1 0) p = true ∧
      (queue 1 0).page = 0 ∧ Packet.op p = 0x01 ∧ s.slotOf 0 (Packet.num p 8 1) = none ∧ Packet.num p 16 8 % 64 = 0 ∧
      s.wordHome 0 (Packet.num p 16 8) (Packet.num p 24 8) true false = some 0x21000 ∧
      (readDesc (bytesNat (s.mem.range 0x21000 64)) (Packet.num p 24 8)).isSome = true ∧
      ∀ k < 16, 1 ≤ k → bytesNat (s.mem.range (0x21000 + 32 + 32 * k) 32) = 0) ∧
    (let p := packet 1 [(0, 0x02), (1, 1), (8, 3)]; let s := worked 1 0 p [slotOne false] [] []; sound s (queue 1 0) p = true ∧
      Packet.op p = 0x02 ∧ ∀ l ∈ s.work.launches, l.vf = 0 → l.slot = 3 → l.done = true) ∧
    (let p := invokePacket 0x10; let s := worked 1 0 p [] [] []; sound s (queue 1 0) p = true ∧ s.slotOf 0 (Packet.num p 8 1) = none) ∧
    (∀ q ∈ [(1, 0, 0x10), (1, 0, 0x11), (2, 1, 0x10)], let p := invokePacket q.2.2;
      let x := queue q.1 q.2.1;
      let s : State := worked q.1 q.2.1 p [slotOne false] [] [{ phaseOne false with queue := 1 }];
      sound s x p = true ∧ (x.state = 1 ∨ (x.state = 2 ∧ x.why = 1)) ∧
      s.slotOf 0 (Packet.num p 8 1) = some (slotOne false) ∧ (slotOne false).decls = [] ∧ entriesOfPacket p = [] ∧ Packet.num p 48 8 = 0 ∧
      s.phaseOf x.ctx (Packet.num p 24 4) = some { phaseOne false with queue := 1 } ∧
      (phaseOne false).graph (Packet.num p 20 4) = some graphOne ∧ graphOne.opened < graphOne.launches ∧
      (phaseOne false).cancelled = false ∧ graphOne.cancelled = false ∧
      s.jobDead x.ctx = false ∧
      (∀ l ∈ s.work.launches, l.ctx = x.ctx → l.id ≠ Packet.num p 16 4) ∧ Packet.num p 28 4 = 0xFFFFFFFF ∧
      s.wordHome x.ctx (Packet.num p 40 8) 8 false true = some 0x20140 ∧ s.mem.eccOf 0x20140 = .clean ∧ Packet.op p = q.2.2) ∧
    (let p := packet 1 [(0, 0x30), (1, 1), (8, 4), (12, 1), (16, 320), (32, 2 ^ 32 + 7), (40, 328)]; let s := worked 1 0 p [] [] [];
      sound s (queue 1 0) p = true ∧ Packet.op p = 0x30 ∧ entriesOfPacket p = [(2 ^ 32 + 7, 328)] ∧
      s.wordHome 0 328 8 false true = some (0x20140 + 8) ∧ s.wordHome 0 (Packet.num p 16 8) 8 false true = some 0x20140 ∧ s.work.phases = []) ∧
    (∀ done, let p := packet 1 [(0, 0x31), (1, 1), (8, 8)]; let s := worked 1 0 p [] [] [{ phaseOne done with queue := 1 }]; sound s (queue 1 0) p = true ∧
      Packet.op p = 0x31 ∧ s.phaseOf 0 (Packet.num p 8 4) = some { phaseOne done with queue := 1 }) ∧
    (let p := packet 1 [(0, 0x32), (1, 1), (8, 1), (12, 70)]; let s := worked 1 0 p [] [{ launchOne with queue := 1 }] [];
      sound s (queue 1 0) p = true ∧ Packet.op p = 0x32 ∧ Packet.num p 8 1 = 1 ∧ launchOne.ctx = 0 ∧ launchOne.id = Packet.num p 12 4) := by
  refine ⟨?_, ?_, ?_, ?_, ?_, ?_, ?_⟩ <;> decide +kernel

theorem witness_TicksAndReleases :
    (let s : State := { tiny with
        window := { tiny.window with started := true, nextper := some 2000000 },
        u := { tiny.u with own := { tiny.u.own with tickRel := true, deadline := 50 } } };
      s.window.started = true ∧ s.window.nextper = some 2000000 ∧ s.u.place.die = s.die.num ∧ s.u.st.onStrand = true ∧ s.u.st ≠ .ending ∧
      s.u.own.tickRel = true ∧ s.u.own.deadline ≠ 0 ∧ s.u.own.deadline ≤ s.now) ∧
    tiny.window.started = false ∧
    (let r : Drain := ⟨[⟨1, 0⟩], 7, 50, [1]⟩;
      let s : State := { tiny with
        u := { tiny.u with own := { tiny.u.own with prio := 5 } }, die := { tiny.die with drains := [r] },
        work := { (launching false).work with queues := [queue 1 0] } };
      let x := s.die;
      s.drainDue x.num = some r ∧ s.dieAt x.num = some x ∧ s.launchOf r.target = some launchOne ∧
      (∃ c, s.ctxOf launchOne.ctx = some c ∧ c.tokens ≠ 0) ∧ r.victims = [s.u.who] ∧ s.u.st.onStrand = true ∧
      (∀ u ∈ s.strands, u.holds s.u.who = false) ∧ s.prioOn launchOne x.num < s.u.own.prio) ∧
    (let before : Launch := { launchOne with uid := 6, id := 69, done := true };
      let l : Launch := { launchOne with predOk := false, pred := some 69 };
      let s : State := { tiny with work := { tiny.work with launches := [before, l] } };
      s.launchOf l.uid = some l ∧ s.predDone l = true) := by
  refine ⟨?_, rfl, ⟨?_, rfl, ?_, ⟨_, rfl, ?_⟩, ?_⟩, ?_⟩ <;> decide +kernel

/-- A page as the window has it, bound or not, with its ring index in a word of the context or in WRIDX. -/
def paged (bound : Bool) (state : Nat) (wiaddr : Word) : State :=
  { tiny with work := { tiny.work with queues := [{ queue state 0 with bound := bound, wiaddr := wiaddr }] } }

theorem witness_PagesAndContexts :
    (∀ state < 4, (paged true state 0).queueOf 0 = some { queue state 0 with bound := true, wiaddr := 0 }) ∧
    ((4 : BitVec 32) - 0).toNat ≤ 2 ^ 12 / 64 ∧ ((64 : BitVec 32) - 0).toNat ≤ 2 ^ 12 / 64 ∧ 2 ^ 12 / 64 < ((65 : BitVec 32) - 0).toNat ∧
    (paged true 1 8).queueOf 0 = some { queue 1 0 with bound := true, wiaddr := 8 } ∧
    (∀ n ∈ [12, 24], let s := paged false 0 0;
      let w : BitVec 64 := BitVec.ofNat 64 (n + 2 ^ 19 + 2 ^ 20 * 6);
      ∃ c, s.ctxOf (w.toNat / 2 ^ 9 % 1024) = some c ∧ w.getLsbD 19 = true ∧ 12 ≤ w.toNat % 32 ∧ w.toNat % 32 ≤ 24 ∧
        (queue 0 0).base.toNat % 2 ^ (w.toNat % 32) = 0 ∧ (0 : Word).toNat % 8 = 0 ∧ c.vf = 0 / 64 ∧
        s.hwqTaken 0 (w.toNat / 2 ^ 20 % 64) c.dieset = false ∧ s.queueOpen 0 = false) ∧
    ({ paged true 1 0 with work := { (paged true 1 0).work with launches := [launchOne] } } : State).queueOpen 0 = true ∧
    (let e : BitVec 512 := BitVec.ofNat 512 (1 + 2 ^ 16 + 2 ^ 216 * 1);
      tiny.ctxOf 1023 = none ∧ e.getLsbD 16 = true ∧ e.toNat % 2 ^ 16 ≠ 0 ∧ e.toNat / 2 ^ 18 % 128 ≤ 64) ∧
    ((∀ y ∈ tiny.work.phases, y.ctx ≠ 0) ∧ (∀ y ∈ tiny.work.launches, y.ctx ≠ 0) ∧
      (∀ y ∈ tiny.work.queues, y.bound = true → y.ctx ≠ 0) ∧ tiny.mem.wf = true ∧
      Memory.bad (tiny.mem.eccOf (jobAddr 0)) = false ∧ (tiny.ctxOf 0).isSome = true) := by
  refine ⟨?_, ?_, ?_, ?_, ?_, ?_, ?_, ?_, ?_⟩
  case _ => decide +kernel
  case _ => decide
  case _ => decide
  case _ => decide
  case _ => decide +kernel
  case _ =>
    intro n hn
    refine ⟨⟨0, 1, false, 0, 1, 4, 1, 0, 0, 0, 64, 2, [], 0, false, false, false⟩, ?_⟩
    revert n
    decide +kernel
  case _ => decide +kernel
  case _ => decide +kernel
  case _ => exact ⟨by decide +kernel, by decide +kernel, by decide +kernel, by decide +kernel, by rw [eccOf_clean rfl]; rfl, by decide +kernel⟩

/-- The module with no work, its supply as given. -/
def supplied (f : Supply → Supply) : State :=
  { tiny with
    u := Strand.idle ⟨0, 0, 0, 0⟩, core := Core.reset 0 0 0, work := Work.reset, supply := f Supply.reset }

theorem witness_SupplyLevels :
    (let x := (supplied id).supply; x.warn = false ∧ x.b1 = false ∧ x.b2 = false ∧ x.powered = true) ∧
    (let x := (supplied (fun x => { x with warn := true })).supply; x.warn = true ∧ x.b1 = false ∧ x.b2 = false) ∧
    (tiny.u.st.onStrand = true ∧ tiny.u.st ≠ .ending ∧ tiny.u.trap.retained = false) ∧
    (let s := supplied (fun x => { x with b1 := true, settled := true }); s.supply.b1 = true ∧ s.supply.b2 = false ∧
      s.supply.settled = true ∧ s.fabric.groups = [] ∧ s.work.phases = [] ∧ s.strands = [] ∧ s.u.trap.retained = false) ∧
    (∀ n ∈ [1, 2, 3, 4], let s := supplied (fun x => { x with b2 := true, stage := n }); s.supply.b2 = true ∧ s.supply.stage = n ∧
      s.supply.returning = false ∧ s.allStopped = true ∧ (∀ u ∈ s.allStrands, u.trap.retained = false ∧ foreignDirty u = []) ∧
      s.work.ctxs = [] ∧ s.imageUnused = false ∧ s.nextRegion = none ∧ s.fabric.groups = [] ∧ s.work.phases = []) ∧
    (let s := supplied (fun x => { x with b2 := true, returning := true, stage := 1 }); s.supply.b2 = true ∧ s.supply.powered = true ∧
      s.supply.returning = true) ∧
    (let s := supplied (fun x => { x with b1 := true }); s.supply.b1 = true ∧ s.supply.b2 = false ∧ s.supply.settled = false) ∧
    (let s := supplied (fun x => { x with powered := false }); s.supply.powered = false ∧ s.mem.wf = true ∧ s.work.ctxs = []) := by
  refine ⟨?_, ?_, ?_, ?_, ?_, ?_, ?_, ?_⟩ <;> decide +kernel

theorem witness_ClocksAndPower :
    (let s := supplied id; s.dies = [] ∧ s.die.isense.length = 3 ∧ s.die.throttled.length = 3 ∧ s.die.hot.length = 3 ∧
      s.die.wear.length = 3) ∧
    (let s : State := { supplied id with die := { (supplied id).die with hot := [true, false, false], clamp := [100, 0, 0] } };
      s.die.clamp.getD 0 0 < 101 ∧ s.die.hot.getD 0 false = true ∧ 89 * 10 < s.die.clamp.getD 0 0 * 9) ∧
    (let s : State := { supplied id with window := { (supplied id).window with level := 3 } }; s.window.heartbeat = true ∧
      s.window.updating = false ∧ s.window.level = 3 ∧ 1400 % 25 = 0 ∧ 1400 ≤ s.die.ceil ∧ 1750 ≤ s.die.ceil ∧ 1410 % 25 ≠ 0) ∧
    (let s : State := { supplied id with window := { (supplied id).window with level := 2 } }; s.window.level = 2 ∧
      (newest s.secure.records.harvest).isSome = true ∧ (newest s.secure.records.calib).isSome = true) ∧
    (newest ([] : List (RecordCopy Harvest))).isNone = true ∧ barOk ⟨0, 4, 8⟩ = false ∧
    (let s : State := { supplied id with secure := { (supplied id).secure with rollback := [(1, 5)] } };
      (1 : Nat) ≠ 2 ∧ lookup 0 s.secure.rollback 1 ≤ 5 ∧ wfTab 0 s.secure.rollback = true ∧ 4 < lookup 0 s.secure.rollback 1) ∧
    (1000000 ≤ (1000000 : Word).toNat ∧ (1000000 : Word).toNat ≤ 4294967295 ∧ (4294967295 : Word).toNat ≤ 4294967295 ∧
      (supplied id).window.started = false ∧ (supplied id).mem.wf = true) ∧
    ({ supplied id with window := { (supplied id).window with started := true } } : State).window.started = true := by
  refine ⟨?_, ?_, ?_, ?_, ?_, ?_, ?_, ?_, rfl⟩ <;> decide +kernel

theorem witness_Frames : schedules (.add 1 2 3) = true ∧ schedules (.vadd ⟨0, 0, 0, 0, 0, 0, 0, 1⟩) = true ∧
    schedules (.setx 1 5) = true ∧ accesses (.ldD ⟨7, 3, 1, 11, 0, 0, 0, 0⟩) = true ∧
    tiny.entryTrap (tiny.slotFor (.ldD ⟨7, 3, 1, 11, 0, 0, 0, 0⟩)) (.ldD ⟨7, 3, 1, 11, 0, 0, 0, 0⟩) = none := by
  decide +kernel

/-- A unit at bundle 0 of code with one bundle, and an agenda. -/
def stepping (b : Bundle) (a : List (Nat × Instr)) : State :=
  { ({ tiny with die := { tiny.die with retn := 1000000 }, core := Core.reset 0 0 0, lull := some 5 } : State).withBundle b with
    checked := false, agenda := a }

/-- Whether the strand in front would issue a bundle that waits for nothing and pops nothing, with these instructions. -/
def goesWith (a : Attempt) (l : List (Nat × Instr)) : Bool := match a with | .go h m => h.wait = 0 && h.pop = 0 && m = l | _ => false

theorem witness_StepsRunWhatTheyDecode :
    (∃ n i r, (stepping 0 [(0, .tickBoundary)]).agenda = (n, i) :: r ∧ n ≤ (stepping 0 []).clock) ∧
    (∀ x ∈ [((0 : Bundle), []), (bundleOf .ret, [(0, Instr.ret)])], let s := stepping x.1 [];
      let s1 := s.wakePeers;
      s.quiet = true ∧ s.mayIssue = true ∧ s.u.st ≠ .blocked ∧ s1.core.holder = s1.u.place.strand ∧ s1.higherReady = false ∧
      s1.quantumOver = false ∧ s1.core.switchUntil ≤ s1.now ∧ s1.throttled = false ∧ goesWith s.attempt x.2 = true) := by
  exact ⟨⟨_, _, _, rfl, by decide +kernel⟩, by decide +kernel⟩

/-- For SLACK_EXHAUSTED: the bundle at PC holds a CCAN. -/
theorem witness_CcanIssues : ∃ x ∈ (stepping (bundleOf (.ccan ⟨7, 0, 0, 0, 0, 0, 0, 0⟩)) []).nextSlots, isCcan x.2 = true :=
  ⟨(6, .ccan ⟨7, 0, 0, 0, 0, 0, 0, 0⟩), by decide +kernel, rfl⟩

/-- A memory that is sound, and one whose granule at 0x20040 is bad, for a write of a part of it. -/
theorem witness_WritesReachTheirHomes :
    tiny.mem.wf = true ∧ ([1, 2] : List Byte).length = [0x20040, 0x20041].length ∧ [0x20040, 0x20041].Nodup ∧
    (∀ a ∈ [0x20040, 0x20041], tiny.mem.eccOf a = .clean) ∧
    (let m := (erring [0, 4]).mem; m.wf = true ∧ wfTab Code.clean m.ecc = true ∧ Memory.bad (m.eccOf 0x20040) = true ∧
      granOf 0x20040 ≤ 0x2005F ∧ 0x2005F < granOf 0x20040 + granBytes 0x20040 ∧ 0x2005F ∉ [0x20040, 0x20041]) := by
  refine ⟨?_, ?_, ?_, ?_, ?_⟩ <;> decide +kernel

theorem witness_EncodingsRoundTrip : (Instr.ldD ⟨63, 3, 15, 11, 0x3FF8, 15, 3, 0⟩).slotKind = some .L ∧
    (Instr.ldD ⟨63, 3, 15, 11, 0x3FF8, 15, 3, 0⟩).wellFormed = true ∧ (Instr.add 63 62 61).wellFormed = true := by decide +kernel

theorem witness_StepsKeepTheForm : tiny.mem.wf = true ∧ GoesOn (step tiny) := ⟨by decide +kernel, ⟨_, rfl⟩⟩

end Sys2Proof
end

section
/-! SUPPORT. Every meaning and every step goes on (00 R14, 03 R89): the shared shapes of an outcome, the writes to the
register window, the arms of exec, and what carries exec to a step. -/

namespace Sys2Proof.Machine

theorem next_goesOn (s : State) : GoesOn (.next s) := ⟨s, rfl⟩

theorem ite_goesOn {c : Prop} [Decidable c] {a b : Host.Outcome State Fault Refusal} (ha : GoesOn a) (hb : GoesOn b) :
    GoesOn (if c then a else b) := by
  split
  · exact ha
  · exact hb

/-! Writes to the register window (14 R295 to R297, R300, R305): each acts as an event, is kept, or is ignored. -/

theorem pageWrite_goesOn (s : State) (page reg : Nat) (v : BitVec 64) : GoesOn (s.pageWrite page reg v) := by
  unfold State.pageWrite
  split
  case h_4 => exact ite_goesOn ⟨_, rfl⟩ ⟨_, rfl⟩
  all_goals exact ⟨_, rfl⟩

theorem contextWrite_goesOn (s : State) (off : Nat) (v : BitVec 64) : GoesOn (s.contextWrite off v) :=
  ite_goesOn (next_goesOn _) (ite_goesOn (next_goesOn _) ⟨_, rfl⟩)

theorem groupWrite_goesOn (s : State) (off : Nat) (v : BitVec 64) : GoesOn (s.groupWrite off v) := by
  unfold State.groupWrite
  dsimp only
  split
  · exact ite_goesOn ⟨_, rfl⟩ (next_goesOn _)
  · exact ite_goesOn ⟨_, rfl⟩ (next_goesOn _)

theorem functionWrite_goesOn (s : State) (f o : Nat) (v : BitVec 64) : GoesOn (s.functionWrite f o v) :=
  ite_goesOn (next_goesOn _) (pageWrite_goesOn ..)

theorem windowWrite_goesOn (s : State) (off : Nat) (v : BitVec 64) : GoesOn (s.windowWrite off v) :=
  ite_goesOn (next_goesOn _) <|
  ite_goesOn (ite_goesOn ⟨_, rfl⟩ (next_goesOn _)) <|
  ite_goesOn (ite_goesOn ⟨_, rfl⟩ (next_goesOn _)) <|
  ite_goesOn ⟨_, rfl⟩ <|
  ite_goesOn (next_goesOn _) <|
  ite_goesOn (next_goesOn _) <|
  ite_goesOn ⟨_, rfl⟩ <|
  ite_goesOn (next_goesOn _) <|
  ite_goesOn ⟨_, rfl⟩ <|
  ite_goesOn (contextWrite_goesOn ..) <|
  ite_goesOn (next_goesOn _) <|
  ite_goesOn (groupWrite_goesOn ..) <|
  ite_goesOn (pageWrite_goesOn ..) (next_goesOn _)

theorem execRegisterWrite_goesOn (a : BarAccess) (v : BitVec 64) (s : State) : GoesOn (execRegisterWrite a v s) :=
  ite_goesOn (next_goesOn _) (ite_goesOn (windowWrite_goesOn ..) (functionWrite_goesOn ..))

/-- Every arm but REGISTER_WRITE's issues its instruction (`issue_goesOn`) or names the next state outright. -/
theorem exec_goesOn (i : Instr) (s : State) : GoesOn (exec i s) := by
  cases i with
  | registerWrite a v => exact execRegisterWrite_goesOn a v s
  | _ => exact ⟨_, rfl⟩

/-! From the meanings to a step: a step with meanings that all go on goes on. -/

section
variable {run : Instr → State → Host.Outcome State Fault Refusal} (hrun : ∀ i s, GoesOn (run i s))
include hrun

theorem runSlots_goesOn (l : List (Nat × Instr)) (s : State) : GoesOn (runSlots run s l) := by
  induction l generalizing s with
  | nil => exact next_goesOn s
  | cons x r ih =>
    obtain ⟨k, i⟩ := x
    obtain ⟨t, ht⟩ := hrun i { s with slot := k }
    simp only [runSlots, ht]
    exact ih t

theorem issueBundle_goesOn (s : State) (h : Header) (slots : List (Nat × Instr)) :
    GoesOn (s.issueBundle run h slots) := by
  cases slots with
  | nil => exact hrun _ _
  | cons x r =>
    unfold State.issueBundle
    dsimp only
    split
    next => exact next_goesOn _
    next hne =>
      obtain ⟨t, ht⟩ := runSlots_goesOn hrun _ _
      exact absurd ht (hne t)

theorem issueLate_goesOn (s : State) (p : Place) : GoesOn (s.issueLate run p) := by
  unfold State.issueLate
  dsimp only
  split
  · exact next_goesOn _
  next b _ =>
    obtain ⟨t, ht⟩ := issueBundle_goesOn hrun (s.focus p) (Header.ofBundle b) (bundleSlots b)
    rw [ht]
    exact next_goesOn _

theorem turnOn_goesOn (s : State) (a : Attempt) : GoesOn (s.turnOn run a) := by
  refine ite_goesOn (next_goesOn _) <| ite_goesOn (next_goesOn _) <| ite_goesOn (next_goesOn _) <|
    ite_goesOn (next_goesOn _) ?_
  cases a with
  | go h slots => exact issueBundle_goesOn hrun _ h slots
  | _ => exact next_goesOn _

theorem turn_goesOn (s : State) : GoesOn (s.turn run) :=
  ite_goesOn (turnOn_goesOn hrun s s.attempt) (next_goesOn s)

theorem takeTurn_goesOn (s : State) : GoesOn (s.takeTurn run) := by
  obtain ⟨t, ht⟩ := turn_goesOn hrun s
  simp only [State.takeTurn, ht]
  exact next_goesOn _

/-- A step is one event that the agenda brings, or, with nothing to come, the first of: the late issue of a bundle, a
request served, an event whose time has come, one without a stated time, and the turn of the strand in front. -/
theorem stepWith_goesOn (s : State) : GoesOn (s.stepWith run) := by
  unfold State.stepWith
  split
  next i t _ => exact ite_goesOn (next_goesOn t) (hrun i _)
  next =>
    refine ite_goesOn (next_goesOn _) ?_
    split
    next u _ => exact issueLate_goesOn hrun s u.place
    next =>
      split
      next t _ => exact next_goesOn t
      next =>
        split
        next t _ => exact next_goesOn t
        next =>
          split
          next t _ => exact next_goesOn t
          next => exact takeTurn_goesOn hrun s

end

theorem step_goesOn (s : State) : GoesOn (step s) := stepWith_goesOn exec_goesOn s

/-- Settles O55: exec goes on at every instruction and event, and a step runs nothing but exec. -/
theorem nothingStops : Obligations.NothingStops := fun s => ⟨step_goesOn s, fun i => exec_goesOn i s⟩

end Sys2Proof.Machine
end

section
/-! SUPPORT. The selector hands issue over (01 R43, 02 R62, R63). -/

namespace Sys2Proof.Machine

/-- Handing issue over names a ready strand, which may issue from the second cycle on (02 R63). -/
theorem handOver_to {s : State} {v : Strand} (h : pickBest s.otherReady = some v) :
    s.handOver.core.holder = v.place.strand ∧ s.handOver.core.switchUntil = s.now + 2 := by
  simp [State.handOver, h, Config.switchCycles]

/-- Whether there is a strand to hand issue to or not, the registers of the strand in front and the memory stay. -/
theorem handOver_frame (s : State) : s.handOver.u.regs = s.u.regs ∧ s.handOver.mem = s.mem := by
  unfold State.handOver
  split
  · exact ⟨rfl, rfl⟩
  · refine ⟨?_, rfl⟩
    dsimp only [modCore_u, State.mapStrands]
    split <;> rfl

/-- The old holder becomes READY (01 R20) only where it was RUNNING. -/
theorem handOver_st {s : State} (h : s.u.st ≠ .running) : s.handOver.u.st = s.u.st := by
  unfold State.handOver
  split
  · rfl
  · simp [State.mapStrands, h]

/-- The strand that holds issue is not among those ready beside it, so its own state does not count there. -/
theorem otherReady_modU {s : State} {f : Strand → Strand} (hp : (f s.u).place = s.u.place)
    (hh : s.core.holder = s.u.place.strand) : (s.modU f).otherReady = s.otherReady := by
  simp [State.otherReady, State.coreStrands, State.allStrands, Place.sameCore, hp, hh]

/-- Without a CCAN in its bundle, a RUNNING strand that slack holds back is BLOCKED, and the issue that it held passes on
(02 R62, R63). -/
theorem exec_slackExhausted_blocks {s : State} (hr : s.u.st = .running) (ht : s.u.trap.settle = none) (hw : s.waitsSlack = true)
    (hc : ∀ x ∈ s.nextSlots, isCcan x.2 = false) :
    let s1 := s.modU (fun u => { u with st := .blocked })
    exec .slackExhausted s = .next (if s.core.holder = s.u.place.strand then s1.handOver else s1) := by
  have hn : s.nextSlots.any (fun (_, i) => isCcan i) = false :=
    List.any_eq_false.mpr fun x hx => by simp [hc x hx]
  simp only [exec_slackExhausted, execSlackExhausted, hr, ht, hw, hn, decide_true, Option.isNone_none, Bool.not_false,
    Bool.and_self, if_true]

/-- Slack never holds back a bundle with CCAN (15 R326; log 94). -/
theorem exec_slackExhausted_ccan {s : State} (h : ∃ x ∈ s.nextSlots, isCcan x.2 = true) : exec .slackExhausted s = .next s := by
  have hn : s.nextSlots.any (fun (_, i) => isCcan i) = true := List.any_eq_true.mpr h
  simp only [exec_slackExhausted, execSlackExhausted, hn, Bool.not_true, Bool.and_false, Bool.false_eq_true, if_false]

/-- Settles O35: both events hand issue over by `State.handOver`; a strand that slack blocks keeps its registers. -/
theorem issueIsHandedOver : Obligations.IssueIsHandedOver := by
  unfold Obligations.IssueIsHandedOver
  intro s v
  refine ⟨fun hready hover hv => ?_, fun hr ht hw hc => ?_, exec_slackExhausted_ccan⟩
  · obtain ⟨hholder, hswitch⟩ := handOver_to hv
    obtain ⟨hregs, hmem⟩ := handOver_frame s
    refine ⟨s.handOver, ?_, hholder, hswitch, hregs, hmem⟩
    simp [exec_quantumExpiry, execQuantumExpiry, hready, hover]
  · refine ⟨_, exec_slackExhausted_blocks hr ht hw hc, ?_⟩
    set s1 := s.modU (fun u => { u with st := .blocked })
    by_cases hh : s.core.holder = s.u.place.strand
    · simp only [hh, if_true]
      obtain ⟨hregs, hmem⟩ := handOver_frame s1
      refine ⟨handOver_st (s := s1) nofun, hregs, hmem, fun _ hv => handOver_to (s := s1) ?_⟩
      rwa [otherReady_modU rfl hh]
    · simp only [hh, if_false]
      exact ⟨rfl, rfl, rfl, fun h => h.elim⟩

end Sys2Proof.Machine
end

section
/-! SUPPORT. What stands in front, and the placing of a group that is one unit (01 R24, R28; 10 R234). -/

namespace Sys2Proof.Machine

/-- Bringing to the front what stands there changes nothing. -/
theorem focus_front {s : State} (hc : s.core.at s.u.place = true) (hd : s.die.num = s.u.place.die) : s.focus s.u.place = s := by
  simp [State.focus, swapFront, hc, hd]

/-- Acting at the place in front is acting in front. -/
@[simp] theorem at_front (s : State) (f : State → State) : s.at s.u.place f = f s := if_pos rfl

theorem dieAt_front (s : State) : s.dieAt s.die.num = some s.die := by simp [State.dieAt, State.allDies]

/-- The strand in front is the first one asked for the unit that it holds. -/
theorem strandOf_front {s : State} {w : UnitId} (h : s.u.holds w = true) : s.strandOf w = some s.u := by
  simp [State.strandOf, State.allStrands, h]

theorem atUnit_front {s : State} {w : UnitId} (h : s.u.holds w = true) (f : State → State) : s.atUnit w f = f s := by
  simp [State.atUnit, strandOf_front h]

/-- A group of one unit has one plan: its team wherever it fits. -/
theorem groupPlans_single (m : Member) : groupPlans [[m]] = [[⟨[0, 1, 2], [], [m]⟩]] := rfl

/-- A team with nobody left to place is placed. -/
theorem placeTeams_nobody {s : State} {x : Die} {d : Nat} (hx : s.dieAt d = some x) (launch prio k : Nat) (avoid : List Nat)
    (enter : Member → State → State) : State.placeTeams d launch prio enter [⟨[k], avoid, []⟩] s = some s := by
  simp [State.placeTeams, hx, State.findSquad, State.teamPlaces]

/-- A group of one unit that fits on the strand in front enters there. -/
theorem placeWhole_single {s : State} {x : Die} {d launch prio : Nat} {m : Member} (hx : s.dieAt d = some x)
    (hm : s.findTeam x launch prio [m] = some [(m, s.u.place)]) (enter : Member → State → State) :
    s.placeWhole d launch prio enter [[m]] = some (enter m s) := by
  have hq : s.findSquad x launch prio ⟨[0, 1, 2], [], [m]⟩ = some [(m, s.u.place)] := hm
  simp [State.placeWhole, groupPlans_single, State.placeTeams, hx, hq]

/-- Rebuilding the peer windows (01 R41) changes no other part of the strand in front. -/
theorem linkPeers_u (s : State) (d launch nbh : Nat) :
    ∃ ps, (s.linkPeers d launch nbh).u = { s.u with own := { s.u.own with peers := ps } } := by
  simp only [State.linkPeers, State.mapStrands]
  split
  · exact ⟨_, rfl⟩
  · exact ⟨s.u.own.peers, rfl⟩

@[simp] theorem linkPeers_core (s : State) (d launch nbh : Nat) : (s.linkPeers d launch nbh).core = s.core := rfl
@[simp] theorem linkPeers_work (s : State) (d launch nbh : Nat) : (s.linkPeers d launch nbh).work = s.work := rfl
@[simp] theorem linkPeers_die (s : State) (d launch nbh : Nat) : (s.linkPeers d launch nbh).die = s.die := rfl

@[simp] theorem modDieAt_u (s : State) (d : Nat) (f : Die → Die) : (s.modDieAt d f).u = s.u := by
  unfold State.modDieAt; split <;> rfl
@[simp] theorem modDieAt_core (s : State) (d : Nat) (f : Die → Die) : (s.modDieAt d f).core = s.core := by
  unfold State.modDieAt; split <;> rfl
@[simp] theorem modDieAt_work (s : State) (d : Nat) (f : Die → Die) : (s.modDieAt d f).work = s.work := by
  unfold State.modDieAt; split <;> rfl

@[simp] theorem modLaunch_u (s : State) (uid : Nat) (f : Launch → Launch) : (s.modLaunch uid f).u = s.u := rfl
@[simp] theorem modLaunch_core (s : State) (uid : Nat) (f : Launch → Launch) : (s.modLaunch uid f).core = s.core := rfl
@[simp] theorem modLaunch_launches (s : State) (uid : Nat) (f : Launch → Launch) :
    (s.modLaunch uid f).work.launches = updFirst (fun l => l.uid = uid) f s.work.launches := rfl

end Sys2Proof.Machine
end

section
/-! SUPPORT. A unit enters on the strand in front (01 R40; 10 R234 to R236). -/

namespace Sys2Proof.Machine

/-- Nothing is cleared for a unit of the context that the strand is in (01 R40). -/
theorem enterContext_same {s : State} {ctx : Nat} (h : ctx = s.u.own.ctx) (w : UnitId) : s.enterContext ctx w = s :=
  if_pos h.symm

/-- The scalars at entry (01 R40): each listed one reads its value, and s6 zero. -/
theorem entryScalars_lookup (rank g member size argoff : Nat) :
    let t := entryScalars rank g member size argoff
    lookup 0 t 1 = BitVec.ofNat 64 rank ∧ lookup 0 t 2 = BitVec.ofNat 64 g ∧ lookup 0 t 3 = BitVec.ofNat 64 member ∧
      lookup 0 t 4 = BitVec.ofNat 64 size ∧ lookup 0 t 5 = mkPaddr 3 15 argoff ∧ lookup 0 t 6 = 0 := by
  have h0 : wfTab 0 ([] : Tab Word) = true := rfl
  have h1 := put_wf (k := 1) (v := BitVec.ofNat 64 rank) h0
  have h2 := put_wf (k := 2) (v := BitVec.ofNat 64 g) h1
  have h3 := put_wf (k := 3) (v := BitVec.ofNat 64 member) h2
  have h4 := put_wf (k := 4) (v := BitVec.ofNat 64 size) h3
  simp only [entryScalars, lookup_put_self, lookup_put_ne, h0, h1, h2, h3, h4, ne_eq, Nat.reduceEqDiff,
    OfNat.ofNat_ne_one, OfNat.one_ne_ofNat, not_false_eq_true, lookup, and_self]

/-- What a unit alone in its team finds on the strand that it enters. -/
theorem enterUnit_alone (s : State) (l : Launch) (x : Slot) (prio r : Nat) :
    let u := (s.enterUnit l x prio r r 1 r).u
    u.who = ⟨l.uid, r⟩ ∧ u.st = .ready ∧ u.privileged = false ∧ u.pc = BitVec.ofNat 64 x.desc.entry ∧
      u.loops = [] ∧ u.flights = [] ∧ u.own.prio = prio := ⟨rfl, rfl, rfl, rfl, rfl, rfl, rfl⟩

/-- Its scalars: member 0 of a team of one. -/
theorem enterUnit_scalars (s : State) (l : Launch) (x : Slot) (prio r : Nat) :
    let u := (s.enterUnit l x prio r r 1 r).u
    u.scalar 1 = BitVec.ofNat 64 r ∧ u.scalar 2 = BitVec.ofNat 64 l.g ∧ u.scalar 3 = 0 ∧ u.scalar 4 = 1 ∧
      u.scalar 5 = mkPaddr 3 15 l.argoff ∧ u.scalar 6 = 0 := by
  obtain ⟨h1, h2, h3, h4, h5, h6⟩ := entryScalars_lookup r l.g (r - r) 1 l.argoff
  exact ⟨h1, h2, h3.trans (by rw [Nat.sub_self]; rfl), h4, h5, h6⟩

/-- Entering changes nothing of the queues' work. -/
theorem enterUnit_work {s : State} {l : Launch} (h : l.ctx = s.u.own.ctx) (x : Slot) (prio nbh first size rank : Nat) :
    (s.enterUnit l x prio nbh first size rank).work = s.work := by
  change (s.enterContext l.ctx ⟨l.uid, rank⟩).work = s.work
  rw [enterContext_same h]

/-- The array goes to a unit whose slot asks for it (01 R22). -/
theorem enterUnit_owner {s : State} {l : Launch} {x : Slot} (h : x.desc.array = true) (prio nbh first size rank : Nat) :
    (s.enterUnit l x prio nbh first size rank).core.matrix.owner = some ⟨l.uid, rank⟩ := by
  simp [State.enterUnit, h]

/-- A launch whose share of a die has moved one unit on, its priority bound there (10 R234). -/
def Launch.movedOn (d prio : Nat) (l : Launch) : Launch :=
  { l with shares := l.shares.map (fun h => if h.die = d then { h with next := h.next + 1, prio := some prio } else h) }

/-- The next group of a launch, one unit that fits on the strand in front, enters there; then the share moves on, what was
drained for the launch is no longer awaited (10 R241), and the unit's peer window is built. -/
theorem placeGroup_single {s : State} {x : Die} {l : Launch} {sl : Slot} {r : Nat} (hx : s.dieAt x.num = some x)
    (hn : s.nextGroup l x.num = some (sl, [[r]]))
    (hf : s.findTeam x l.uid (s.prioOn l x.num) [.fresh ⟨l.uid, r⟩ sl.desc] = some [(.fresh ⟨l.uid, r⟩ sl.desc, s.u.place)]) :
    s.placeGroup l x.num = some ((((s.enterUnit l sl (s.prioOn l x.num) r r 1 r).modLaunch l.uid
      (Launch.movedOn x.num (s.prioOn l x.num))).modDieAt x.num
        (fun y => { y with drains := y.drains.filter (fun d => d.target ≠ l.uid) })).linkPeers x.num l.uid r) := by
  have ht : [[r]].find? (fun t => t.contains r) = some [r] := by simp
  simp only [State.placeGroup, hn, List.map_cons, List.map_nil, placeWhole_single hx hf, Option.map_some, ht]
  rfl

/-- So the unit stands on the strand in front as it entered, but for its peer window, and its launch has moved on. -/
theorem placeGroup_enters {s : State} {x : Die} {l : Launch} {sl : Slot} {r : Nat} (hx : s.dieAt x.num = some x)
    (hn : s.nextGroup l x.num = some (sl, [[r]]))
    (hf : s.findTeam x l.uid (s.prioOn l x.num) [.fresh ⟨l.uid, r⟩ sl.desc] = some [(.fresh ⟨l.uid, r⟩ sl.desc, s.u.place)]) :
    let e := s.enterUnit l sl (s.prioOn l x.num) r r 1 r
    ∃ t ps, s.placeGroup l x.num = some t ∧ t.u = { e.u with own := { e.u.own with peers := ps } } ∧ t.core = e.core ∧
      t.work.launches = updFirst (fun m => m.uid = l.uid) (Launch.movedOn x.num (s.prioOn l x.num)) e.work.launches := by
  have hp := placeGroup_single hx hn hf
  obtain ⟨ps, hu⟩ := linkPeers_u (((s.enterUnit l sl (s.prioOn l x.num) r r 1 r).modLaunch l.uid
    (Launch.movedOn x.num (s.prioOn l x.num))).modDieAt x.num
      (fun y => { y with drains := y.drains.filter (fun d => d.target ≠ l.uid) })) x.num l.uid r
  rw [modDieAt_u, modLaunch_u] at hu
  exact ⟨_, ps, hp, hu, by simp, by simp⟩

/-- PLACEMENT where a launch alone waits and its next group can be placed: that group is placed, and the launch's queue is the
one selected last (10 R234). -/
theorem exec_placement_pending {s t : State} {x : Die} {l : Launch} (hs : s.dieServes x.num = true) (hx : s.dieAt x.num = some x)
    (hp : s.toPlace x true = [.pending l]) (hl : s.work.launches ≠ []) (ht : s.placeGroup l x.num = some t) :
    ∃ hw, exec (.placement x.num) s = .next (t.modDieAt x.num (fun y => { y with lastHwq := hw })) := by
  have hne : s.work.launches.isEmpty = false := by simpa using hl
  simp only [exec_placement, execPlacement, State.placeOn, hne, Bool.false_and, Bool.false_eq_true, if_false, hs, if_true, hx, hp,
    State.placeFirst, ht, Option.getD_some]
  exact ⟨_, rfl⟩

/-- Settles O44: the unit that `enterUnit` puts on the strand, its launch's share moved on. -/
theorem unitsEnter : Obligations.UnitsEnter := by
  unfold Obligations.UnitsEnter
  intro s x l sl h r hs hx hp hl hn hf hctx
  obtain ⟨p, ps, hplace, hu, hcore, hlaunches⟩ := placeGroup_enters hx hn hf
  obtain ⟨hw, ht⟩ := exec_placement_pending hs hx hp hl hplace
  refine ⟨_, ht, ?_⟩
  rw [modDieAt_u, modDieAt_core, modDieAt_work, hu, hcore, hlaunches, enterUnit_work hctx]
  obtain ⟨hwho, hst, hpriv, hpc, hloops, hflights, hprio⟩ := enterUnit_alone s l sl (s.prioOn l x.num) r
  obtain ⟨h1, h2, h3, h4, h5, h6⟩ := enterUnit_scalars s l sl (s.prioOn l x.num) r
  refine ⟨hwho, hst, hpriv, hpc, h1, h2, h3, h4, h5, h6, hloops, hflights, hprio, fun ha => enterUnit_owner ha ..,
    fun hone hshare hdie => ?_⟩
  refine ⟨Launch.movedOn x.num (s.prioOn l x.num) l, { h with next := h.next + 1, prio := some (s.prioOn l x.num) }, ?_, ?_, rfl⟩
  · simp [hone, updFirst]
  · simp [Launch.movedOn, hshare, hdie]

end Sys2Proof.Machine
end

section
/-! SUPPORT. Accounting a unit (01 R35, R36) writes counters and bitmaps and marks launches, graphs and phases; what stands on
strands, what cores hold and what is saved stay. -/

namespace Sys2Proof.Machine

/-- Two states with the same strand and core in front and the same units saved. -/
structure SameUnits (s t : State) : Prop where
  u : t.u = s.u
  core : t.core = s.core
  saved : t.work.saved = s.work.saved

theorem SameUnits.refl (s : State) : SameUnits s s := ⟨rfl, rfl, rfl⟩

theorem SameUnits.trans {r s t : State} (h : SameUnits r s) (k : SameUnits s t) : SameUnits r t :=
  ⟨k.u.trans h.u, k.core.trans h.core, k.saved.trans h.saved⟩

theorem sameUnits_logEntry (s : State) (e : FaultEntry) : SameUnits s (s.logEntry e) := by
  unfold State.logEntry
  split <;> exact ⟨rfl, rfl, rfl⟩

theorem sameUnits_updateWord (s : State) (ctx a : Nat) (v : Word) : SameUnits s (s.updateWord ctx a v) :=
  foldl_inv (SameUnits s) _ _ ⟨rfl, rfl, rfl⟩ fun t _ _ h => h.trans (sameUnits_logEntry t _)

theorem sameUnits_notify (s : State) (on : Bool) (page : Nat) : SameUnits s (s.notify on page) := by
  cases on <;> exact ⟨rfl, rfl, rfl⟩

theorem sameUnits_modPhase (s : State) (ctx id : Nat) (f : Phase → Phase) : SameUnits s (s.modPhase ctx id f) := ⟨rfl, rfl, rfl⟩

theorem sameUnits_modLaunch (s : State) (uid : Nat) (f : Launch → Launch) : SameUnits s (s.modLaunch uid f) := ⟨rfl, rfl, rfl⟩

theorem sameUnits_phaseAdd (s : State) (ctx pid : Nat) (ab : Bool) : SameUnits s (s.phaseAdd ctx pid ab) := by
  unfold State.phaseAdd
  split
  next => exact .refl s
  next p _ =>
    dsimp only
    split
    · exact (((sameUnits_updateWord ..).trans (sameUnits_modPhase ..)).trans (sameUnits_notify ..)).trans (sameUnits_updateWord ..)
    · exact sameUnits_updateWord ..

theorem sameUnits_graphAdd (s : State) (ctx pid gid : Nat) (ab : Bool) : SameUnits s (s.graphAdd ctx pid gid ab) := by
  unfold State.graphAdd
  split
  next => exact .refl s
  next g _ =>
    dsimp only
    split
    · exact ((sameUnits_updateWord ..).trans (sameUnits_modPhase ..)).trans (sameUnits_phaseAdd ..)
    · exact sameUnits_updateWord ..

theorem sameUnits_launchAdd (s : State) (uid n : Nat) (ab : Bool) : SameUnits s (s.launchAdd uid n ab) := by
  unfold State.launchAdd
  split
  next => exact .refl s
  next =>
    split
    next => exact .refl s
    next l _ =>
      dsimp only
      split
      · exact (((sameUnits_updateWord ..).trans (sameUnits_modLaunch ..)).trans (sameUnits_notify ..)).trans (sameUnits_graphAdd ..)
      · exact sameUnits_updateWord ..

theorem sameUnits_accountUnit (s : State) (w : UnitId) (ab : Bool) : SameUnits s (s.accountUnit w ab) := by
  unfold State.accountUnit
  split
  next => exact .refl s
  next l _ =>
    dsimp only
    split
    · exact (sameUnits_updateWord ..).trans (sameUnits_launchAdd ..)
    · exact sameUnits_launchAdd ..

end Sys2Proof.Machine
end

section
/-! SUPPORT. The end of a unit (01 R20, R21; 11 R253) and the cancelling of copies that outlast its stop (11 R256). -/

namespace Sys2Proof.Machine

/-- A core that a unit has left holds no allocation of it, and its array only for another. -/
theorem release_spec (c : Core) (w : UnitId) :
    (∀ a ∈ (c.release w).allocs, a.who ≠ w) ∧ (c.release w).matrix.owner ≠ some w ∧
      (c.matrix.owner ≠ some w → (c.release w).matrix.owner = c.matrix.owner) := by
  refine ⟨fun a ha => of_decide_eq_true (List.mem_filter.mp ha).2, ?_, fun h => ?_⟩
  · by_cases h : c.matrix.owner = some w <;> simp [Core.release, h]
  · simp [Core.release, h]

/-- UNIT_ENDED (01 R21): the strand is free and the core released; the accounting changes neither. -/
theorem exec_unitEnded_done {s : State} (h : s.endDone = true) :
    ∃ t, exec .unitEnded s = .next t ∧ t.u.st = .absent ∧
      t.core = ({ s.core with matrix := s.core.matrix.noteHeld s.now } : Core).release s.u.who := by
  refine ⟨_, congrArg Host.Outcome.next (if_pos h : s.unitEnded = _), ?_, ?_⟩
  · exact congrArg Strand.st (sameUnits_accountUnit ..).u
  · exact (sameUnits_accountUnit ..).core

/-- TERMINATION (11 R253) of a unit that firmware holds removes it from those saved. -/
theorem exec_termination_saved {s : State} {l r : Nat} {sv : Saved}
    (h : s.work.saved.find? (fun x => decide (x.who = ⟨l, r⟩) && x.firmware) = some sv) :
    ∃ t, exec (.termination l r) s = .next t ∧ t.work.saved = s.work.saved.filter (fun x => decide (x.who ≠ ⟨l, r⟩)) := by
  have hwho : sv.who = ⟨l, r⟩ := by
    have := List.find?_some h
    simp_all
  refine ⟨s.removeSaved ⟨l, r⟩, ?_, (sameUnits_accountUnit _ _ true).saved⟩
  simp [exec_termination, execTermination, h, hwho]

theorem setScalar_wf {u : Strand} (h : wfTab 0 u.regs.s = true) (n : Nat) (v : Word) :
    wfTab 0 (u.setScalar n v).regs.s = true := by
  unfold Strand.setScalar
  split
  · exact h
  · exact put_wf h

/-- Writing one scalar leaves another (05 R106). -/
theorem scalar_setScalar_ne {u : Strand} {k n : Nat} (hk : k ≠ n) (h : wfTab 0 u.regs.s = true) (v : Word) :
    (u.setScalar n v).scalar k = u.scalar k := by
  unfold Strand.setScalar Strand.scalar
  by_cases hn : n = 0
  · simp only [hn, if_true]
  · simp only [hn, if_false, lookup_put_ne hk h]

/-- A copy done: where CPYK's scalar is not the token's, the token holds the status (08 R185). -/
theorem scalar_copyDone {s : State} {c : CCmd} (hs : wfTab 0 s.u.regs.s = true) (ht : c.tok ≠ 0)
    (hm : c.op ≠ 5 ∨ c.mreg % 64 ≠ c.tok) (code : Nat) :
    (s.copyDone c code).u.scalar c.tok = copyStatus code c.xi c.wr c.moved := by
  set u1 := s.u.setScalar c.tok (copyStatus code c.xi c.wr c.moved) with hu1
  have h1 : u1.scalar c.tok = copyStatus code c.xi c.wr c.moved := by simp [hu1, scalar_setScalar _ _ _ hs, ht]
  by_cases h5 : c.op = 5
  · have hne : c.tok ≠ c.mreg % 64 := (hm.resolve_left (not_not.mpr h5)).symm
    have h2 (v : Word) : (u1.setScalar (c.mreg % 64) v).scalar c.tok = copyStatus code c.xi c.wr c.moved :=
      (scalar_setScalar_ne hne (setScalar_wf hs ..) v).trans h1
    simp only [State.copyDone, modCore_u, modU_u, h5, if_true]
    split <;> simp [← hu1, h2]
  · simp only [State.copyDone, modCore_u, modU_u, h5, if_false]
    split <;> simp [← hu1, h1]

/-- ENGINE_STOP_TIMEOUT (11 R256) of a unit with one copy cancels it with code 6 and the bytes moved (08 R189). -/
theorem exec_engineStopTimeout_one {s : State} {f : Nat} {c : CCmd} (hf : s.u.trap.settle = some f) (hl : f + 65536 ≤ s.now)
    (hc : s.core.copiesOf s.u.who = [c]) (hcoll : c.coll = false) :
    exec .engineStopTimeout s = .next (s.copyDone { c with xi := 0, wr := false } 6) := by
  simp [exec_engineStopTimeout, execEngineStopTimeout, State.engineStopTimeout, hf, Config.engineStop, hl, hc, State.cancelCopy,
    hcoll]

theorem copyStatus_cancelled (n : Nat) : copyStatus 6 0 false n = BitVec.ofNat 64 (6 + 65536 * n) := by simp [copyStatus]

end Sys2Proof.Machine
end

section
/-! SUPPORT. A unit resumes from its save area onto the strand in front (11 R260), alone in its group. -/

namespace Sys2Proof.Machine

/-- What the steps of a resume that go before the unit's own state keep: the place of the strand in front, the number of its die,
and the work of the queues. -/
structure SameSeat (s t : State) : Prop where
  place : t.u.place = s.u.place
  die : t.die.num = s.die.num
  work : t.work = s.work

theorem SameSeat.refl (s : State) : SameSeat s s := ⟨rfl, rfl, rfl⟩

theorem SameSeat.trans {r s t : State} (h : SameSeat r s) (k : SameSeat s t) : SameSeat r t :=
  ⟨k.place.trans h.place, k.die.trans h.die, k.work.trans h.work⟩

theorem sameSeat_foldl {α : Type} {f : State → α → State} (h : ∀ s a, SameSeat s (f s a)) (s : State) (l : List α) :
    SameSeat s (l.foldl f s) := foldl_inv (SameSeat s) l s (.refl s) fun t a _ ht => ht.trans (h t a)

theorem sameSeat_claimFor (s : State) (k : Nat) : SameSeat s (s.claimFor k) := by
  unfold State.claimFor State.saveGroup
  dsimp only
  split
  · split <;> exact ⟨rfl, rfl, rfl⟩
  · exact .refl s

theorem sameSeat_regrant (s : State) (area : Nat) (a : Alloc) : SameSeat s (s.regrant area a) := ⟨rfl, rfl, rfl⟩

theorem setGroups_place (ks : List Nat) (u : Strand) (f : Strand → Nat → TGroup) :
    (ks.foldl (fun u k => u.setGroup k (f u k)) u).place = u.place :=
  foldl_inv (fun v : Strand => v.place = u.place) ks u rfl fun v k _ h => (setGroup_place v k (f v k)).trans h

theorem restoreGroup_place (u : Strand) (m : Memory) (area k : Nat) (w : UnitId) : (restoreGroup u m area k w).place = u.place := by
  unfold restoreGroup
  rw [setGroup_place]
  exact foldl_inv (fun v : Strand => v.place = u.place) _ u rfl fun v _ _ h => (putVreg_place v _ _).trans h

theorem restoreGroups_place (ks : List Nat) (u : Strand) (m : Memory) (area : Nat) (w : UnitId) :
    (ks.foldl (fun u k => restoreGroup u m area k w) u).place = u.place :=
  foldl_inv (fun v : Strand => v.place = u.place) ks u rfl fun v k _ h => (restoreGroup_place v m area k w).trans h

/-- Where no other strand holds tile groups of a unit, none has to be gathered (05 R125). -/
theorem gatherGroups_none {s : State} {w : UnitId} (h : ∀ u ∈ s.strands, groupsOf u w = []) : s.gatherGroups w = s := by
  have hnil : s.strands.filter (fun u => groupsOf u w ≠ []) = [] := List.filter_eq_nil_iff.mpr fun u hu => by simp [h u hu]
  simp only [State.gatherGroups, hnil, List.foldl_nil]

/-- The unit of a save area stands READY at the place p of the strand in front, unprivileged, at the bundle `pc`, no fault pending,
and no unit is saved. -/
structure Seated (w : UnitId) (p : Place) (pc : Word) (t : State) : Prop where
  place : t.u.place = p
  die : t.die.num = p.die
  who : t.u.who = w
  st : t.u.st = .ready
  privileged : t.u.privileged = false
  pc : t.u.pc = pc
  pend : t.u.trap.pend = none
  saved : t.work.saved = []

/-- Before the unit's own state is set, a restore grants its allocations and claims its tile groups; the place, the die and the
work then follow. -/
theorem restore_seat (s : State) (sv : Saved) : ∃ t, SameSeat ((s.gatherGroups sv.who).enterContext sv.own.ctx sv.who) t ∧
    (s.restore sv).die = t.die ∧ (s.restore sv).u.place = t.u.place ∧
      (s.restore sv).work.saved = t.work.saved.filter (fun x => decide (x.who ≠ sv.who)) := by
  refine ⟨_, ?_, ?_, ?_, rfl⟩
  · exact (sameSeat_foldl (fun s a => sameSeat_regrant s _ _) _ _).trans (sameSeat_foldl sameSeat_claimFor _ _)
  · rfl
  · exact (setGroups_place ..).trans (restoreGroups_place ..)

/-- No fault is pending where the area's header has none (11 R259). -/
theorem restore_pend {s : State} {sv : Saved}
    (h : (readAreaHeader ((s.gatherGroups sv.who).enterContext sv.own.ctx sv.who).mem sv.area).pendf = false) :
    (s.restore sv).u.trap.pend = none := if_neg (ne_true_of_eq_false h)

/-- The restore of the one unit saved, onto a strand of its context with no tile groups of it elsewhere. -/
theorem restore_seated {s : State} {sv : Saved} (hg : ∀ u ∈ s.strands, groupsOf u sv.who = []) (hctx : sv.own.ctx = s.u.own.ctx)
    (hpend : (readAreaHeader s.mem sv.area).pendf = false) (hsaved : s.work.saved.filter (fun x => decide (x.who ≠ sv.who)) = [])
    (hd : s.die.num = s.u.place.die) :
    Seated sv.who s.u.place (BitVec.ofNat 64 (readAreaHeader s.mem sv.area).ridx) (s.restore sv) := by
  have h1 : (s.gatherGroups sv.who).enterContext sv.own.ctx sv.who = s := by
    rw [gatherGroups_none hg, enterContext_same hctx]
  obtain ⟨t, ht, hdie, hplace, hleft⟩ := restore_seat s sv
  rw [h1] at ht
  exact {
    place := hplace.trans ht.place
    die := by rw [hdie, ht.die, hd]
    who := rfl
    st := rfl
    privileged := rfl
    pc := congrArg (fun x : State => BitVec.ofNat 64 (readAreaHeader x.mem sv.area).ridx) h1
    pend := restore_pend (by rw [h1]; exact hpend)
    saved := by rw [hleft, ht.work, hsaved] }

section
variable {s t : State} {w : UnitId} {p : Place} {pc : Word} (h : Seated w p pc s)
include h

/-- What changes neither the strand in front, the number of its die nor the work leaves the unit seated. -/
theorem Seated.of_same (hu : t.u = s.u) (hd : t.die.num = s.die.num) (hw : t.work = s.work) : Seated w p pc t :=
  ⟨hu ▸ h.place, hd ▸ h.die, hu ▸ h.who, hu ▸ h.st, hu ▸ h.privileged, hu ▸ h.pc, hu ▸ h.pend, hw ▸ h.saved⟩

theorem Seated.rehold : Seated w p pc s.rehold := h.of_same rfl rfl rfl

theorem Seated.unpark (v : UnitId) : Seated w p pc (s.unpark v) := by
  refine Seated.of_same (foldl_inv (Seated w p pc) _ s h fun s p _ hs => ?_) rfl rfl rfl
  dsimp only
  split
  · exact hs
  · exact hs.of_same rfl rfl rfl

theorem Seated.holds : s.u.holds w = true := by simp [Strand.holds, h.st, h.who, UState.onStrand]

theorem Seated.linkPeers (d launch nbh : Nat) : Seated w p pc (s.linkPeers d launch nbh) := by
  obtain ⟨ps, hu⟩ := linkPeers_u s d launch nbh
  obtain ⟨hplace, hdie, hwho, hst, hpriv, hpc, hpend, hsaved⟩ := h
  constructor <;> simp [*]

/-- With no fault pending, the end of a resume only re-injects the queue (11 R260). -/
theorem Seated.finishResume : Seated w p pc s.finishResume := by
  obtain ⟨hplace, hdie, hwho, hst, hpriv, hpc, hpend, hsaved⟩ := h
  unfold State.finishResume
  simp only [hpend]
  split <;> exact ⟨hplace, hdie, hwho, hst, hpriv, hpc, hpend, hsaved⟩

end

/-- The first resume after a warm return changes the supply's and the secure element's records only (12 R275). -/
theorem firstResume_frame (s : State) : ∃ sup sec, s.firstResume = { s with supply := sup, secure := sec } := by
  unfold State.firstResume
  dsimp only
  split <;> exact ⟨_, _, rfl⟩

/-- A unit that no PIPE_ERR stopped, taken up from its own area (11 R260). -/
theorem takeUp_seated {s : State} {sv : Saved} (hg : ∀ u ∈ s.strands, groupsOf u sv.who = []) (hctx : sv.own.ctx = s.u.own.ctx)
    (hpend : (readAreaHeader s.mem sv.area).pendf = false) (hsaved : s.work.saved.filter (fun x => decide (x.who ≠ sv.who)) = [])
    (hd : s.die.num = s.u.place.die) (hc : sv.cause ≠ 0x11) :
    Seated sv.who s.u.place (BitVec.ofNat 64 (readAreaHeader s.mem sv.area).ridx) (s.takeUp sv) := by
  have hsrc : sv.source = sv := if_neg hc
  obtain ⟨sup, sec, hf⟩ := firstResume_frame s
  have hr (x : Tab (BitVec 256)) : Seated sv.who s.u.place (BitVec.ofNat 64 (readAreaHeader s.mem sv.area).ridx)
      (s.firstResume.resumeHere { sv.source with extents := x }) := by
    rw [hf, hsrc]
    exact (restore_seated (s := { s with supply := sup, secure := sec }) (sv := { sv with extents := x }) hg hctx hpend hsaved hd).rehold
  by_cases hshed : sv.shed = true <;> simp only [State.takeUp, hshed, if_true, if_false, Bool.false_eq_true]
  · exact (hr _).unpark _
  · exact hr _

end Sys2Proof.Machine
end

section
/-! SUPPORT. The group of one saved unit resumes as a whole (01 R24; 11 R253, R260). -/

namespace Sys2Proof.Machine

/-- No member of a launch's group stands on a strand where the launch has none there. -/
theorem groupStrands_none {s : State} {launch : Nat} (hu : s.u.st = .absent)
    (h : ∀ u ∈ s.strands, u.st.onStrand = true → u.who.launch ≠ launch) (d nbh : Nat) : s.groupStrands d launch nbh = [] := by
  refine List.filter_eq_nil_iff.mpr fun u hmem => ?_
  rcases List.mem_cons.mp hmem with rfl | hmem
  · simp [hu, UState.onStrand]
  · have := h u hmem
    simp_all

/-- The one unit saved is a team and a group of its own. -/
theorem resumeTeams_single {s : State} {sv : Saved} (h : s.work.saved = [sv]) (hm : s.mayResume sv = true) :
    s.resumeTeams sv.die sv.who.launch sv.own.nbh = some [[.saved sv]] := by
  simp [State.resumeTeams, State.savedGroup, h, hm, insertNat, insertBy, sortBy]

/-- With its only member at a place, a plan has nobody left to place. -/
theorem pinned_single {sv : Saved} {p : Place} (h : p.cluster < 3) :
    pinned sv.who p [⟨[0, 1, 2], [], [.saved sv]⟩] = some [⟨[p.cluster], [placeIndex p], []⟩] := by
  have hc : p.cluster = 0 ∨ p.cluster = 1 ∨ p.cluster = 2 := by omega
  rcases hc with hc | hc | hc <;> simp [pinned, Member.who, hc]

/-- The one unit saved, alone in its group, resumes at the place in front where it fits. -/
theorem resumeWith_single {s : State} {sv : Saved} (hsaved : s.work.saved = [sv]) (hst : s.u.st = .absent)
    (hcore : s.core.at s.u.place = true) (hcluster : s.u.place.cluster < 3) (hd : s.die.num = s.u.place.die)
    (hdie : sv.die = s.u.place.die) (hm : s.mayResume sv = true)
    (hl : ∀ u ∈ s.strands, u.st.onStrand = true → u.who.launch ≠ sv.who.launch) (hfit : s.memberFits (.saved sv) s.core = true)
    {pc : Word} (hseat : Seated sv.who s.u.place pc (s.takeUp sv)) :
    ∃ t, s.resumeWith sv s.u.place = some t ∧ Seated sv.who s.u.place pc t := by
  have hlink := hseat.linkPeers sv.die sv.who.launch sv.own.nbh
  refine ⟨((s.takeUp sv).linkPeers sv.die sv.who.launch sv.own.nbh).finishResume, ?_, hlink.finishResume⟩
  have hx : (s.takeUp sv).dieAt sv.die = some (s.takeUp sv).die := by
    rw [hdie, ← hseat.die]
    exact dieAt_front _
  simp only [State.resumeWith, groupStrands_none hst hl, List.filter_nil, focus_front hcore hd, hfit, resumeTeams_single hsaved hm,
    at_front, groupPlans_single, Option.bind_some, List.findSome?_cons, pinned_single hcluster, placeTeams_nobody hx]
  simp [hdie, State.groupResumed, Member.who, atUnit_front (hdie ▸ hlink).holds]

/-- RESUME (11 R260) at the place in front, free, in service and reserved for no one: the unit saved resumes there with its group. -/
theorem exec_resume_front {s t : State} {sv : Saved} {x : Die} (hfind : s.work.saved.find? (fun x => decide (x.who = sv.who)) = some sv)
    (hx : s.dieAt s.u.place.die = some x) (hserves : s.dieServes s.u.place.die = true) (hst : s.u.st = .absent)
    (hcore : s.core.at s.u.place = true) (hd : s.die.num = s.u.place.die) (hcs : x.coreServes s.core = true)
    (hres : s.reservedCore x sv.who.launch sv.own.prio s.core = false) (ht : s.resumeWith sv s.u.place = some t) :
    exec (.resume sv.who.launch sv.who.rank s.u.place) s = .next t := by
  simp [exec_resume, execResume, State.resumeAt, hfind, hx, focus_front hcore hd, hserves, hst, hcs, hres, ht]

/-- Settles O37: the end and the termination of a unit by what accounting keeps, the late copy by `copyDone`, the resume by what
seats a unit on the strand in front. -/
theorem unitsGoAndResume : Obligations.UnitsGoAndResume := by
  unfold Obligations.UnitsGoAndResume
  refine ⟨fun s l r sv c f => ⟨fun hend => ?_, exec_termination_saved, fun hf hlate hc hcoll htok hm hs => ?_⟩, ?_⟩
  · obtain ⟨t, ht, hst, hcore⟩ := exec_unitEnded_done hend
    obtain ⟨hallocs, howner, hother⟩ := release_spec { s.core with matrix := s.core.matrix.noteHeld s.now } s.u.who
    exact ⟨t, ht, hst, hcore ▸ hallocs, hcore ▸ howner, fun h => hcore ▸ hother h⟩
  · refine ⟨_, exec_engineStopTimeout_one hf hlate hc hcoll, ?_, rfl, rfl⟩
    exact (scalar_copyDone (c := { c with xi := 0, wr := false }) hs htok hm 6).trans (copyStatus_cancelled c.moved)
  · intro s sv x hsaved hst hcore hcluster hd hdie hx hserves hcs hres hm hl hfit hc hctx hg hpend
    have hleft : s.work.saved.filter (fun x => decide (x.who ≠ sv.who)) = [] := by simp [hsaved]
    obtain ⟨t, ht, hseat⟩ := resumeWith_single hsaved hst hcore hcluster hd hdie hm hl hfit
      (takeUp_seated hg hctx hpend hleft hd hc)
    exact ⟨t, exec_resume_front (by simp [hsaved]) hx hserves hst hcore hd hcs hres ht, hseat.who, hseat.st, hseat.privileged,
      hseat.pc, hseat.saved⟩

end Sys2Proof.Machine
end

section
/-! SUPPORT. An instruction that schedules results adds writes to land, and changes nothing else (02 R50, R51; 05 R105). -/

namespace Sys2Proof.Machine

/-- A write to land without its marks of being overtaken (02 R55). -/
def Flight.unmarked (f : Flight) : Flight := { f with overtaken := [] }

/-- From s to t writes to land were added to the strand in front, each as `ok` says; those before kept all but their marks. -/
def AddsFlights (ok : Flight → Prop) (s t : State) : Prop :=
  ∃ new, t = { s with u := { s.u with flights := t.u.flights } } ∧
    t.u.flights.map Flight.unmarked = s.u.flights.map Flight.unmarked ++ new ∧ ∀ f ∈ new, ok f

/-- A write of the instruction i names its own destination registers. -/
def OwnDest (u : Strand) (i : Instr) (f : Flight) : Prop :=
  match f.dest with
  | .scalar r => r ∈ sDests i
  | .vector r => ∀ k < f.rows.length, r + k ∈ vDests u i
  | .extent x w => ∃ a n, i = .setx a n ∧ x = n.toNat / 4 ∧ w = n.toNat % 4
  | _ => False

theorem unmarked_overtake (cls : Nat) (rs : List Nat) (f : Flight) : (f.overtake cls rs).unmarked = f.unmarked := by
  unfold Flight.overtake
  dsimp only
  split <;> rfl

theorem AddsFlights.trans {ok : Flight → Prop} {r s t : State} (h : AddsFlights ok r s) (k : AddsFlights ok s t) :
    AddsFlights ok r t := by
  obtain ⟨a, hs, ha, hoka⟩ := h
  obtain ⟨b, ht, hb, hokb⟩ := k
  refine ⟨a ++ b, ?_, ?_, fun f hf => ?_⟩
  · rw [ht, hs]
  · rw [hb, ha, List.append_assoc]
  · exact (List.mem_append.mp hf).elim (hoka f) (hokb f)

/-- Scheduling adds one write, last in the list, and marks earlier ones as overtaken. -/
theorem sched_eq (s : State) (slot : Nat) (d : Dest) (lat : Nat) (rows : List VReg) (same : Bool) (fl reg : Nat) :
    ∃ c rs f, s.sched slot d lat rows same fl reg =
        { s with u := { s.u with flights := s.u.flights.map (Flight.overtake c rs) ++ [f] } } ∧
      f.dest = d ∧ f.rows = rows := ⟨_, _, _, rfl, rfl, rfl⟩

/-- A change of the write scheduled last. -/
theorem lastFlight_append (s : State) (l : List Flight) (f : Flight) (g : Flight → Flight) :
    ({ s with u := { s.u with flights := l ++ [f] } } : State).lastFlight g = { s with u := { s.u with flights := l ++ [g f] } } := by
  simp [State.lastFlight, State.modU]

theorem addsFlights_append {ok : Flight → Prop} {s : State} {f : Flight} (h : ok f.unmarked) (c : Nat) (rs : List Nat) :
    AddsFlights ok s { s with u := { s.u with flights := s.u.flights.map (Flight.overtake c rs) ++ [f] } } :=
  ⟨[f.unmarked], rfl, by simp [unmarked_overtake], by simpa using h⟩

section
variable {u : Strand} {i : Instr} (s : State) (slot lat : Nat)

theorem addsFlights_sched {d : Dest} {rows : List VReg} (h : ∀ f : Flight, f.dest = d → f.rows = rows → OwnDest u i f) (same : Bool)
    (fl reg : Nat) : AddsFlights (OwnDest u i) s (s.sched slot d lat rows same fl reg) := by
  obtain ⟨c, rs, f, hs, hd, hr⟩ := sched_eq s slot d lat rows same fl reg
  exact hs ▸ addsFlights_append (h f.unmarked hd hr) c rs

theorem addsFlights_landS {d : BitVec 6} (h : d.toNat ∈ sDests i) (v : Word) :
    AddsFlights (OwnDest u i) s (s.landS slot d v lat) :=
  addsFlights_sched s slot lat (fun f hd _ => by simpa [OwnDest, hd] using h) ..

/-- The rows that a write to vector registers from d on lands are destinations. -/
theorem ownDest_vector {d : Nat} {rows : List VReg} (h : ∀ k < rows.length, d + k ∈ vDests u i) (f : Flight)
    (hd : f.dest = .vector d) (hr : f.rows = rows) : OwnDest u i f := by
  simpa [OwnDest, hd, hr] using h

/-- The write of a range is a scheduled one that knows the flags of its rows. -/
theorem landV_eq (d : Nat) (rows : List VReg) (flags : List Nat) : ∃ c rs f, s.landV slot d lat rows flags =
    { s with u := { s.u with flights := s.u.flights.map (Flight.overtake c rs) ++ [f] } } ∧ f.dest = .vector d ∧ f.rows = rows := by
  obtain ⟨c, rs, f, hs, hd, hr⟩ := sched_eq s slot (.vector d) lat rows false (orAll flags) d
  exact ⟨c, rs, { f with rowFlags := flags }, by rw [State.landV, hs, lastFlight_append], hd, hr⟩

theorem addsFlights_landV {d : Nat} {rows : List VReg} (h : ∀ k < rows.length, d + k ∈ vDests u i) (flags : List Nat) :
    AddsFlights (OwnDest u i) s (s.landV slot d lat rows flags) := by
  obtain ⟨c, rs, f, hs, hd, hr⟩ := landV_eq s slot lat d rows flags
  exact hs ▸ addsFlights_append (ownDest_vector h f.unmarked hd hr) c rs

/-- The masks of VCMPR land beside its values, marked as their pair (17 R390). -/
theorem addsFlights_pair {d : Nat} {rows : List VReg} (h : ∀ k < rows.length, d + k ∈ vDests u i) (flags : List Nat) :
    AddsFlights (OwnDest u i) s ((s.landV slot d lat rows flags).lastFlight (fun x => { x with pair := true })) := by
  obtain ⟨c, rs, f, hs, hd, hr⟩ := landV_eq s slot lat d rows flags
  rw [hs, lastFlight_append]
  exact addsFlights_append (f := { f with pair := true }) (ownDest_vector h { f with pair := true, overtaken := [] } hd hr) c rs

theorem addsFlights_landTile {t : Nat} {rows : List VReg} (h : vDests u i = rowsOf t rows.length) :
    AddsFlights (OwnDest u i) s (s.landTile slot t lat rows) :=
  addsFlights_sched s slot lat (ownDest_vector fun k hk => h ▸ List.mem_range'_1.mpr ⟨by omega, by omega⟩) ..

theorem mem_rangeOf {d : BitVec 11} {cnt : BitVec 4} {k : Nat} (h : k < cnt.toNat + 1) : d.toNat + k ∈ rangeOf d cnt :=
  List.mem_range'_1.mpr ⟨by omega, by omega⟩

theorem addsFlights_landRows {d : BitVec 11} {cnt : BitVec 4} (h : vDests u i = rangeOf d cnt) (j : Instr) (row : Nat → RowOut) :
    AddsFlights (OwnDest u i) s (s.landRows j d cnt lat row) :=
  addsFlights_landV s _ lat (fun k hk => h ▸ mem_rangeOf (by simpa using hk)) _

end

/-- VQNT's rows and its trailer behind them (17 R393). -/
theorem vqnt_addsFlights (f : VR) : ∃ eff, (∀ s, exec (.vqnt f) s = s.issue (.vqnt f) eff) ∧
    ∀ s, AddsFlights (OwnDest s.u (.vqnt f)) s (eff s) :=
  ⟨_, fun _ => rfl, fun s => addsFlights_landV s _ _ (fun k hk => List.mem_range'_1.mpr ⟨by omega, by
    simp only [List.length_append, List.length_map, List.length_range, List.length_singleton] at hk
    omega⟩) _⟩

/-- VCMPR's values from d and its masks from b (17 R390). -/
theorem vcmpr_addsFlights (f : VR) : ∃ eff, (∀ s, exec (.vcmpr f) s = s.issue (.vcmpr f) eff) ∧
    ∀ s, AddsFlights (OwnDest s.u (.vcmpr f)) s (eff s) :=
  ⟨_, fun _ => rfl, fun s =>
    (addsFlights_landV s _ _ (fun k hk => List.mem_append_left _ (mem_rangeOf (by simpa using hk))) _).trans
      (addsFlights_pair _ _ _ (fun k hk => List.mem_append_right _ (mem_rangeOf (by simpa using hk))) _)⟩

/-- What an instruction of `schedules` does once it has passed its checks: writes to its own destinations are added. -/
theorem schedules_effect {i : Instr} (h : schedules i = true) :
    ∃ eff, (∀ s, exec i s = s.issue i eff) ∧ ∀ s, AddsFlights (OwnDest s.u i) s (eff s) := by
  cases i with
  | add | sub | mul | mulhiS | mulhiU | land | lor | lxor | andn | shl | shr | sar | rotl | minS | minU | maxS | maxU
  | cmpEq | cmpNe | cmpLt | cmpLe | cmpLtu | cmpLeu | cmpiEq | cmpiNe | cmpiLt | cmpiLe | cmpiLtu | cmpiLeu
  | sel | addi | li | lih | clz | popc | bitrev | crc32 | extr | ins | mfsr | getx =>
    exact ⟨_, fun _ => rfl, fun s => addsFlights_landS s _ _ (List.mem_singleton.mpr rfl) _⟩
  | setx a n =>
    exact ⟨_, fun _ => rfl, fun s => addsFlights_sched s _ _ (fun f hd _ => by simp [OwnDest, hd]) ..⟩
  | vadd | vsub | vmul | vfma | vfms | vdiv | vmin | vmax | vabs | vneg | vcpsgn | vscal | vrnd | vrcp | vrsq | vsqrt | vexp2
  | vlog2 | vtanh | vcmpEq | vcmpNe | vcmpLt | vcmpLe | vcmpGt | vcmpGe | viadd | visub | vimul | vimad | vimin | vimax | vavg
  | vicmpEq | vicmpNe | vicmpLt | vicmpLe | vicmpLtu | vicmpLeu | vand | vor | vxor | vshl | vshr | vsar | vclz | vpopc
  | vsel | vclamp | vcvt | vdqn | vmov | vfill | vbcs | vperm | vsld | vzip | vunz | vrsum | vrmax | vrmin
  | tcsum | tcmax | tcrd | vcrc =>
    exact ⟨_, fun _ => rfl, fun s => addsFlights_landRows s _ rfl _ _⟩
  | vqnt f => exact vqnt_addsFlights f
  | vcmpr f => exact vcmpr_addsFlights f
  | tcwr t v idx => exact ⟨_, fun _ => rfl, fun s => addsFlights_landTile s _ _ (by simp [vDests])⟩
  | _ => exact absurd h Bool.false_ne_true

/-- Settles O51: the effect of every instruction that schedules results adds writes to its own destinations. -/
theorem registerInstructionsFrame : Obligations.RegisterInstructionsFrame := by
  unfold Obligations.RegisterInstructionsFrame
  intro s i plain hi hpass
  obtain ⟨eff, hexec, heff⟩ := schedules_effect hi
  obtain ⟨new, ht, hmap, hok⟩ := heff s
  exact ⟨eff s, new, (hexec s).trans (issue_passes hpass eff), ht, hmap, hok⟩

end Sys2Proof.Machine
end

section
/-! SUPPORT. An instruction that issues an access changes what its strand has to land or outstanding, and nothing else (02 R53,
09 R195; 13 R284). -/

namespace Sys2Proof.Machine

/-- What reading at the homes leaves as it was (13 R283, R286, R287): everything but the code words of granules, the error log and
the register window. -/
structure SameButErrors (s t : State) : Prop where
  u : t.u = s.u
  strands : t.strands = s.strands
  core : t.core = s.core
  work : t.work = s.work
  waiters : t.waiters = s.waiters
  bytes : t.mem.bytes = s.mem.bytes
  full : t.mem.full = s.mem.full

theorem SameButErrors.refl (s : State) : SameButErrors s s := ⟨rfl, rfl, rfl, rfl, rfl, rfl, rfl⟩

theorem SameButErrors.trans {r s t : State} (h : SameButErrors r s) (k : SameButErrors s t) : SameButErrors r t :=
  ⟨k.u.trans h.u, k.strands.trans h.strands, k.core.trans h.core, k.work.trans h.work, k.waiters.trans h.waiters,
    k.bytes.trans h.bytes, k.full.trans h.full⟩

theorem sameButErrors_logFault (s : State) (a kind : Nat) : SameButErrors s (s.logFault a kind) := by
  unfold State.logFault State.logEntry
  split <;> exact ⟨rfl, rfl, rfl, rfl, rfl, rfl, rfl⟩

/-- The error log alone is not among what stays. -/
theorem sameButErrors_errs (s : State) (e : ErrLog) : SameButErrors s { s with errs := e } := ⟨rfl, rfl, rfl, rfl, rfl, rfl, rfl⟩

theorem sameButErrors_logCorrected (s : State) (g : Nat) : SameButErrors s (s.logCorrected g) := by
  unfold State.logCorrected
  dsimp only
  split
  · exact sameButErrors_errs ..
  · exact (sameButErrors_errs ..).trans (sameButErrors_logFault ..)

/-- A granule's repair is asked for once. -/
theorem sameButErrors_askScrub (s : State) (p : Prop) [Decidable p] (e : ErrLog) :
    SameButErrors s (if p then s else { s with errs := e }) := by
  split
  · exact .refl s
  · exact sameButErrors_errs ..

theorem afterRead_frame (m : Memory) (homes : List Nat) :
    (m.afterRead homes).bytes = m.bytes ∧ (m.afterRead homes).full = m.full :=
  foldl_inv (fun k : Memory => k.bytes = m.bytes ∧ k.full = m.full) _ _ ⟨rfl, rfl⟩ fun k g _ h => by
    split <;> exact h

theorem sameButErrors_noteRead (s : State) (homes : List Nat) : SameButErrors s (s.noteRead homes) := by
  unfold State.noteRead
  refine SameButErrors.trans (foldl_inv (SameButErrors s) _ _ (.refl s) fun t g _ h => h.trans ?_)
    ⟨rfl, rfl, rfl, rfl, rfl, (afterRead_frame ..).1, (afterRead_frame ..).2⟩
  split
  · refine SameButErrors.trans ?_ (sameButErrors_askScrub ..)
    split
    · exact sameButErrors_logCorrected t g
    · exact .refl t
  · exact sameButErrors_logFault ..
  · exact .refl t

/-- From s to t only writes to land and outstanding accesses of the strand in front were added or marked; the accesses before stand
as they were. -/
def OnlyIssues (s t : State) : Prop :=
  ∃ new, SameMemory s t ∧ t.mem.full = s.mem.full ∧ t.u = { s.u with flights := t.u.flights, accs := t.u.accs } ∧
    t.u.accs = s.u.accs ++ new ∧ t.strands = s.strands ∧ t.core = s.core ∧ t.work = s.work ∧ t.waiters = s.waiters

theorem onlyIssues_refl (s : State) : OnlyIssues s s := ⟨[], fun _ => rfl, rfl, rfl, by simp, rfl, rfl, rfl, rfl⟩

theorem onlyIssues_addAcc (s : State) (slot : Nat) (a : Act) (cls : Nat) (sps : List Span) (svc dl : Nat) :
    OnlyIssues s (s.addAcc slot a cls sps svc dl) :=
  ⟨_, fun _ => rfl, rfl, rfl, addAcc_last s slot a cls sps svc dl, rfl, rfl, rfl, rfl⟩

theorem onlyIssues_memAcc (s : State) (slot : Nat) (f : MemF) (a : Act) (sps : List Span) : OnlyIssues s (s.memAcc slot f a sps) :=
  onlyIssues_addAcc ..

/-- So does a load that lands in six cycles, whatever it finds (15 R343, 13 R283). -/
theorem onlyIssues_locLands {s t : State} (h : t = { s with u := { s.u with flights := t.u.flights } }) (sps : List Span)
    (rowFmt errs : Nat) : OnlyIssues s (t.locLands sps rowFmt errs) := by
  rw [h]
  unfold State.locLands
  obtain ⟨hu, hstrands, hcore, hwork, hwaiters, hbytes, hfull⟩ := sameButErrors_noteRead _ _
  exact ⟨[], fun a => congrArg (lookup Memory.default · a) hbytes, hfull, by rw [hu]; rfl, by rw [hu]; simp [State.lastFlight],
    hstrands, hcore, hwork, hwaiters⟩

theorem onlyIssues_landS (s : State) (slot : Nat) (d : BitVec 6) (v : Word) (lat : Nat) (sps : List Span) (rowFmt errs : Nat) :
    OnlyIssues s ((s.landS slot d v lat).locLands sps rowFmt errs) := onlyIssues_locLands (landS_frame ..) ..

theorem onlyIssues_landV (s : State) (slot d lat : Nat) (rows : List VReg) (flags : List Nat) (sps : List Span) (rowFmt errs : Nat) :
    OnlyIssues s ((s.landV slot d lat rows flags).locLands sps rowFmt errs) := onlyIssues_locLands rfl ..

/-- An address that raises no cause has its span. -/
theorem ok_of_sound {α : Type} {r : Except Trap α} (h : trapOf r = none) : ∃ x, r = .ok x := by
  cases r with
  | error t => simp [trapOf] at h
  | ok x => exact ⟨x, rfl⟩

/-! The three below unfold a function and not its value at s: asked whether that value is the match, Lean's kernel would evaluate the
span that the match is about. -/

section
variable {s : State} {f : MemF} {sp : Span}

theorem loadScalar_ok {log : Nat} (h : s.memSpan 4 f log kRead true = .ok sp) (sg : Bool) :
    ∃ v errs, s.loadScalar f log sg = if sp.space = 0 then (s.landS 4 (f.r.setWidth 6) v 6).locLands [sp] 0 errs
      else s.memAcc 4 f (.load (memR f) (2 ^ log) sg) [sp] := by
  have e : State.loadScalar = State.loadScalar := rfl
  conv at e => rhs; delta State.loadScalar
  simp only [e, h]
  exact ⟨_, _, rfl⟩

theorem storeScalar_ok {log : Nat} (h : s.memSpan 5 f log kWrite false = .ok sp) :
    s.storeScalar f log = s.memAcc 5 f (.store [(wordBytes (s.u.scalar (memR f))).take (2 ^ log)]) [sp] := by
  have e : State.storeScalar = State.storeScalar := rfl
  conv at e => rhs; delta State.storeScalar
  simp only [e, h]

theorem atomic_ok (h : s.memSpan 5 f 3 kBoth true = .ok sp) (op : AtomOp) (cmp : Word) :
    s.atomic f op cmp = s.memAcc 5 f (.atomic op (s.S f.o) cmp (memR f)) [sp] := by
  have e : State.atomic = State.atomic := rfl
  conv at e => rhs; delta State.atomic
  simp only [e, h]

end

theorem loadScalar_onlyIssues {s : State} {f : MemF} {log : Nat} {sp : Span} (h : s.memSpan 4 f log kRead true = .ok sp) (sg : Bool) :
    OnlyIssues s (s.loadScalar f log sg) := by
  obtain ⟨v, errs, hload⟩ := loadScalar_ok h sg
  rw [hload]
  split
  · exact onlyIssues_landS ..
  · exact onlyIssues_memAcc ..

theorem loadRow_onlyIssues {s : State} {f : MemF} {mode : Nat} {sps : List Span} (h : s.rowSpans 4 f mode false = .ok sps) :
    OnlyIssues s (s.loadRow f mode) := by
  simp only [State.loadRow, h]
  split
  · exact onlyIssues_landV ..
  · exact onlyIssues_memAcc ..

/-- What an instruction does to an address is known once its own check, which finds the spans, has found nothing (03 R88, R89). -/
theorem issues_of_sound {i : Instr} {α : Type} (r : State → Except Trap α) {eff : State → State} (hexec : ∀ s, exec i s = s.issue i eff)
    (hr : ∀ s : State, s.entryTrap (s.slotFor i) i = trapOf (r s)) (heff : ∀ s x, r s = .ok x → OnlyIssues s (eff s)) :
    ∃ eff, (∀ s, exec i s = s.issue i eff) ∧ ∀ s : State, s.entryTrap (s.slotFor i) i = none → OnlyIssues s (eff s) :=
  ⟨eff, hexec, fun s hs => have ⟨x, hx⟩ := ok_of_sound ((hr s).symm.trans hs); heff s x hx⟩

/-- What an instruction of `accesses` does once it has passed its checks, its address sound. -/
theorem accesses_effect {i : Instr} (h : accesses i = true) : ∃ eff, (∀ s, exec i s = s.issue i eff) ∧
    ∀ s : State, s.entryTrap (s.slotFor i) i = none → OnlyIssues s (eff s) := by
  cases i with
  | ldB | ldBu | ldH | ldHu | ldW | ldWu | ldD =>
    exact issues_of_sound (·.memSpan 4 _ _ kRead true) (fun _ => rfl) (fun _ => rfl) fun s x h => loadScalar_onlyIssues h _
  | vld | vlds | vldb =>
    exact issues_of_sound (·.rowSpans 4 _ _ false) (fun _ => rfl) (fun _ => rfl) fun s x h => loadRow_onlyIssues h
  | thdl | peek =>
    exact issues_of_sound (·.memSpan 4 _ _ kRead true) (fun _ => rfl) (fun _ => rfl) fun s x h => by
      simp only [h, onlyIssues_memAcc]
  | tld =>
    exact issues_of_sound (·.tilePlan 4 _ false) (fun _ => rfl) (fun _ => rfl) fun s x h => by simp only [h, onlyIssues_addAcc]
  | tst =>
    exact issues_of_sound (·.tilePlan 5 _ true) (fun _ => rfl) (fun _ => rfl) fun s x h => by simp only [h, onlyIssues_addAcc]
  | vst | vsts =>
    exact issues_of_sound (·.rowSpans 5 _ _ true) (fun _ => rfl) (fun _ => rfl) fun s x h => by simp only [h, onlyIssues_memAcc]
  | stB | stH | stW | stD =>
    exact issues_of_sound (·.memSpan 5 _ _ kWrite false) (fun _ => rfl) (fun _ => rfl) fun s x h =>
      storeScalar_ok h ▸ onlyIssues_memAcc ..
  | aadd | aminS | aminU | amaxS | amaxU | aand | aor | axor | aswp | acas | afadd | afmin | afmax =>
    exact issues_of_sound (·.memSpan 5 _ 3 kBoth true) (fun _ => rfl) (fun _ => rfl) fun s x h =>
      atomic_ok h _ _ ▸ onlyIssues_memAcc ..
  | pld f =>
    refine ⟨_, fun _ => rfl, fun s _ => ?_⟩
    cases hr : s.check 4 (s.effAddr f) 1 kRead 0 with
    | error t => simp only [onlyIssues_refl]
    | ok sp => simp only [onlyIssues_addAcc]
  | _ => exact absurd h Bool.false_ne_true

/-- Settles O52: the effect of every instruction that issues an access leaves all but what the strand has outstanding. -/
theorem accessInstructionsFrame : Obligations.AccessInstructionsFrame := by
  unfold Obligations.AccessInstructionsFrame
  intro s i hi hpass hsound
  obtain ⟨eff, hexec, heff⟩ := accesses_effect hi
  obtain ⟨new, hframe⟩ := heff s hsound
  exact ⟨eff s, new, (hexec s).trans (issue_passes hpass eff), hframe⟩

end Sys2Proof.Machine
end

section
/-! SUPPORT. Two strands listed at one place: a checkpoint there may replace that of the strand in front (11 R257). -/

namespace Sys2Proof.Machine

/-- A strand whose unit stands in a recorded stop of the given cause, with nothing to wait for. -/
def stoppedAt (p : Place) (w : UnitId) (cause : Word) : Strand :=
  { Strand.idle p with
    who := w, st := .running, regs := { Regs.reset with sr := { Specials.reset with ecause := cause } },
    trap := { Trapping.reset with settle := some 0 } }

/-- Unit ⟨1, 0⟩ in front, stopped by PREEMPT. Strand 1 of its core is listed twice: with a second entry of that unit, stopped by
DEBUG_STOP, and with unit ⟨1, 1⟩ of its group. -/
def listedTwice : State :=
  { State.reset with
    u := stoppedAt ⟨0, 0, 0, 0⟩ ⟨1, 0⟩ 0x20,
    strands := [stoppedAt ⟨0, 0, 0, 1⟩ ⟨1, 0⟩ 0x24, stoppedAt ⟨0, 0, 0, 1⟩ ⟨1, 1⟩ 0x20], cores := [], dies := [] }

theorem listedTwice_places : ∀ v ∈ listedTwice.strands, v.place ≠ listedTwice.u.place := by decide

theorem listedTwice_settleDue : listedTwice.settleDue = true := by decide +kernel

/-- The group's checkpoint brings the first entry of strand 1 to the front, whose unit takes the place of the unit in front among those
saved. -/
theorem listedTwice_saved : listedTwice.softStop.work.saved.map (fun sv => (sv.who, sv.cause)) = [(⟨1, 0⟩, 0x24)] := by
  decide +kernel

/-- Refutes O36: where two strands are listed at one place, the checkpoint of the group (01 R24) is taken of the first of them in place of
the member that it is for; its unit carries the number of the one in front, and the unit is saved with that other cause, 0x24 for 0x20. -/
theorem not_softStops : ¬ Obligations.SoftStops := by
  unfold Obligations.SoftStops
  intro h
  obtain ⟨-, -, -, hcheckpoint, -⟩ := h listedTwice listedTwice_places
  obtain ⟨t, ht, -, sv, hmem, -, hcause⟩ := hcheckpoint listedTwice_settleDue rfl
  obtain rfl : listedTwice.softStop = t := Host.Outcome.next.inj ht
  have hsaved : (sv.who, sv.cause) ∈ [(⟨1, 0⟩, 0x24)] := listedTwice_saved ▸ List.mem_map_of_mem hmem
  simp [hcause, listedTwice, stoppedAt] at hsaved

end Sys2Proof.Machine
end

section
/-! SUPPORT. A table of accumulator words out of order: clearing one tile uncovers a word of another (08 R182). -/

namespace Sys2Proof.Machine

/-- MZA of accumulator tile 1, running and not yet stepped. -/
def zeroTileOne : MCmd :=
  { who := ⟨1, 0⟩, word := encode (.mza ⟨1, 0, 0, 0, 0, 0, 0⟩), sav := 0, snv := 0, hnd := 0, hreg := 0, mask := 0, prom := 0, ovf := false,
    epc := 0, entered := 0, seq := 0, running := true, began := 0, next := 0, fetched := false, stage := [], sat := 0, flags := 0,
    chunks := [], locks := [], depth := 0, aged := false, slack := 0 }

/-- A unit whose MZA of tile 1 runs, with the first word of tile 1 listed before that of tile 0: the latter is not found. -/
def outOfOrder : State :=
  { State.reset with
    u := { Strand.idle ⟨0, 0, 0, 0⟩ with who := ⟨1, 0⟩, st := .running },
    core := { Core.reset 0 0 0 with
      matrix := { Matrix.reset with acc := [(16384, 1), (0, 1)], live := [0, 1], buf := [zeroTileOne] } },
    strands := [], cores := [], dies := [] }

theorem outOfOrder_runs : outOfOrder.strandOf zeroTileOne.who = some outOfOrder.u ∧
    outOfOrder.core.matrix.runningOf false = some zeroTileOne ∧ outOfOrder.stepMay zeroTileOne = true ∧
    mOp zeroTileOne.word = 13 ∧ mAcc zeroTileOne.word = 1 := by decide +kernel

/-- The step drops the word of tile 1, and the word behind it is found. -/
theorem outOfOrder_uncovers : outOfOrder.core.matrix.accAt 0 0 0 = 0 ∧
    (outOfOrder.matrixStep false none).core.matrix.accAt 0 0 0 = 1 := by decide +kernel

/-- Refutes O39: on a table of accumulator words that is out of order, which the clause on MZA admits, clearing tile 1 changes a word of
tile 0 from 0 to 1. -/
theorem not_theArrayRuns : ¬ Obligations.TheArrayRuns := by
  unfold Obligations.TheArrayRuns
  intro h
  obtain ⟨-, -, hstep, -⟩ := h
  obtain ⟨hu, hrun, hmay, hop, hacc⟩ := outOfOrder_runs
  obtain ⟨hmza, -⟩ := (hstep outOfOrder zeroTileOne false none hu hrun).2 hmay
  obtain ⟨t, ht, -, -, -, -, hother⟩ := hmza hop
  obtain rfl : outOfOrder.matrixStep false none = t := Host.Outcome.next.inj ht
  obtain ⟨hbefore, hafter⟩ := outOfOrder_uncovers
  have hsame := hother 0 0 0 (by rw [hacc]; decide) (by decide) (by decide)
  rw [hafter, hbefore] at hsame
  exact absurd hsame (by decide)

end Sys2Proof.Machine
end

section
/-! SUPPORT. The words of 03 R71 to R85 read back: the fields of each layout, and with them the opcode map of each slot kind. -/

namespace Sys2Proof

section
variable {w : BitVec 64} {p op : BitVec 8}

theorem read_lR {d a b c : BitVec 6} (hw : lR p d a b c = w) (hop : fld w 56 8 = op) :
    p = op ∧ fld w 50 6 = d ∧ fld w 44 6 = a ∧ fld w 38 6 = b ∧ fld w 32 6 = c := by
  subst hw
  refine ⟨(lR_op p d a b c).symm.trans hop, ?_⟩
  unfold fld lR
  repeat first | rw [BitVec.extractLsb'_append_eq_of_le (by omega)] | rw [BitVec.extractLsb'_append_eq_of_add_le (by omega)]
  simp

theorem read_lI {d a : BitVec 6} {imm : BitVec 32} (hw : lI p d a imm = w) (hop : fld w 56 8 = op) :
    p = op ∧ fld w 50 6 = d ∧ fld w 44 6 = a ∧ fld w 12 32 = imm := by
  subst hw
  refine ⟨(lI_op p d a imm).symm.trans hop, ?_⟩
  unfold fld lI
  repeat first | rw [BitVec.extractLsb'_append_eq_of_le (by omega)] | rw [BitVec.extractLsb'_append_eq_of_add_le (by omega)]
  simp

theorem read_lB {a : BitVec 6} {off : BitVec 26} (hw : lB p a off = w) (hop : fld w 56 8 = op) :
    p = op ∧ fld w 50 6 = a ∧ fld w 24 26 = off := by
  subst hw
  refine ⟨(lB_op p a off).symm.trans hop, ?_⟩
  unfold fld lB
  repeat first | rw [BitVec.extractLsb'_append_eq_of_le (by omega)] | rw [BitVec.extractLsb'_append_eq_of_add_le (by omega)]
  simp

theorem read_lS {a : BitVec 6} {imm : BitVec 20} {len : BitVec 16} (hw : lS p a imm len = w) (hop : fld w 56 8 = op) :
    p = op ∧ fld w 50 6 = a ∧ fld w 30 20 = imm ∧ fld w 14 16 = len := by
  subst hw
  refine ⟨(lS_op p a imm len).symm.trans hop, ?_⟩
  unfold fld lS
  repeat first | rw [BitVec.extractLsb'_append_eq_of_le (by omega)] | rw [BitVec.extractLsb'_append_eq_of_add_le (by omega)]
  simp

theorem read_lX {d a : BitVec 6} {sno : BitVec 12} (hw : lX p d a sno = w) (hop : fld w 56 8 = op) :
    p = op ∧ fld w 50 6 = d ∧ fld w 44 6 = a ∧ fld w 32 12 = sno := by
  subst hw
  refine ⟨(lX_op p d a sno).symm.trans hop, ?_⟩
  unfold fld lX
  repeat first | rw [BitVec.extractLsb'_append_eq_of_le (by omega)] | rw [BitVec.extractLsb'_append_eq_of_add_le (by omega)]
  simp

theorem read_lVR {f : VR} (hw : lVR p f = w) (hop : fld w 56 8 = op) : p = op ∧ getVR w = f := by
  subst hw
  refine ⟨(lVR_op p f).symm.trans hop, ?_⟩
  unfold getVR fld lVR
  repeat first | rw [BitVec.extractLsb'_append_eq_of_le (by omega)] | rw [BitVec.extractLsb'_append_eq_of_add_le (by omega)]
  simp

theorem read_lVS {f : VS} (hw : lVS p f = w) (hop : fld w 56 8 = op) : p = op ∧ getVS w = f := by
  subst hw
  refine ⟨(lVS_op p f).symm.trans hop, ?_⟩
  unfold getVS fld lVS
  repeat first | rw [BitVec.extractLsb'_append_eq_of_le (by omega)] | rw [BitVec.extractLsb'_append_eq_of_add_le (by omega)]
  simp

theorem read_lVT {t ta : BitVec 7} {v : BitVec 11} {idx : BitVec 4} {rest : BitVec 27} (hw : lVT p t ta v idx rest = w)
    (hop : fld w 56 8 = op) :
    p = op ∧ fld w 49 7 = t ∧ fld w 42 7 = ta ∧ fld w 31 11 = v ∧ fld w 27 4 = idx ∧ fld w 0 27 = rest := by
  subst hw
  refine ⟨(lVT_op p t ta v idx rest).symm.trans hop, ?_⟩
  unfold fld lVT
  repeat first | rw [BitVec.extractLsb'_append_eq_of_le (by omega)] | rw [BitVec.extractLsb'_append_eq_of_add_le (by omega)]
  simp

/-- The shape that a TCFG word carries in the low bits of its layout (03 R74). -/
theorem read_shape {rows fmt : BitVec 4} {rowb : BitVec 5} (hw : fld w 0 27 = rows ++ rowb ++ fmt ++ 0#14) :
    fld w 23 4 = rows ∧ fld w 18 5 = rowb ∧ fld w 14 4 = fmt := by
  have hlow (lo n : Nat) (hle : lo + n ≤ 27) : fld w lo n = (rows ++ rowb ++ fmt ++ 0#14).extractLsb' lo n := by
    rw [← hw, fld, fld, BitVec.extractLsb'_extractLsb'_of_le (by omega)]
  rw [hlow 23 4 (by omega), hlow 18 5 (by omega), hlow 14 4 (by omega)]
  repeat first | rw [BitVec.extractLsb'_append_eq_of_le (by omega)] | rw [BitVec.extractLsb'_append_eq_of_add_le (by omega)]
  simp

theorem read_lMA {f : MA} (hw : lMA p f = w) (hop : fld w 56 8 = op) : p = op ∧ getMA w = f := by
  subst hw
  refine ⟨(lMA_op p f).symm.trans hop, ?_⟩
  unfold getMA fld lMA
  repeat first | rw [BitVec.extractLsb'_append_eq_of_le (by omega)] | rw [BitVec.extractLsb'_append_eq_of_add_le (by omega)]
  simp

theorem read_lMem {f : MemF} (hw : lMem p f = w) (hop : fld w 56 8 = op) : p = op ∧ getMem w = f := by
  subst hw
  refine ⟨(lMem_op p f).symm.trans hop, ?_⟩
  unfold getMem fld lMem
  repeat first | rw [BitVec.extractLsb'_append_eq_of_le (by omega)] | rw [BitVec.extractLsb'_append_eq_of_add_le (by omega)]
  simp

theorem read_lMemT {f : MemT} (hw : lMemT p f = w) (hop : fld w 56 8 = op) : p = op ∧ getMemT w = f := by
  subst hw
  refine ⟨(lMemT_op p f).symm.trans hop, ?_⟩
  unfold getMemT fld lMemT
  repeat first | rw [BitVec.extractLsb'_append_eq_of_le (by omega)] | rw [BitVec.extractLsb'_append_eq_of_add_le (by omega)]
  simp

theorem read_lCC {f : CC} (hw : lCC p f = w) (hop : fld w 56 8 = op) : p = op ∧ getCC w = f := by
  subst hw
  refine ⟨(lCC_op p f).symm.trans hop, ?_⟩
  unfold getCC fld lCC
  repeat first | rw [BitVec.extractLsb'_append_eq_of_le (by omega)] | rw [BitVec.extractLsb'_append_eq_of_add_le (by omega)]
  simp

end

theorem rawS_encode (i : Instr) (h : i.slotKind = some .S) : rawS (encode i) = some i := by
  generalize hw : encode i = w
  unfold rawS
  generalize hop : fld w 56 8 = op
  cases i
  case add | sub | mul | mulhiS | mulhiU | divS | divU | remS | remU | land | lor | lxor | andn | shl | shr | sar | rotl | minS | minU
      | maxS | maxU | cmpEq | cmpNe | cmpLt | cmpLe | cmpLtu | cmpLeu | crc32 =>
    obtain ⟨rfl, rfl, rfl, rfl, -⟩ := read_lR hw hop
    rfl
  case sel | extr | ins =>
    obtain ⟨rfl, rfl, rfl, rfl, rfl⟩ := read_lR hw hop
    rfl
  case clz | popc | bitrev =>
    obtain ⟨rfl, rfl, rfl, -⟩ := read_lR hw hop
    rfl
  case ret | endUnit | rft =>
    obtain ⟨rfl, -⟩ := read_lR hw hop
    rfl
  case cmpiEq | cmpiNe | cmpiLt | cmpiLe | cmpiLtu | cmpiLeu | addi =>
    obtain ⟨rfl, rfl, rfl, rfl⟩ := read_lI hw hop
    rfl
  case li | lih =>
    obtain ⟨rfl, rfl, -, rfl⟩ := read_lI hw hop
    rfl
  case slack | trap =>
    obtain ⟨rfl, -, -, rfl⟩ := read_lI hw hop
    rfl
  case brZ | brNz | brLtz | brGez =>
    obtain ⟨rfl, rfl, rfl⟩ := read_lB hw hop
    rfl
  case jmp | call =>
    obtain ⟨rfl, -, rfl⟩ := read_lB hw hop
    rfl
  case loop =>
    obtain ⟨rfl, rfl, -, rfl⟩ := read_lS hw hop
    rfl
  case loopi =>
    obtain ⟨rfl, -, rfl, rfl⟩ := read_lS hw hop
    rfl
  case lbrk =>
    obtain ⟨rfl, -⟩ := read_lS hw hop
    rfl
  case mfsr | getx =>
    obtain ⟨rfl, rfl, -, rfl⟩ := read_lX hw hop
    rfl
  case mtsr | setx =>
    obtain ⟨rfl, -, rfl, rfl⟩ := read_lX hw hop
    rfl
  all_goals cases h

theorem rawV_encode (i : Instr) (h : i.slotKind = some .V) : rawV (encode i) = some i := by
  generalize hw : encode i = w
  unfold rawV
  generalize hop : fld w 56 8 = op
  cases i
  case vadd | vsub | vmul | vfma | vfms | vdiv | vmin | vmax | vabs | vneg | vcpsgn | vrnd | vrcp | vrsq | vsqrt | vexp2 | vlog2 | vtanh
      | vcmpEq | vcmpNe | vcmpLt | vcmpLe | vcmpGt | vcmpGe | viadd | visub | vimul | vimad | vimin | vimax | vavg | vicmpEq | vicmpNe
      | vicmpLt | vicmpLe | vicmpLtu | vicmpLeu | vand | vor | vxor | vshl | vshr | vsar | vclz | vpopc | vsel | vclamp | vcvt | vqnt
      | vdqn | vcmpr | vmov | vperm | vzip | vunz | vrsum | vrmax | vrmin | tcsum | tcmax | vcrc =>
    obtain ⟨rfl, rfl⟩ := read_lVR hw hop
    rfl
  case vscal | vfill | vbcs | vsld =>
    obtain ⟨rfl, rfl⟩ := read_lVS hw hop
    rfl
  case tcrd | tcwr =>
    obtain ⟨rfl, rfl, -, rfl, rfl, -⟩ := read_lVT hw hop
    rfl
  case ttrn =>
    obtain ⟨rfl, rfl, rfl, -⟩ := read_lVT hw hop
    rfl
  case trel =>
    obtain ⟨rfl, rfl, -⟩ := read_lVT hw hop
    rfl
  case tcfg =>
    obtain ⟨rfl, rfl, -, -, -, hrest⟩ := read_lVT hw hop
    obtain ⟨rfl, rfl, rfl⟩ := read_shape hrest
    rfl
  all_goals cases h

theorem rawM_encode (i : Instr) (h : i.slotKind = some .M) : rawM (encode i) = some i := by
  generalize hw : encode i = w
  unfold rawM
  generalize hop : fld w 56 8 = op
  cases i
  case mcfg | mscl | mlds | mldsT | mldsh | mldsp | mswp | mstr | mstrT | mstrh | mgrp | msps | mza | mwra | mrda | mrds | mcan =>
    obtain ⟨rfl, rfl⟩ := read_lMA hw hop
    rfl
  all_goals cases h

theorem rawL_encode (i : Instr) (h : i.slotKind = some .L) : rawL (encode i) = some i := by
  generalize hw : encode i = w
  unfold rawL
  generalize hop : fld w 56 8 = op
  cases i
  case ldB | ldBu | ldH | ldHu | ldW | ldWu | ldD | vld | vlds | vldb | thdl | ldb | pld | take | peek =>
    obtain ⟨rfl, rfl⟩ := read_lMem hw hop
    rfl
  case tld =>
    obtain ⟨rfl, rfl⟩ := read_lMemT hw hop
    rfl
  all_goals cases h

theorem rawW_encode (i : Instr) (h : i.slotKind = some .W) : rawW (encode i) = some i := by
  generalize hw : encode i = w
  unfold rawW
  generalize hop : fld w 56 8 = op
  cases i
  case stB | stH | stW | stD | vst | vsts | lbf | putf | aadd | aminS | aminU | amaxS | amaxU | aand | aor | axor | aswp | acas | afadd
      | afmin | afmax =>
    obtain ⟨rfl, rfl⟩ := read_lMem hw hop
    rfl
  case tst =>
    obtain ⟨rfl, rfl⟩ := read_lMemT hw hop
    rfl
  all_goals cases h

theorem rawC_encode (i : Instr) (h : i.slotKind = some .C) : rawC (encode i) = some i := by
  generalize hw : encode i = w
  unfold rawC
  generalize hop : fld w 56 8 = op
  cases i
  case cpy | cpy2 | cpyt | cpym | cpyk | cpyc | cpya | cpyg | cpys | cpyf | pref | collRs | collAg | collAr | collBc | spill | fill
      | zfill | ccan =>
    obtain ⟨rfl, rfl⟩ := read_lCC hw hop
    rfl
  all_goals cases h

/-- A field below bit 26 of a Y word is a field of its operands. -/
theorem fld_lY (op : BitVec 6) (rest : BitVec 26) (lo n : Nat) (h : lo + n ≤ 26) : fld (lY op rest) lo n = rest.extractLsb' lo n := by
  unfold fld lY
  rw [BitVec.extractLsb'_append_eq_of_add_le h]

/-- The three flags of an ALLOC word (03 R85). -/
theorem lY_flags (op d sz lf : BitVec 6) (h st k : Bool) :
    let w := lY op (d ++ sz ++ lf ++ BitVec.ofBool h ++ BitVec.ofBool st ++ BitVec.ofBool k ++ 0#5)
    w.getLsbD 7 = h ∧ w.getLsbD 6 = st ∧ w.getLsbD 5 = k := by
  unfold lY
  dsimp only
  repeat rw [BitVec.getLsbD_append]
  simp

theorem rawY_encode (i : Instr) (h : i.slotKind = some .Y) : rawY (encode i) = some i := by
  cases i
  case yield => simp [rawY, encode, lY_op]
  case fence | ownE | ownP | wchk | weng | bar | barc | sig | wsig | wsiga | tickw | alloc | free | renew | mark | hint | hibq | qbind =>
    simp only [rawY, encode, lY_op, fld_lY, lY_flags, BitVec.reduceToNat, Nat.reduceAdd, Nat.reduceLeDiff]
    repeat first | rw [BitVec.extractLsb'_append_eq_of_le (by omega)] | rw [BitVec.extractLsb'_append_eq_of_add_le (by omega)]
    simp
  all_goals cases h

/-- The opcode map of a slot's kind reads every instruction of it back from its word, well-formed or not. -/
theorem rawDecode_encode (i : Instr) (k : SlotKind) (h : i.slotKind = some k) : rawDecode k (encode i) = some i := by
  cases k
  case S => exact rawS_encode i h
  case V => exact rawV_encode i h
  case M => exact rawM_encode i h
  case L => exact rawL_encode i h
  case W => exact rawW_encode i h
  case C => exact rawC_encode i h
  case Y => exact rawY_encode i h

/-- Settles O59: the opcode map reads the instruction back (`rawDecode_encode`), and a clean one in range passes the checks of the decoder. -/
theorem encodingsRoundTrip : Obligations.EncodingsRoundTrip := by
  intro i k hkind hwf
  obtain ⟨hclean, hrange⟩ : i.clean = i ∧ i.inRange = true := by simpa [Instr.wellFormed] using hwf
  simp [decode, decodeFields, rawDecode_encode i k hkind, hclean, hrange]

end Sys2Proof
end

section
/-! SUPPORT. The checks before issue (03 R88 to R91): what each of them finds in a bundle of one instruction. -/

namespace Sys2Proof.Machine

/-- Every instruction of a slot issues, so its checks are made before its effect (03 R88). -/
theorem exec_issues {i : Instr} {k : SlotKind} (h : i.slotKind = some k) : ∃ eff, ∀ s, exec i s = s.issue i eff := by
  cases i <;> cases h <;> dsimp only [exec] <;> exact ⟨_, fun _ => rfl⟩

/-- An instruction of a slot that a check finds fault with takes that check's exception before it issues (11 R245). -/
theorem exec_traps {s : State} {i : Instr} {k : SlotKind} {t : Trap} (hk : i.slotKind = some k) (hc : s.checked = false)
    (h : s.bundleTrap [(s.slotFor i, i)] = some t) : exec i s = .next (s.trapBefore t) := by
  obtain ⟨eff, heff⟩ := exec_issues hk
  rw [heff, issue_traps hc h]

/-- The check of a slot comes before all others (03 R89). -/
theorem bundleTrap_of_slotTrap {s : State} {n : Nat} {i : Instr} {t : Trap} (h : slotTrap s.u.privileged n i = some t) :
    s.bundleTrap [(n, i)] = some t := by
  simp [State.bundleTrap, firstTrap, h]

/-- Where the check of the slot finds nothing, those of the bundle follow in their order, and the entry's own comes last. -/
theorem bundleTrap_of_slot_sound {s : State} {n : Nat} {i : Instr} (h : slotTrap s.u.privileged n i = none) :
    s.bundleTrap [(n, i)] = firstTrap [comboTrap s.u s.hdr [i], ownerTrap s [i], latchTrap s.u [i], collideTrap s.u [i],
      shortTrap s.u s.now [i], shapeTrap s.u [(n, i)], formatTrap s.u [(n, i)], latchCause s.u s.hdr [i], s.entryTrap n i] := by
  simp [State.bundleTrap, firstTrap, h]

theorem privilege_held {priv : Bool} {i : Instr} (h : privilegedOp i = true → priv = true) : (privilegedOp i && !priv) = false := by
  cases hi : privilegedOp i
  · rfl
  · simp [h hi]

theorem slotTrap_sound {priv : Bool} {n : Nat} {i : Instr} (hwf : i.wellFormed = true) (hpriv : privilegedOp i = true → priv = true)
    (hsno : specialTrap i = none) : slotTrap priv n i = none := by
  obtain ⟨hclean, hrange⟩ : i.clean = i ∧ i.inRange = true := by simpa [Instr.wellFormed] using hwf
  simp [slotTrap, hclean, privilege_held hpriv, hrange, hsno]

/-- A single instruction that does not block breaks no rule on combinations where no latch is popped (03 R90). -/
theorem comboTrap_one {u : Strand} {hdr : Header} {i : Instr} (hb : isBlocking i = false) (hpop : hdr.pop = 0) :
    comboTrap u hdr [i] = none := by
  have hshape : ¬ 1 < ([i].filter isShaping).length := Nat.not_lt.mpr (List.length_filter_le isShaping [i])
  simp [comboTrap, hb, hpop, hshape]

/-- With CHK at 0 neither COLLIDE nor STALL_SHORT is looked for (02 R55, R56). -/
theorem chkTraps_off {u : Strand} (h : u.regs.sr.chk = 0) (now : Nat) (is : List Instr) :
    collideTrap u is = none ∧ shortTrap u now is = none := by
  simp [collideTrap, shortTrap, h]

/-- Instructions of the S slot name no vector register and no accumulator, and none of them blocks or belongs to the array. -/
theorem scalar_uses {i : Instr} (h : i.slotKind = some .S) (u : Strand) : vSources u i = [] ∧ vDests u i = [] ∧ vNamed u i = [] ∧
    tagNeeds u i = [] ∧ (∀ n, formatExtra u n i = []) ∧ accNamed i = none ∧ isBlocking i = false ∧ isMatrix i = false := by
  cases i <;> cases h <;> exact ⟨rfl, rfl, rfl, rfl, fun _ => rfl, rfl, rfl, rfl⟩

theorem scalar_passes {s : State} {i : Instr} (hk : i.slotKind = some .S) (hslot : slotTrap s.u.privileged 0 i = none)
    (hentry : s.entryTrap 0 i = none) (hpop : s.hdr.pop = 0) (hchk : s.u.regs.sr.chk = 0) : s.Passes i := by
  obtain ⟨hsrc, hdst, hnamed, htags, hformat, hacc, hblock, hmatrix⟩ := scalar_uses hk s.u
  obtain ⟨hcollide, hshort⟩ := chkTraps_off hchk s.now [i]
  have hn : s.slotFor i = 0 := by simp [State.slotFor, hk]
  have howner : ownerTrap s [i] = none := by simp [ownerTrap, hmatrix]
  have hlatch : latchTrap s.u [i] = none := by simp [latchTrap, hnamed]
  have hshape : shapeTrap s.u [(0, i)] = none := by simp [shapeTrap, touched, hsrc, hdst, hacc, lowest]
  have htag : formatTrap s.u [(0, i)] = none := by simp [formatTrap, hformat, htags, lowest]
  have hcause : latchCause s.u s.hdr [i] = none := by simp [latchCause, hsrc, hpop, firstTrap, List.range, List.range.loop]
  refine .inr ?_
  rw [hn, bundleTrap_of_slot_sound hslot, comboTrap_one hblock hpop, howner, hlatch, hcollide, hshort, hshape, htag, hcause, hentry]
  rfl

/-- The privileged instructions stand in the S slot (03 R70). -/
theorem privilegedOp_slot {i : Instr} (h : privilegedOp i = true) : i.slotKind = some .S := by
  cases i with
  | rft | setx | getx | mfsr | mtsr => rfl
  | _ => exact absurd h Bool.false_ne_true

/-- No instruction of the M slot is privileged, names a special register or blocks. -/
theorem matrix_uses {i : Instr} (h : i.slotKind = some .M) :
    privilegedOp i = false ∧ specialTrap i = none ∧ isBlocking i = false ∧ isMatrix i = true := by
  cases i <;> cases h <;> exact ⟨rfl, rfl, rfl, rfl⟩

theorem matrix_ownerTrap {s : State} {i : Instr} (hk : i.slotKind = some .M) (hwf : i.wellFormed = true) (hpop : s.hdr.pop = 0)
    (hown : s.core.matrix.owner ≠ some s.u.who) : s.bundleTrap [(s.slotFor i, i)] = some ⟨0x01, 1⟩ := by
  obtain ⟨hpriv, hsno, hblock, hmatrix⟩ := matrix_uses hk
  have howner : ownerTrap s [i] = some ⟨0x01, 1⟩ := by simp [ownerTrap, hmatrix, hown, cILLEGAL]
  rw [bundleTrap_of_slot_sound (slotTrap_sound hwf (by simp [hpriv]) hsno), comboTrap_one hblock hpop, howner]
  rfl

/-- The search of `lowest` ends at one of the entries, whose key is the least. -/
theorem foldl_least {α : Type} (r : List (Nat × α)) (m : Nat × α) :
    let least := r.foldl (fun (m : Nat × α) x => if x.1 < m.1 then x else m) m
    least ∈ m :: r ∧ ∀ x ∈ m :: r, least.1 ≤ x.1 := by
  induction r generalizing m with
  | nil => simp
  | cons a r ih =>
    obtain ⟨hin, hle⟩ := ih (if a.1 < m.1 then a else m)
    simp only [List.foldl_cons]
    grind

/-- The entry with the least key is found, where those with its key carry one value. -/
theorem lowest_eq {α : Type} {l : List (Nat × α)} {k : Nat} {v : α} (hmem : (k, v) ∈ l)
    (hleast : ∀ x ∈ l, k ≤ x.1 ∧ (x.1 = k → x.2 = v)) : lowest l = some v := by
  cases l with
  | nil => cases hmem
  | cons a r =>
    obtain ⟨hin, hle⟩ := foldl_least r a
    obtain ⟨hk, hv⟩ := hleast _ hin
    exact congrArg some (hv (Nat.le_antisymm (hle _ hmem) hk))

theorem isLatch_unbound {u : Strand} (h : ∀ j, (u.latch j).bound = false) (r : Nat) : u.isLatch r = false := by
  simp [Strand.isLatch, h]

/-- VADD on one row whose destination is the lowest register that it touches, and the first to lie in a group without a shape. -/
theorem vadd_shapeTrap {u : Strand} {f : VR} (hcnt : f.cnt = 0) (ha : f.d.toNat ≤ f.a.toNat) (hb : f.d.toNat ≤ f.b.toNat)
    (hlatch : ∀ j, (u.latch j).bound = false) (hconf : u.configured (f.d.toNat / 16) = false) :
    shapeTrap u [(1, .vadd f)] = some ⟨0x05, f.d.toNat / 16 + 128 * (f.d.toNat % 16) + 8192⟩ := by
  have hbad : u.shapeBad f.d.toNat = some 0 := by simp [Strand.shapeBad, hconf]
  have htouched : touched u (.vadd f) = [f.a.toNat, f.b.toNat, f.d.toNat] := by
    simp [touched, isLatch_unbound hlatch, vSources, vDests, Instr.vrUse, rangeOf, hcnt]
  simp only [shapeTrap, List.flatMap_cons, List.flatMap_nil, List.append_nil, htouched]
  rw [lowest_eq (k := f.d.toNat) (v := ⟨0x05, f.d.toNat / 16 + 128 * (f.d.toNat % 16) + 8192⟩)]
  · rfl
  · simp [hbad, cTILE_UNCONF]
  · intro x hx
    obtain ⟨r, hr, kind, hkind, rfl⟩ : ∃ r ∈ [f.a.toNat, f.b.toNat, f.d.toNat], ∃ kind, u.shapeBad r = some kind ∧
        (r, (⟨cTILE_UNCONF, r / 16 + 128 * (r % 16) + 2048 * kind + 8192 * 1⟩ : Trap)) = x := by
      simpa only [List.mem_filterMap, Option.map_eq_some_iff] using hx
    refine ⟨?_, fun hrd => ?_⟩
    · simp only [List.mem_cons, List.not_mem_nil, or_false] at hr
      rcases hr with rfl | rfl | rfl
      · exact ha
      · exact hb
      · exact le_rfl
    · obtain rfl : r = f.d.toNat := hrd
      obtain rfl : 0 = kind := Option.some.inj (hbad.symm.trans hkind)
      rfl

theorem vadd_traps {s : State} {f : VR} (hwf : (Instr.vadd f).wellFormed = true) (hslot : s.slot = 1) (hpop : s.hdr.pop = 0)
    (hchk : s.u.regs.sr.chk = 0) (hcnt : f.cnt = 0) (ha : f.d.toNat ≤ f.a.toNat) (hb : f.d.toNat ≤ f.b.toNat)
    (hlatch : ∀ j, (s.u.latch j).bound = false) (hconf : s.u.configured (f.d.toNat / 16) = false) :
    s.bundleTrap [(s.slotFor (.vadd f), .vadd f)] = some ⟨0x05, f.d.toNat / 16 + 128 * (f.d.toNat % 16) + 8192⟩ := by
  obtain ⟨hcollide, hshort⟩ := chkTraps_off hchk s.now [.vadd f]
  have hn : s.slotFor (.vadd f) = 1 := by simp [State.slotFor, Instr.slotKind, hslot]
  have howner : ownerTrap s [.vadd f] = none := by simp [ownerTrap, isMatrix, Instr.slotKind]
  have hlatch' : latchTrap s.u [.vadd f] = none := by simp [latchTrap, isLatch_unbound hlatch]
  rw [hn, bundleTrap_of_slot_sound (slotTrap_sound hwf nofun rfl), comboTrap_one rfl hpop, howner, hlatch', hcollide, hshort,
    vadd_shapeTrap hcnt ha hb hlatch hconf]
  rfl

/-- Settles O8: each clause by the check that finds fault first, or by every check finding nothing. -/
theorem checksBeforeIssue : Obligations.ChecksBeforeIssue := by
  unfold Obligations.ChecksBeforeIssue
  refine ⟨?_, ?_, ?_, ?_, ?_, ?_⟩
  · intro s i hk hwf hpriv hsno hentry hpop hchk
    exact scalar_passes hk (slotTrap_sound hwf hpriv hsno) hentry hpop hchk
  · intro s i k hk hc hclean
    exact exec_traps hk hc (bundleTrap_of_slotTrap (by simp [slotTrap, hclean, cILLEGAL]))
  · intro s i hpriv hu hc hclean
    have hk := privilegedOp_slot hpriv
    exact exec_traps hk hc (bundleTrap_of_slotTrap (by simp [slotTrap, hclean, hpriv, hu, cPRIV, State.slotFor, hk]))
  · intro s i k hk hc hclean hrange hpriv
    exact exec_traps hk hc (bundleTrap_of_slotTrap (by simp [slotTrap, hclean, privilege_held hpriv, hrange, cILLEGAL]))
  · intro s i hk hwf hc hpop hown
    exact exec_traps hk hc (matrix_ownerTrap hk hwf hpop hown)
  · intro s f hwf hc hslot hpop hchk hcnt ha hb hlatch hconf
    exact exec_traps rfl hc (vadd_traps hwf hslot hpop hchk hcnt ha hb hlatch hconf)

end Sys2Proof.Machine
end

section
/-! SUPPORT. A strand listed twice: waking the strand beside it (01 R20) brings its other entry to the front. -/

namespace Sys2Proof.Machine

/-- The unit in front, on strand 0, has an empty bundle to issue. Strand 0 is listed a second time, BLOCKED, before the BLOCKED strand 1. -/
def frontListedTwice : State :=
  let s := { State.reset with cores := [], dies := [], lull := some 1 }.withBundle 0
  { s with strands := [{ s.u with st := .blocked }, { s.u with st := .blocked, place := ⟨0, 0, 0, 1⟩ }] }

/-- The state in which the statement has the bundle of `frontListedTwice` issue. -/
def frontIssuing : State :=
  (frontListedTwice.wakePeers.countHold.modU (fun u => { u with st := .running })).noteFetch

theorem frontListedTwice_issues : frontListedTwice.quiet = true ∧ frontListedTwice.mayIssue = true ∧
    frontListedTwice.u.st ≠ .blocked ∧ frontListedTwice.attempt = .go ⟨false, 0, 0⟩ [] := by
  decide +kernel

theorem frontListedTwice_selected : let s := frontListedTwice.wakePeers
    s.core.holder = s.u.place.strand ∧ s.higherReady = false ∧ s.quantumOver = false ∧ s.core.switchUntil ≤ s.now ∧
      s.throttled = false := by
  decide +kernel

/-- The PC of every strand of the next state, the one in front first. -/
def pcsAfter (o : Host.Outcome State Fault Refusal) : List Word :=
  match o with
  | .next t => t.allStrands.map Strand.pc
  | _ => []

/-- The BLOCKED entry has come to the front, so the turn hands issue over and no bundle issues. -/
theorem frontListedTwice_step : pcsAfter (step frontListedTwice) = [0, 0, 0] := by decide +kernel

/-- A bundle that issues moves its PC on. -/
theorem frontIssuing_issued : ∃ t, exec (.emptyBundle false 0 0) frontIssuing = .next t ∧ pcsAfter (.next t.advance) = [0, 1, 0] :=
  ⟨_, rfl, by decide +kernel⟩

/-- Refutes O53: where the strand in front is listed a second time, BLOCKED, the selector's waking of a strand beside it (01 R20) leaves
that entry in front, and the step hands issue over in place of issuing the bundle: no PC moves. -/
theorem not_stepsRunWhatTheyDecode : ¬ Obligations.StepsRunWhatTheyDecode := by
  unfold Obligations.StepsRunWhatTheyDecode
  intro h
  obtain ⟨-, -, hturn⟩ := h frontListedTwice ⟨false, 0, 0⟩ [] .ret 0 0 []
  obtain ⟨hquiet, hmay, hst, hattempt⟩ := frontListedTwice_issues
  obtain ⟨hholder, hhigher, hquantum, hswitch, hthrottled⟩ := frontListedTwice_selected
  obtain ⟨hempty, -⟩ := hturn hquiet hmay hst hholder hhigher hquantum hswitch hthrottled hattempt
  obtain ⟨t, ht, hpcs⟩ := frontIssuing_issued
  have hstep := frontListedTwice_step
  rw [hempty rfl t ht, hpcs] at hstep
  exact absurd hstep (by decide)

end Sys2Proof.Machine
end

section
/-! SUPPORT. Tile groups: the shape of a group and the rows behind it, scheduled by one instruction (05 R114, 16 R379), and the
columns of a tile's rows (16 R373). -/

namespace Sys2Proof.Machine

/-! Two writes to land. -/

/-- Saving a group for the unit that holds it takes no time (05 R125). -/
theorem claimGroup_now (s : State) (t : Nat) : (s.claimGroup t).now = s.now := by
  unfold State.claimGroup State.saveGroup
  dsimp only
  split
  · split <;> rfl
  · rfl

/-- Being overtaken moves no write to another destination (02 R55). -/
theorem overtake_dest (c : Nat) (rs : List Nat) (f : Flight) : (f.overtake c rs).dest = f.dest :=
  (congrArg Flight.dest (unmarked_overtake c rs f) :)

/-- Nor does it change the cycle in which the write lands. -/
theorem overtake_land (c : Nat) (rs : List Nat) (f : Flight) : (f.overtake c rs).land = f.land :=
  (congrArg Flight.land (unmarked_overtake c rs f) :)

/-- The write scheduled last carries the destination, the cycle and the rows it was scheduled with (02 R51). -/
theorem sched_flights (s : State) (slot : Nat) (d : Dest) (lat : Nat) (rows : List VReg) (same : Bool) (fl reg : Nat) :
    ∃ c rs f, (s.sched slot d lat rows same fl reg).u.flights = s.u.flights.map (Flight.overtake c rs) ++ [f] ∧
      f.dest = d ∧ f.land = s.now + lat ∧ f.same = same ∧ f.rows = rows := ⟨_, _, _, rfl, rfl, rfl, rfl, rfl⟩

/-- A new shape, and rows of its group scheduled behind it, are the last two writes to land: the shape in the next cycle, the rows
together after their latency. -/
theorem landShape_landTile_flights (s : State) (slot t lat : Nat) (g : TGroup) (rows : List VReg) :
    ∃ pre f h, ((s.landShape slot t g).landTile slot t lat rows).u.flights = pre ++ [f, h] ∧
      f.dest = .shape t g ∧ f.land = s.now + 1 ∧
      h.dest = .vector (16 * t) ∧ h.land = s.now + lat ∧ h.same = true ∧ h.rows = rows := by
  obtain ⟨c, rs, f, hshape, hfd, hfl, -, -⟩ := sched_flights s slot (.shape t g) 1 [⟨0, 0⟩] true 0 0
  obtain ⟨c', rs', h, htile, hrest⟩ := sched_flights (s.landShape slot t g) slot (.vector (16 * t)) lat rows true 0 (16 * t)
  refine ⟨(s.u.flights.map (Flight.overtake c rs)).map (Flight.overtake c' rs'), f.overtake c' rs', h, ?_,
    (overtake_dest ..).trans hfd, (overtake_land ..).trans hfl, hrest⟩
  rw [State.landTile, htile, State.landShape, hshape]
  simp

/-! Columns and rows. -/

theorem elem_lt (e : Nat) (r : Row) (i : Nat) : elem e r i < 2 ^ (8 * e) := Nat.mod_lt _ (by positivity)

theorem elem_zero (e i : Nat) : elem e 0 i = 0 := by
  simp only [elem, bitsAt, BitVec.ofNat_eq_ofNat, BitVec.toNat_zero, Nat.zero_shiftRight, Nat.zero_mod]

/-- A row that gathers element i of n rows holds them in its first n lanes, and zeros above. -/
theorem elem_gathered {e : Nat} (he : e = 1 ∨ e = 2 ∨ e = 4) (src : Nat → Row) (i n : Nat) {k : Nat} (hk : k < 64 / e) :
    elem e (ofElems e ((List.range n).map (fun j => elem e (src j) i))) k = if k < n then elem e (src k) i else 0 := by
  rw [elem_ofElems he _ hk, List.getD_eq_getElem?_getD]
  split
  next h => simp [h, Nat.mod_eq_of_lt (elem_lt ..)]
  next h => simp [h]

/-- A row with element i replaced by one of another row. -/
theorem elem_replaced {e : Nat} (he : e = 1 ∨ e = 2 ∨ e = 4) (r src : Row) (i j : Nat) {k : Nat} (hk : k < 64 / e) :
    elem e (ofElems e ((elems e r).set i (elem e src j))) k = if k = i then elem e src j else elem e r k := by
  rw [elem_ofElems he _ hk, List.getD_eq_getElem?_getD]
  split
  next h => subst h; simp [length_elems, hk, Nat.mod_eq_of_lt (elem_lt ..)]
  next h => simp [Ne.symm h, getElem?_elems _ _ hk, Nat.mod_eq_of_lt (elem_lt ..)]

theorem eq_of_getElem?_map_range {α : Type} {f : Nat → α} {n j : Nat} {a : α} (h : ((List.range n).map f)[j]? = some a) :
    f j = a := by
  obtain ⟨hj, h⟩ := List.getElem?_eq_some_iff.1 h
  simpa using h

/-! TCRD, TCWR and TTRN. -/

/-- Column idx of a group's rows, as TCRD gathers it (16 R373). -/
def Strand.tileColumn (u : Strand) (t idx : Nat) : VReg :=
  ⟨ofElems 4 ((List.range (u.tileRows t)).map (fun j => elem 4 (u.vreg (16 * t + j)).data idx)), (u.group t).gfmt⟩

/-- Its lane k is the column's word of row k. -/
theorem elem_tileColumn (u : Strand) (t idx : Nat) {k : Nat} (hk : k < 64 / 4) :
    elem 4 (u.tileColumn t idx).data k = if k < u.tileRows t then elem 4 (u.vreg (16 * t + k)).data idx else 0 :=
  elem_gathered (by simp) (fun j => (u.vreg (16 * t + j)).data) idx _ hk

theorem exec_tcrd_passes {s : State} {t : BitVec 7} {v : BitVec 11} {idx : BitVec 4} (h : s.Passes (.tcrd t v idx)) :
    exec (.tcrd t v idx) s = .next (s.landRows (.tcrd t v idx) v 0 6 (fun _ => ⟨s.u.tileColumn t.toNat idx.toNat, 0⟩)) :=
  (exec_tcrd ..).trans (issue_passes h _)

/-- Bytes of an element of a group as TTRN counts them, 4 in a RAW group (16 R379). -/
def TGroup.elemBytes (g : TGroup) : Nat := if g.gfmt = 11 then 4 else tagBytes g.gfmt

theorem elemBytes_cases (g : TGroup) : g.elemBytes = 1 ∨ g.elemBytes = 2 ∨ g.elemBytes = 4 := by
  unfold TGroup.elemBytes
  split
  · simp
  · exact tagBytes_cases g.gfmt

/-- The shape that TTRN gives its destination: rows and columns of the group change places (16 R379). -/
def TGroup.transposed (g : TGroup) (w : UnitId) : TGroup :=
  ⟨true, g.rowb / g.elemBytes, 4 * ((g.rows * g.elemBytes + 3) / 4), g.gfmt, true, w⟩

/-- Row i of a group transposed: column i of its rows, or zeros beyond the last column. -/
def Strand.transposedRow (u : Strand) (t i : Nat) : VReg :=
  if i < (u.group t).rowb / (u.group t).elemBytes then
    ⟨ofElems (u.group t).elemBytes
      ((List.range (u.group t).rows).map (fun j => elem (u.group t).elemBytes (u.vreg (16 * t + j)).data i)), (u.group t).gfmt⟩
  else ⟨0, (u.group t).gfmt⟩

theorem exec_ttrn_passes {s : State} {t ta : BitVec 7} (h : s.Passes (.ttrn t ta)) :
    exec (.ttrn t ta) s = .next (((s.claimGroup t.toNat).landShape (s.slotFor (.ttrn t ta)) t.toNat
      ((s.u.group ta.toNat).transposed s.u.who)).landTile (s.slotFor (.ttrn t ta)) t.toNat 20
        ((List.range 16).map (s.u.transposedRow ta.toNat))) :=
  (exec_ttrn ..).trans (issue_passes h _)

theorem transposedRow_tag (u : Strand) (t i : Nat) : (u.transposedRow t i).tag = (u.group t).gfmt := by
  unfold Strand.transposedRow
  split <;> rfl

/-- Lane k of row i holds element i of row k. -/
theorem elem_transposedRow (u : Strand) (t i : Nat) {k : Nat} (hk : k < 64 / (u.group t).elemBytes) :
    elem (u.group t).elemBytes (u.transposedRow t i).data k =
      if i < (u.group t).rowb / (u.group t).elemBytes ∧ k < (u.group t).rows then
        elem (u.group t).elemBytes (u.vreg (16 * t + k)).data i else 0 := by
  unfold Strand.transposedRow
  split
  next hi => simpa only [hi, true_and] using elem_gathered (elemBytes_cases _) (fun j => (u.vreg (16 * t + j)).data) i _ hk
  next hi => rw [elem_zero, if_neg (fun h => hi h.1)]

/-- Settles O21: TCFG and TTRN by the two writes of `landShape_landTile_flights`, TCRD by `elem_tileColumn`, TCWR by `elem_replaced`
and TTRN's rows by `elem_transposedRow`. -/
theorem tileOperations : Obligations.TileOperations := by
  unfold Obligations.TileOperations
  intro s t ta rows fmt idx rowb v
  refine ⟨fun h => ?tcfg, fun h => (exec_trel ..).trans (issue_passes h _), fun h => ?tcrd, fun h => ?tcwr, fun h => ?ttrn⟩
  case tcfg =>
    obtain ⟨pre, f, g, hfg, hfd, hfl, hgd, hgl, hgs⟩ := landShape_landTile_flights (s.claimGroup t.toNat)
      (s.slotFor (.tcfg t rows rowb fmt)) t.toNat 1 ⟨true, rows.toNat + 1, (rowb.toNat + 1) * 4, fmt.toNat, true, s.u.who⟩
      (List.replicate 16 ⟨0, fmt.toNat⟩)
    rw [claimGroup_now] at hfl hgl
    exact ⟨_, pre, f, g, (exec_tcfg ..).trans (issue_passes h _), hfg, hfd, hfl, hgd, hgl, hgs⟩
  case tcrd =>
    obtain ⟨out, fl, hland, hrows⟩ := landRows_spec s (.tcrd t v idx) v 0 6 (s.u.group t.toNat).gfmt 4
      (fun _ => ⟨s.u.tileColumn t.toNat idx.toNat, 0⟩)
      (fun _ k => ⟨if k < s.u.tileRows t.toNat then elem 4 (s.u.vreg (16 * t.toNat + k)).data idx.toNat else 0, 0⟩)
      fun _ _ => ⟨rfl, fun k hk => by rw [← elem_tileColumn _ _ _ hk, Nat.mod_eq_of_lt (elem_lt ..)], by simp⟩
    exact ⟨out, fl, (exec_tcrd_passes h).trans (congrArg _ hland), hrows⟩
  case tcwr =>
    refine ⟨_, (exec_tcwr ..).trans (issue_passes h _), by rw [List.length_map, List.length_range], fun j r hr => ?_⟩
    obtain rfl := eq_of_getElem?_map_range hr
    exact ⟨rfl, fun k hk => elem_replaced (by simp) _ _ _ _ hk⟩
  case ttrn =>
    obtain ⟨pre, f, g, hfg, hfd, hfl, hgd, hgl, -, hgr⟩ := landShape_landTile_flights (s.claimGroup t.toNat)
      (s.slotFor (.ttrn t ta)) t.toNat 20 ((s.u.group ta.toNat).transposed s.u.who) ((List.range 16).map (s.u.transposedRow ta.toNat))
    rw [claimGroup_now] at hfl hgl
    refine ⟨_, pre, f, g, exec_ttrn_passes h, hfg, hfd, hfl, hgd, hgl, by simp [hgr], fun j r hr => ?_⟩
    obtain rfl := eq_of_getElem?_map_range (hgr ▸ hr)
    exact ⟨transposedRow_tag .., fun k hk => elem_transposedRow _ _ _ hk⟩

end Sys2Proof.Machine
end

section
/-! SUPPORT. A write granule by granule (09 R194, 13 R284, R285): which granules it leaves unmerged, what each byte reads as after
it, and the poison of a granule not merged. -/

namespace Sys2Proof.Machine

/-! Granules. -/

theorem isGlobal_granOf (a : Nat) : isGlobal (granOf a) = isGlobal a := by
  unfold granOf granBytes isGlobal
  by_cases h : a < 2 ^ 64
  · simp only [h, decide_true, if_true, decide_eq_true_eq]; omega
  · simp only [h, decide_false, Bool.false_eq_true, if_false, decide_eq_false_iff_not]; omega

theorem granBytes_granOf (a : Nat) : granBytes (granOf a) = granBytes a := by
  unfold granBytes
  rw [isGlobal_granOf]

theorem granBytes_pos (a : Nat) : 0 < granBytes a := by
  unfold granBytes
  split <;> decide

/-- A byte lies in its granule. -/
theorem granOf_bounds (a : Nat) : granOf a ≤ a ∧ a < granOf a + granBytes (granOf a) := by
  rw [granBytes_granOf]
  have := Nat.mod_lt a (granBytes_pos a)
  have := Nat.mod_le a (granBytes a)
  unfold granOf
  omega

theorem granOf_mem_granules {homes : List Nat} {a : Nat} (h : a ∈ homes) : granOf a ∈ Memory.granules homes := by
  simpa [Memory.granules] using ⟨a, h, rfl⟩

/-- Bytes of one granule that leave one out are fewer than the granule has. -/
theorem length_lt_granBytes {homes : List Nat} {g b : Nat} (hn : homes.Nodup) (hb : g ≤ b ∧ b < g + granBytes g) (hout : b ∉ homes) :
    (homes.filter (fun a => granOf a = g)).length < granBytes g := by
  have hnodup : (b :: homes.filter (fun a => granOf a = g)).Nodup :=
    List.nodup_cons.mpr ⟨fun h => hout (List.mem_of_mem_filter h), hn.filter _⟩
  have hsub : b :: homes.filter (fun a => granOf a = g) ⊆ List.range' g (granBytes g) := by
    refine List.cons_subset.mpr ⟨List.mem_range'_1.mpr hb, fun a ha => ?_⟩
    obtain rfl : granOf a = g := by simpa using (List.mem_filter.mp ha).2
    exact List.mem_range'_1.mpr (granOf_bounds a)
  simpa using (List.subperm_of_subset hnodup hsub).length_le

/-! The two passes of a write. -/

/-- The bad granules that a write of part of them does not merge (13 R284). -/
def Memory.unmerged (m : Memory) (whole homes : List Nat) : List Nat :=
  (Memory.granules homes).filter (fun g =>
    Memory.bad (m.eccOf g) && (whole.filter (fun a => granOf a = g)).length < granBytes g)

/-- One byte of a write, unless its granule is not merged. -/
def Memory.mergeByte (dropped : List Nat) (tag : Nat) (m : Memory) (p : Nat × Byte) : Memory :=
  if dropped.contains (granOf p.1) then m
  else if isGlobal p.1 then (m.storeByte p.1 p.2).setTag p.1 tag else m.storeByte p.1 p.2

/-- The code word of one granule that a write to the memory m touches. -/
def Memory.markGranule (m : Memory) (dropped rest : List Nat) (c : Cover) (k : Memory) (g : Nat) : Memory :=
  if dropped.contains g then k.setEcc g .poisoned
  else if Memory.bad (m.eccOf g) && rest.any (fun a => granOf a = g) then k
  else (k.setEcc g .clean).setMode g c

theorem writePart_eq (m : Memory) (whole rest homes : List Nat) (data : List Byte) (c : Cover) (tag : Nat) :
    m.writePart whole rest homes data c tag =
      ((Memory.granules homes).foldl (m.markGranule (m.unmerged whole homes) rest c)
        ((homes.zip data).foldl (Memory.mergeByte (m.unmerged whole homes) tag) m), m.unmerged whole homes) := rfl

/-- Where no granule is bad, all are merged. -/
theorem unmerged_sound {m : Memory} {whole homes : List Nat} (h : ∀ a ∈ homes, Memory.bad (m.eccOf a) = false) :
    m.unmerged whole homes = [] := by
  refine List.filter_eq_nil_iff.mpr fun g hg => ?_
  obtain ⟨a, ha, rfl⟩ := mem_granules hg
  simp [h a ha]

/-- A bad granule written in part is not merged. -/
theorem granOf_mem_unmerged {m : Memory} {homes : List Nat} {a b : Nat} (hn : homes.Nodup) (ha : a ∈ homes)
    (hbad : Memory.bad (m.eccOf a) = true) (hb : granOf a ≤ b ∧ b < granOf a + granBytes (granOf a)) (hout : b ∉ homes) :
    granOf a ∈ m.unmerged homes homes := by
  refine List.mem_filter.mpr ⟨granOf_mem_granules ha, ?_⟩
  simpa [hbad] using length_lt_granBytes hn hb hout

/-! Bytes. -/

section
variable {dropped : List Nat} {tag : Nat}

theorem mergeByte_wf {m : Memory} {p : Nat × Byte} (h : m.wf = true) : (m.mergeByte dropped tag p).wf = true := by
  unfold Memory.mergeByte
  split
  · exact h
  · split <;> simpa using storeByte_wf h

theorem byte_mergeByte_ne {m : Memory} {p : Nat × Byte} {a : Nat} (ha : a ≠ p.1) (h : m.wf = true) :
    (m.mergeByte dropped tag p).byte a = m.byte a := by
  have hstore : (m.storeByte p.1 p.2).byte a = m.byte a := byte_setByte_ne ha h
  unfold Memory.mergeByte
  split
  · rfl
  · split <;> simpa using hstore

theorem byte_mergeByte_self {m : Memory} {a : Nat} {b : Byte} (h : m.wf = true) :
    (m.mergeByte dropped tag (a, b)).byte a = if granOf a ∈ dropped then m.byte a else b := by
  have hstore : (m.storeByte a b).byte a = b := byte_setByte_self h
  by_cases hd : granOf a ∈ dropped
  · simp [Memory.mergeByte, hd]
  · simp only [Memory.mergeByte, List.contains_eq_mem, hd, decide_false, Bool.false_eq_true, if_false]
    split <;> simpa using hstore

theorem byte_mergeBytes_out {l : List (Nat × Byte)} {m : Memory} {a : Nat} (h : m.wf = true) (ha : a ∉ l.map Prod.fst) :
    (l.foldl (Memory.mergeByte dropped tag) m).byte a = m.byte a := by
  induction l generalizing m with
  | nil => rfl
  | cons p r ih =>
    obtain ⟨hne, hr⟩ : a ≠ p.1 ∧ a ∉ r.map Prod.fst := by simpa only [List.map_cons, List.mem_cons, not_or] using ha
    rw [List.foldl_cons, ih (mergeByte_wf h) hr, byte_mergeByte_ne hne h]

theorem byte_mergeBytes_in {l : List (Nat × Byte)} {m : Memory} {a : Nat} {b : Byte} (h : m.wf = true)
    (hn : (l.map Prod.fst).Nodup) (hab : (a, b) ∈ l) :
    (l.foldl (Memory.mergeByte dropped tag) m).byte a = if granOf a ∈ dropped then m.byte a else b := by
  induction l generalizing m with
  | nil => cases hab
  | cons p r ih =>
    obtain ⟨hp, hr⟩ := List.nodup_cons.mp hn
    rw [List.foldl_cons]
    rcases List.mem_cons.mp hab with rfl | hab
    · rw [byte_mergeBytes_out (mergeByte_wf h) hp, byte_mergeByte_self h]
    · have hne : a ≠ p.1 := fun e => hp (e ▸ List.mem_map_of_mem hab)
      rw [ih (mergeByte_wf h) hr hab, byte_mergeByte_ne hne h]

end

theorem byte_markGranule (m : Memory) (dropped rest : List Nat) (c : Cover) (k : Memory) (g i : Nat) :
    (m.markGranule dropped rest c k g).byte i = k.byte i := by
  unfold Memory.markGranule
  split
  · rfl
  · split <;> rfl

/-- Part of a write puts each byte at its home, but in the granules not merged. -/
theorem byte_writePart_in {m : Memory} {whole rest homes : List Nat} {data : List Byte} {c : Cover} {tag n a : Nat} {b : Byte}
    (h : m.wf = true) (hn : homes.Nodup) (hl : data.length = homes.length) (ha : homes[n]? = some a) (hb : data[n]? = some b) :
    (m.writePart whole rest homes data c tag).1.byte a = if granOf a ∈ m.unmerged whole homes then m.byte a else b := by
  have hab : (a, b) ∈ homes.zip data := List.mem_of_getElem? (i := n) (by simp [List.getElem?_zip_eq_some, ha, hb])
  rw [writePart_eq, foldl_byte fun k g => byte_markGranule m _ _ _ k g a, byte_mergeBytes_in h (by rwa [List.map_fst_zip hl.ge]) hab]

/-! Poison. -/

theorem mergeBytes_ecc (dropped : List Nat) (tag : Nat) (l : List (Nat × Byte)) (m : Memory) :
    (l.foldl (Memory.mergeByte dropped tag) m).ecc = m.ecc :=
  foldl_inv (fun k : Memory => k.ecc = m.ecc) l m rfl fun k p _ hk => by
    unfold Memory.mergeByte
    split
    · exact hk
    · split <;> exact hk

section
variable {m k : Memory} {dropped rest : List Nat} {c : Cover}

theorem markGranule_ecc_wf (hw : wfTab Code.clean k.ecc = true) (x : Nat) :
    wfTab Code.clean (m.markGranule dropped rest c k x).ecc = true := by
  unfold Memory.markGranule
  split
  · exact put_wf hw
  · split
    · exact hw
    · exact put_wf hw

theorem lookup_markGranule_self {g : Nat} (hg : g ∈ dropped) (hx : granOf g = g) (hw : wfTab Code.clean k.ecc = true) :
    lookup Code.clean (m.markGranule dropped rest c k g).ecc g = .poisoned := by
  simp only [Memory.markGranule, List.contains_eq_mem, hg, decide_true, if_true, Memory.setEcc, hx, lookup_put_self hw]

theorem lookup_markGranule_ne {g x : Nat} (hne : g ≠ x) (hx : granOf x = x) (hw : wfTab Code.clean k.ecc = true) :
    lookup Code.clean (m.markGranule dropped rest c k x).ecc g = lookup Code.clean k.ecc g := by
  have hput (e : Code) : lookup Code.clean (k.setEcc x e).ecc g = lookup Code.clean k.ecc g := by
    rw [Memory.setEcc, hx]
    exact lookup_put_ne hne hw
  unfold Memory.markGranule
  split
  · exact hput _
  · split
    · rfl
    · exact hput _

/-- Of granules marked one by one, one not merged is poisoned, and stays so as others are marked. -/
theorem markGranules_poisoned {g : Nat} (hg : g ∈ dropped) {l : List Nat} (hl : ∀ x ∈ l, granOf x = x)
    (hw : wfTab Code.clean k.ecc = true) (h : g ∈ l ∨ lookup Code.clean k.ecc g = .poisoned) :
    lookup Code.clean (l.foldl (m.markGranule dropped rest c) k).ecc g = .poisoned := by
  induction l generalizing k with
  | nil => simpa using h
  | cons x r ih =>
    have hx : granOf x = x := hl x List.mem_cons_self
    refine ih (fun y hy => hl y (List.mem_cons_of_mem x hy)) (markGranule_ecc_wf hw x) ?_
    by_cases e : g = x
    · subst e
      exact .inr (lookup_markGranule_self hg hx hw)
    · rw [lookup_markGranule_ne e hx hw]
      exact h.imp_left fun hm => (List.mem_cons.mp hm).resolve_left e

end

theorem eccOf_poisoned {m : Memory} {a : Nat} (h : lookup Code.clean m.ecc (granOf a) = .poisoned) : m.eccOf a = .poisoned := by
  rw [Memory.eccOf, h]
  rfl

/-- A granule that a write does not merge is poisoned (13 R284). -/
theorem eccOf_writePart_unmerged {m : Memory} {whole rest homes : List Nat} {data : List Byte} {c : Cover} {tag a : Nat}
    (hw : wfTab Code.clean m.ecc = true) (ha : granOf a ∈ m.unmerged whole homes) :
    (m.writePart whole rest homes data c tag).1.eccOf a = .poisoned := by
  rw [writePart_eq]
  refine eccOf_poisoned (markGranules_poisoned ha (fun x hx => ?_) ?_ (.inl (List.mem_of_mem_filter ha)))
  · obtain ⟨y, -, rfl⟩ := mem_granules hx
    exact granOf_granOf y
  · rwa [mergeBytes_ecc]

/-- Settles O58: each byte by `byte_writePart_in`, the rest by `byte_write_out`; a bad granule written in part is not merged, and so
poisoned. -/
theorem writesReachTheirHomes : Obligations.WritesReachTheirHomes := by
  unfold Obligations.WritesReachTheirHomes
  intro m homes data c tag r hw hl hn
  refine ⟨write_wf hw, fun a ha => byte_write_out hw ha, fun n a b ha hb => byte_writePart_in hw hn hl ha hb, fun h => ?_,
    fun hecc a ha hbad ⟨b, hlo, hhi, hout⟩ => ?_⟩
  · refine unmerged_sound fun a ha => ?_
    rcases h a ha with he | he <;> simp [he, Memory.bad]
  · have hdrop := granOf_mem_unmerged hn ha hbad ⟨hlo, by rwa [granBytes_granOf]⟩ hout
    exact ⟨hdrop, eccOf_writePart_unmerged hecc hdrop⟩

end Sys2Proof.Machine
end

section
/-! SUPPORT. Accesses of the Y slot that pend (09 R198; 15 R339; 16 R347, R358, R368), and the pins that OWN.P takes back. -/

namespace Sys2Proof.Machine

/-- An instruction whose effect is to add an access of the Y slot leaves it behind the others and changes nothing else of these. -/
theorem pends_of_addAcc {s : State} {i : Instr} {a : Act} {cls : Nat} {sps : List Span}
    (h : exec i s = .next (s.addAcc 7 a cls sps 1 0)) :
    ∃ t, exec i s = .next t ∧ t.u.regs = s.u.regs ∧ t.mem = s.mem ∧ t.core = s.core ∧
      t.u.accs = s.u.accs ++ [⟨a, cls, sps, 7, s.u.pc, 1, s.now, 0, false, s.blocksAt (sps.flatMap Span.homes), []⟩] :=
  ⟨_, h, rfl, rfl, rfl, addAcc_last ..⟩

theorem exec_sig_passes {s : State} {sa sb d : BitVec 6} {oc : BitVec 4} {sp : Span} (h : s.Passes (.sig sa sb oc d))
    (hsp : s.sigSpan (s.S sa) kBoth = .ok sp) :
    exec (.sig sa sb oc d) s = .next (s.addAcc 7 (.atomic .add (s.S sb) 0 d.toNat) oc.toNat [sp] 1 0) := by
  refine ((exec_sig ..).trans (issue_passes h _)).trans ?_
  simp only [hsp]

theorem exec_ownE_passes {s : State} {sa sl : BitVec 6} {sp : Span} (h : s.Passes (.ownE sa sl))
    (hsp : s.ownSpan (s.S sa) (s.S sl) = .ok sp) (hne : sp.homes ≠ []) :
    exec (.ownE sa sl) s = .next (s.addAcc 7 .pin 16 [sp] 1 0) := by
  refine ((exec_ownE ..).trans (issue_passes h _)).trans ?_
  simp only [hsp, hne, if_false]

/-- The core and the accesses as OWN.P leaves them: without the pins, present and to come, of some chunks (16 R358; log 41). -/
def State.unpin (s : State) (cs : List Nat) : State :=
  (s.modCore (fun c => { c with pinned := c.pinned.filter (fun k => !cs.contains k) })).modU (fun u =>
    { u with accs := u.accs.map (unpinAcc cs) })

theorem exec_ownP_passes {s : State} {sa sl : BitVec 6} {sp : Span} (h : s.Passes (.ownP sa sl))
    (hsp : s.ownSpan (s.S sa) (s.S sl) = .ok sp) : exec (.ownP sa sl) s = .next (s.unpin (chunksOf sp.homes)) := by
  refine ((exec_ownP ..).trans (issue_passes h _)).trans ?_
  simp only [hsp]
  rfl

theorem mem_unpin_pinned (s : State) (cs : List Nat) (k : Nat) : k ∈ (s.unpin cs).core.pinned ↔ k ∈ s.core.pinned ∧ k ∉ cs := by
  simp [State.unpin]

/-- A flip to come keeps none of the homes in the chunks named. -/
theorem unpinAcc_spares {cs : List Nat} {a : Access} (hpin : (unpinAcc cs a).act = .pin) {sp : Span}
    (hsp : sp ∈ (unpinAcc cs a).spans) {h : Nat} (hh : h ∈ sp.homes) : chunkOf h ∉ cs := by
  unfold unpinAcc at hpin hsp
  split at hsp
  next =>
    obtain ⟨x, -, rfl⟩ := List.mem_map.mp hsp
    simpa using (List.mem_filter.mp hh).2
  next hne =>
    split at hpin
    next ha => exact absurd ha hne
    next => exact absurd hpin hne

/-- Settles O29: each access by `pends_of_addAcc`; OWN.P by what `State.unpin` keeps. -/
theorem synchronisationPends : Obligations.SynchronisationPends := by
  unfold Obligations.SynchronisationPends
  intro s sa sb d oc mask tag scope which pends
  refine ⟨fun h => ?fence, fun h sp hsp => ?sig, fun h => ?mark, fun h => ?hibq, fun h => ?hint, fun h sp hsp hne => ?ownE,
    fun h sp hsp => ?ownP⟩
  case fence => exact pends_of_addAcc ((exec_fence ..).trans (issue_passes h _))
  case sig => exact pends_of_addAcc (exec_sig_passes h hsp)
  case mark => exact pends_of_addAcc ((exec_mark ..).trans (issue_passes h _))
  case hibq => exact pends_of_addAcc ((exec_hibq ..).trans (issue_passes h _))
  case hint => exact (exec_hint ..).trans (issue_passes h _)
  case ownE => exact pends_of_addAcc (exec_ownE_passes h hsp hne)
  case ownP =>
    refine ⟨_, exec_ownP_passes h hsp, rfl, rfl, mem_unpin_pinned s _, fun a ha hpin sp' hsp' x hx => ?_⟩
    obtain ⟨b, -, rfl⟩ := List.mem_map.mp ha
    exact unpinAcc_spares hpin hsp' hx

end Sys2Proof.Machine
end

section
/-! SUPPORT. A blocking instruction at a word that it reaches (09 R196, R208; 08 R188): what it meets there, and what it leaves. -/

namespace Sys2Proof.Machine

/-- A blocking instruction reaches the sound aligned word at h: nothing of the unit is outstanding, no copy is to add to the word, no
command holds its chunk, no request is at any home, and the span names the word's bytes as its homes. -/
structure State.Reaches (s : State) (sp : Span) (h : Nat) : Prop where
  waiters : s.waiters = []
  accs : s.u.accs = []
  adds : s.core.addsTo s.u.who s.now 0 [h / 8] = false
  held : (chunksOf sp.homes).any s.heldChunk = false
  peer : sp.peer = none
  homes : sp.homes = List.range' h 8
  aligned : h % 8 = 0
  clean : s.mem.eccOf h = .clean

/-- The bytes of an aligned word share it. -/
theorem words_range' {h : Nat} (ha : h % 8 = 0) : ((List.range' h 8).map (· / 8)).eraseDups = [h / 8] := by
  have hrep : (List.range' h 8).map (· / 8) = List.replicate 8 (h / 8) := by
    refine List.eq_replicate_iff.mpr ⟨by simp, fun b hb => ?_⟩
    obtain ⟨x, hx, rfl⟩ := List.mem_map.mp hb
    have := List.mem_range'_1.mp hx
    omega
  rw [hrep]
  simp [List.replicate, List.eraseDups_cons]

/-- With nothing outstanding no access holds another back (09 R196, R198). -/
theorem mayPerform_nil (s : State) (cls : Nat) (words : List Nat) : s.mayPerform [] cls words = true := by
  simp [State.mayPerform, State.fenced]

theorem dropRequest_nil {s : State} (h : s.waiters = []) : s.dropRequest = s := by
  unfold State.dropRequest
  rw [h, List.filter_nil, ← h]

theorem tryBlock_fresh {s : State} (h : s.waiters = []) (i : Instr) : s.tryBlock i = s.tryFresh i := by
  simp [State.tryBlock, State.servedValue, h]

theorem queued_nil {s : State} (hw : s.waiters = []) (h : Nat) (same : Wait → Bool) : s.queued h same = false := by
  simp [State.queued, hw]

theorem leave_nil {s : State} (hw : s.waiters = []) (h : Nat) (w : Wait) : s.leave h w = .wait (some ⟨s.u.who, h, w, none⟩) := by
  simp [State.leave, State.myRequest, hw]

/-! The two below unfold a function and not its value at s: asked whether that value is the match, Lean's kernel would evaluate the
span that the match is about. The first also hides from it which function finds the span. -/

theorem blockHomes_ok {s : State} {f : MemF} {sp : Span} :
    (s.memSpan 4 f 3 kBoth true = .ok sp → s.blockHomes (.take f) = s.spanHomes sp) ∧
    (s.memSpan 5 f 3 kBoth true = .ok sp → s.blockHomes (.putf f) = s.spanHomes sp) := by
  have e : State.blockHomes = State.blockHomes := rfl
  conv at e => rhs; delta State.blockHomes
  obtain ⟨span, hspan⟩ : ∃ g, g = State.memSpan := ⟨_, rfl⟩
  rw [← hspan] at e ⊢
  exact ⟨fun h => by simp only [e, h], fun h => by simp only [e, h]⟩

theorem memHome_ok {s : State} {f : MemF} {slot : Nat} {sp : Span} (hsp : s.memSpan slot f 3 kBoth true = .ok sp) :
    s.memHome f slot = (s.spanHomes sp).headD 0 := by
  have e : State.memHome = State.memHome := rfl
  conv at e => rhs; delta State.memHome
  simp only [e, hsp]

section
variable {s : State} {sp : Span} {h : Nat} (hr : s.Reaches sp h)
include hr

theorem State.Reaches.spanHomes : s.spanHomes sp = List.range' h 8 := by rw [State.spanHomes, hr.peer, hr.homes]

theorem State.Reaches.noteRead : s.noteRead (List.range' h 8) = s :=
  noteRead_clean s _ fun _ hb => (eccOf_word hr.aligned hb).trans hr.clean

/-- Its access may be made. -/
theorem State.Reaches.blockOrder (cls : Nat) (allCls : Bool) : s.blockOrder cls (List.range' h 8) allCls = true := by
  have hold : s.olderAccs = [] := by simp [State.olderAccs, hr.accs]
  have hheld := hr.held
  rw [hr.homes] at hheld
  simp only [State.blockOrder, words_range' hr.aligned, hr.adds, hheld, hold, mayPerform_nil, List.all_nil, ite_self, Bool.not_false,
    Bool.and_self]

/-- So it meets its condition at the word. -/
theorem State.Reaches.atHome (slot : Nat) (wr : Bool) (cls : BitVec 4) (allCls : Bool) (k : Nat → Try) :
    s.atHome (.ok sp) slot wr cls allCls k = k h := by
  have hhome : s.blockHome sp slot wr = .ok h := by
    simp [State.blockHome, State.resolve, hr.peer, hr.homes, hr.clean, Memory.bad, List.range']
  simp only [State.atHome, hr.spanHomes, hr.blockOrder, Bool.not_true, Bool.false_eq_true, if_false, hhome]

theorem State.Reaches.mailTry {f : MemF} {slot : Nat} (hsp : s.memSpan slot f 3 kBoth true = .ok sp) (k : Nat → Try) :
    Machine.mailTry s f slot k = k h := by
  rw [Machine.mailTry, hsp, hr.atHome]

theorem State.Reaches.memHome {f : MemF} {slot : Nat} (hsp : s.memSpan slot f 3 kBoth true = .ok sp) : s.memHome f slot = h := by
  rw [memHome_ok hsp, hr.spanHomes]
  rfl

/-- An instruction that goes at once has its effect at the word and then lands its value. -/
theorem State.Reaches.blocking_go {i : Instr} {v : Word} (htry : s.tryFresh i = .go v false) (hhomes : s.blockHomes i = List.range' h 8)
    (home land : Word → State → State) : s.blocking i home land = land v (home v s) := by
  simp only [State.blocking, tryBlock_fresh hr.waiters, htry, hhomes, hr.noteRead, dropRequest_nil hr.waiters, Bool.false_eq_true, if_false]

end

/-- One that waits is BLOCKED, its request at the home (09 R208). -/
theorem blocking_wait {s : State} (hw : s.waiters = []) {i : Instr} {r : Waiter} (htry : s.tryFresh i = .wait (some r))
    (hbar : ∀ g n, r.wait ≠ .bar g n) (home land : Word → State → State) :
    s.blocking i home land = { s with u := { s.u with st := .blocked }, waiters := [r] } := by
  have hblocked : s.blocked (some r) = { s with u := { s.u with st := .blocked }, waiters := s.waiters ++ [r] } := by
    unfold State.blocked
    dsimp only
    split
    next g n hb => exact absurd hb (hbar g n)
    next => rfl
  simp only [State.blocking, tryBlock_fresh hw, htry, hblocked, hw, List.nil_append]

/-! Mailbox words (09 R207). -/

theorem mem_insertBy_self {α : Type} (key : α → Nat) (a : α) : ∀ l : List α, a ∈ insertBy key a l
  | [] => List.mem_singleton_self a
  | b :: r => by
    rw [insertBy]
    split
    · exact List.mem_cons_self
    · exact List.mem_cons_of_mem b (mem_insertBy_self key a r)

theorem isFull_setFull (m : Memory) (a : Nat) (b : Bool) : (m.setFull a b).isFull a = b := by
  cases b
  · simp [Memory.isFull, Memory.setFull]
  · simp [Memory.isFull, Memory.setFull, mem_insertBy_self]

section
variable {s : State} {f : MemF} {sp : Span} {h : Nat} (hr : s.Reaches sp h)
include hr

section
variable (hp : s.Passes (.take f)) (hsp : s.memSpan 4 f 3 kBoth true = .ok sp)
include hp hsp

theorem exec_take_full (hfull : s.mem.isFull h = true) :
    exec (.take f) s = .next ((s.takeWord h).landTaken f (s.mem.word h)) := by
  have htry : s.tryFresh (.take f) = .go (s.mem.word h) false := by
    simp only [State.tryFresh, hr.mailTry hsp, hfull, queued_nil hr.waiters, Bool.not_false, Bool.and_self, if_true]
  have hhomes : s.blockHomes (.take f) = List.range' h 8 := (blockHomes_ok.1 hsp).trans hr.spanHomes
  refine ((exec_take ..).trans (issue_passes hp _)).trans ?_
  rw [hr.blocking_go htry hhomes, hr.memHome hsp]

theorem exec_take_empty (hempty : s.mem.isFull h = false) :
    exec (.take f) s = .next { s with u := { s.u with st := .blocked }, waiters := [⟨s.u.who, h, .take, none⟩] } := by
  have htry : s.tryFresh (.take f) = .wait (some ⟨s.u.who, h, .take, none⟩) := by
    simp only [State.tryFresh, hr.mailTry hsp, hempty, Bool.false_and, Bool.false_eq_true, if_false, leave_nil hr.waiters]
  refine ((exec_take ..).trans (issue_passes hp _)).trans ?_
  rw [blocking_wait hr.waiters htry nofun]

end

section
variable (hp : s.Passes (.putf f)) (hsp : s.memSpan 5 f 3 kBoth true = .ok sp)
include hp hsp

theorem exec_putf_empty (hempty : s.mem.isFull h = false) : exec (.putf f) s = .next (s.putWord h (s.S f.o)) := by
  have htry : s.tryFresh (.putf f) = .go (s.S f.o) false := by
    simp only [State.tryFresh, hr.mailTry hsp, hempty, queued_nil hr.waiters, Bool.not_false, Bool.and_self, if_true]
  have hhomes : s.blockHomes (.putf f) = List.range' h 8 := (blockHomes_ok.2 hsp).trans hr.spanHomes
  refine ((exec_putf ..).trans (issue_passes hp _)).trans ?_
  rw [hr.blocking_go htry hhomes, hr.memHome hsp]

theorem exec_putf_full (hfull : s.mem.isFull h = true) :
    exec (.putf f) s = .next { s with u := { s.u with st := .blocked }, waiters := [⟨s.u.who, h, .putf (s.S f.o), none⟩] } := by
  have htry : s.tryFresh (.putf f) = .wait (some ⟨s.u.who, h, .putf (s.S f.o), none⟩) := by
    simp only [State.tryFresh, hr.mailTry hsp, hfull, Bool.not_true, Bool.false_and, Bool.false_eq_true, if_false,
      leave_nil hr.waiters]
  refine ((exec_putf ..).trans (issue_passes hp _)).trans ?_
  rw [blocking_wait hr.waiters htry nofun]

end

end

/-- The value that TAKE takes is the one access outstanding; an access to no home finds no block. -/
theorem landTaken_accs {s : State} (h : s.u.accs = []) (f : MemF) (v : Word) : (s.landTaken f v).u.accs =
    [⟨.value (f.r.toNat % 64) v, 16, [], 4, s.u.pc, f.svc.toNat, s.now, s.deadlineLeft, false, [], []⟩] := by
  have hblks : s.blocksAt [] = [] := by simp [State.blocksAt]
  rw [State.landTaken, addAcc_last, h, List.flatMap_nil, hblks]
  rfl

/-- The word that PUTF fills, and no byte beside it (09 R207). -/
theorem putWord_mem {s : State} {h : Nat} (v : Word) (hw : s.mem.wf = true) (ha : h % 8 = 0) (hc : s.mem.eccOf h = .clean) :
    (s.putWord h v).mem.isFull h = true ∧ (s.putWord h v).mem.word h = v ∧
      ∀ b, b < h ∨ h + 8 ≤ b → (s.putWord h v).mem.byte b = s.mem.byte b := by
  refine ⟨isFull_setFull _ _ _, word_write hw fun b hb => (eccOf_word ha hb).trans hc, fun b hb => byte_write_out hw fun hm => ?_⟩
  have := List.mem_range'_1.mp hm
  omega

/-- Settles O33: TAKE and PUTF at a word that they reach, FULL or EMPTY. -/
theorem mailboxes : Obligations.Mailboxes := by
  unfold Obligations.Mailboxes
  refine ⟨fun s f sp h hw hacc hadd hheld hpeer hhomes ha hc hwf => ?_, fun s f sp h hw hacc hadd hheld hpeer hhomes ha hc => ?_⟩
  · have hr : s.Reaches sp h := ⟨hw, hacc, hadd, hheld, hpeer, hhomes, ha, hc⟩
    refine ⟨fun hp hsp hfull => ?_, fun hp hsp hempty => ?_⟩
    · exact ⟨_, exec_take_full hr hp hsp hfull, isFull_setFull .., fun _ => rfl, landTaken_accs hacc f _⟩
    · obtain ⟨hfull, hword, hbytes⟩ := putWord_mem (s.S f.o) hwf ha hc
      exact ⟨_, exec_putf_empty hr hp hsp hempty, hfull, hword, hbytes, hacc⟩
  · have hr : s.Reaches sp h := ⟨hw, hacc, hadd, hheld, hpeer, hhomes, ha, hc⟩
    exact ⟨exec_take_empty hr, exec_putf_full hr⟩

end Sys2Proof.Machine
end

section
/-! SUPPORT. What an outstanding store, load or atomic does when it performs (09 R195, R197, R203; 13 R284; 15 R318, R343). -/

namespace Sys2Proof.Machine

/-! Any access. -/

theorem countMiss_none {s : State} {a : Access} (h : a.deadline = 0) : s.countMiss a = s := by
  simp [State.countMiss, h]

/-- The strand in front without its k-th outstanding access, which performs. -/
def State.withoutAcc (s : State) (k : Nat) : State := { s with u := { s.u with accs := dropAt s.u.accs k } }

theorem performAt_eq {s : State} {k : Nat} {a : Access} (ha : s.u.accs[k]? = some a) : s.performAt k = (s.withoutAcc k).perform a := by
  simp only [State.performAt, ha]
  rfl

theorem bind_fillNext_none {s : State} {k : Nat} {a : Access} (ha : s.u.accs[k]? = some a)
    (h : ∀ r n b i, a.act ≠ .ldb r n b i) : (s.u.accs[k]?).bind s.fillNext = none := by
  rw [ha]
  exact fillNext_none h

/-! Stores. -/

theorem accIsStore_store {s : State} {k : Nat} {a : Access} {data : List (List Byte)} (ha : s.u.accs[k]? = some a)
    (hact : a.act = .store data) : s.accIsStore k = true := by
  simp only [State.accIsStore, ha, Access.isStore, hact]

/-- Bytes of one word are their own first word (09 R197). -/
theorem firstWord_self : ∀ {l : List Nat}, (∀ h ∈ l, h / 8 = l.headD 0 / 8) → firstWord l = l
  | [], _ => rfl
  | h :: r, hl => by
    have hr : ∀ x ∈ r, decide (x / 8 = h / 8) = true := fun x hx => decide_eq_true (hl x (List.mem_cons_of_mem h hx))
    rw [firstWord, List.takeWhile_eq_self_iff.mpr hr]

/-- The first word of bytes in a row ends at the word's boundary. -/
theorem firstWord_range' {b n : Nat} (hn : 8 - b % 8 < n) : firstWord (List.range' b n) = List.range' b (8 - b % 8) := by
  obtain ⟨w, hw⟩ : ∃ w, 8 - b % 8 = w + 1 := ⟨7 - b % 8, by omega⟩
  obtain ⟨m, rfl⟩ : ∃ m, n = w + 1 + (m + 1) := ⟨n - (w + 2), by omega⟩
  have hsplit : List.range' b (w + 1 + (m + 1)) = b :: (List.range' (b + 1) w ++ List.range' (b + (w + 1)) (m + 1)) := by
    rw [← List.range'_append_1, List.range'_succ, List.cons_append]
  have hin : ∀ x ∈ List.range' (b + 1) w, decide (x / 8 = b / 8) = true := fun x hx => by
    have := List.mem_range'_1.mp hx
    exact decide_eq_true (by omega)
  have hend : ¬ (b + (w + 1)) / 8 = b / 8 := by omega
  rw [hw, hsplit, firstWord, List.takeWhile_append_of_pos hin, List.range'_succ, List.takeWhile_cons_of_neg (by simpa using hend),
    List.append_nil, ← List.range'_succ]

/-- Part of a store at sound homes outside the unit's blocks is part of a write of memory, and merges every granule (13 R284). -/
theorem storePart_clean {s : State} {bl whole rest homes : List Nat} {data : List Byte} {c : Cover}
    (hwhole : ∀ h ∈ whole, s.blockOf bl h = none) (hb : ∀ h ∈ homes, s.blockOf bl h = none ∧ s.mem.eccOf h = .clean)
    (hl : data.length = homes.length) :
    s.storePart bl whole rest homes data c = ({ s with mem := (s.mem.writePart whole rest homes data c s.writerTag).1 }, []) := by
  have hblock : ∀ p ∈ homes.zip data, s.blockOf bl p.1 = none := fun p hp => (hb p.1 (List.of_mem_zip hp).1).1
  have hinside : (homes.zip data).filter (fun p => (s.blockOf bl p.1).isSome) = [] :=
    List.filter_eq_nil_iff.mpr fun p hp => by simp [hblock p hp]
  have hout : (homes.zip data).filter (fun p => (s.blockOf bl p.1).isNone) = homes.zip data :=
    List.filter_eq_self.mpr fun p hp => by simp [hblock p hp]
  have hall : whole.filter (fun a => (s.blockOf bl a).isNone) = whole :=
    List.filter_eq_self.mpr fun a ha => by simp [hwhole a ha]
  have hmerged : s.mem.unmerged whole homes = [] := unmerged_sound fun a ha => by simp [(hb a ha).2, Memory.bad]
  simp only [State.storePart, hinside, hout, hall, List.foldl_nil, List.map_fst_zip hl.ge, List.map_snd_zip hl.le]
  rw [writePart_eq, hmerged]

/-- The k-th access, a store of n bytes from b on, has written the bytes of its first word and stays outstanding with the rest. -/
def State.wroteFirst (s : State) (k : Nat) (a : Access) (sp : Span) (b : Nat) (data : List Byte) : State :=
  { s with
    mem := (s.mem.writePart sp.homes (sp.homes.drop (8 - b % 8)) (List.range' b (8 - b % 8)) (data.take (8 - b % 8)) sp.cover
      s.writerTag).1
    u := { s.u with accs := s.u.accs.set k { a with part := (data.take (8 - b % 8)).map (fun x => (x, false)) } } }

section
variable {s : State} {k : Nat} {a : Access} {data : List Byte} {sp : Span} (ha : s.u.accs[k]? = some a) (hact : a.act = .store [data])
  (hspans : a.spans = [sp]) (hpeer : sp.peer = none) (he : s.eligible k = true) (hpart : a.part = [])
  (hb : ∀ h ∈ sp.homes, s.blockOf a.blks h = none ∧ s.mem.eccOf h = .clean)
include ha hact hspans hpeer he hpart hb

/-- A store of bytes of one word performs as one write (09 R195, R197). -/
theorem exec_writePerforms_word (hdl : a.deadline = 0) (hl : data.length = sp.homes.length)
    (hword : ∀ h ∈ sp.homes, h / 8 = sp.homes.headD 0 / 8) :
    exec (.writePerforms k) s =
      .next { s.withoutAcc k with mem := (s.mem.write sp.homes data sp.cover s.writerTag).1 } := by
  have hwhole : s.nextPart k = none :=
    nextPart_store_word ha hact (resolveAll_one s a sp true false hspans hpeer) (by simp [hpart, firstWord_self hword])
  have hstore : (s.withoutAcc k).storePart a.blks sp.homes [] sp.homes data sp.cover =
      ({ s.withoutAcc k with mem := (s.mem.write sp.homes data sp.cover s.writerTag).1 }, []) :=
    storePart_clean (fun h hh => (hb h hh).1) hb hl
  refine (exec_writePerforms ..).trans (exec_writePerforms_ok he (accIsStore_store ha hact)
    (bind_fillNext_none ha (by simp [hact])) hwhole ?_)
  rw [performAt_eq ha]
  simp only [State.perform, countMiss_none hdl, hact, resolveAll_one _ a sp true false hspans hpeer, hpart, List.length_nil,
    State.doStores, List.drop_zero, hstore]

/-- Of a store of a range of several words the bytes in the first word are written; it stays outstanding with the rest (09 R197;
log 90). -/
theorem exec_writePerforms_part {b n : Nat} (hhomes : sp.homes = List.range' b n) (hl : data.length = n) (hn : 8 - b % 8 < n) :
    exec (.writePerforms k) s = .next (s.wroteFirst k a sp b data) := by
  have hsub : ∀ h ∈ List.range' b (8 - b % 8), h ∈ sp.homes := fun h hh => by
    rw [hhomes]
    have := List.mem_range'_1.mp hh
    exact List.mem_range'_1.mpr (by omega)
  have hstore := storePart_clean (rest := sp.homes.drop (8 - b % 8)) (data := data.take (8 - b % 8)) (c := sp.cover)
    (fun h hh => (hb h hh).1) (fun h hh => hb h (hsub h hh)) (by simp; omega)
  have hmore : ¬ sp.homes.length ≤ 8 - b % 8 := by simp [hhomes]; omega
  have hfirst : firstWord sp.homes = List.range' b (8 - b % 8) := by rw [hhomes, firstWord_range' hn]
  have hnext : s.nextPart k = some (s.wroteFirst k a sp b data) := by
    simp only [State.nextPart, ha, hact, resolveAll_one s a sp true false hspans hpeer, hpart, hspans, List.flatMap_cons,
      List.flatMap_nil, List.append_nil, List.length_nil, List.drop_zero, Nat.zero_add, hfirst, List.length_range', hmore, if_false,
      List.flatten_cons, List.flatten_nil, hstore, if_true, List.nil_append,
      State.wroteFirst]
    rfl
  have hone : s.performOne k = s.wroteFirst k a sp b data := by
    simp only [State.performOne, bind_fillNext_none ha (by simp [hact]), hnext, Option.orElse_none]
  simp only [exec_writePerforms, execWritePerforms, he, accIsStore_store ha hact, Bool.and_self, if_true, hone]

end

/-! Loads and atomics. -/

/-- A load of a scalar or an atomic performs whole, and its result lands (02 R53). -/
theorem exec_scoreboardLanding_whole {s t : State} {k : Nat} {a : Access} (ha : s.u.accs[k]? = some a) (he : s.eligible k = true)
    (hact : (∃ r n sg, a.act = .load r n sg) ∨ ∃ op v cmp r, a.act = .atomic op v cmp r) (h : (s.withoutAcc k).perform a = ok t) :
    exec (.scoreboardLanding k) s = .next t := by
  refine (exec_scoreboardLanding ..).trans (exec_scoreboardLanding_ok he ?_ (bind_fillNext_none ha ?_) (nextPart_none ha ?_)
    ((performAt_eq ha).trans h))
  all_goals obtain ⟨_, _, _, hact⟩ | ⟨_, _, _, _, hact⟩ := hact <;> simp [State.accIsStore, ha, Access.isStore, hact]

/-- Reading sound homes counts no error and repairs nothing (13 R283). -/
theorem afterReads_clean (s : State) (bl homes : List Nat) (h : ∀ a ∈ homes, s.mem.eccOf a = .clean) :
    s.afterReads bl homes 0 = s.modU (fun u => u.addErr 0) := by
  rw [State.afterReads, noteRead_clean s _ fun a ha => h a (List.mem_of_mem_filter ha)]

/-- A word as a scalar load extends it (15 R343). -/
def loadedWord (n : Nat) (sg : Bool) (x : Nat) : Word := if sg then BitVec.ofInt 64 (signedAt (8 * n) x) else BitVec.ofNat 64 x

section
variable {s : State} {a : Access} {sp : Span} (hspans : a.spans = [sp]) (hpeer : sp.peer = none) (hdl : a.deadline = 0)
include hspans hpeer hdl

theorem perform_load_clean {r n : Nat} {sg : Bool} (hact : a.act = .load r n sg) (hc : ∀ h ∈ sp.homes, s.mem.eccOf h = .clean) :
    s.perform a = ok ((s.modU (fun u => u.addErr 0)).modU (fun u =>
      u.setScalar r (loadedWord n sg (bytesNat (sp.homes.map (s.loadByte a.blks)))))) := by
  simp only [State.perform, countMiss_none hdl, hact, resolveAll_one s a sp false true hspans hpeer, List.flatMap_cons,
    List.flatMap_nil, List.append_nil, List.findSome?_cons, List.findSome?_nil, readFault_clean s a.blks sp sp.homes a.slot hc,
    zeroBad_clean s a.blks sp.homes hc, badOf_clean s a.blks sp.homes hc, List.length_nil, afterReads_clean s a.blks sp.homes hc]
  rfl

/-- What an atomic of the word at h leaves, given its New(w, v) (15 R318): the old word in its register, the new one at h. -/
def State.afterAtomic (s : State) (h r : Nat) (c : Cover) (new : Option (Word × Nat)) : State :=
  match new with
  | none => s.modU (fun u => u.setScalar r (s.mem.word h))
  | some (nw, fl) => (s.writeWord h nw c).modU (fun u => (u.setScalar r (s.mem.word h)).raiseFlags fl)

theorem perform_atomic_clean {op : AtomOp} {v cmp : Word} {r h : Nat} (hact : a.act = .atomic op v cmp r)
    (hhomes : sp.homes = List.range' h 8) (ha : h % 8 = 0) (hc : s.mem.eccOf h = .clean) :
    s.perform a = ok (s.afterAtomic h r sp.cover (atomNew op (s.mem.word h) v cmp)) := by
  have hread : s.noteRead (List.range' h 8) = s := noteRead_clean s _ fun b hb => (eccOf_word ha hb).trans hc
  have hhead : (List.range' h 8).headD 0 = h := rfl
  simp only [State.perform, countMiss_none hdl, hact, resolveAll_one s a sp true true hspans hpeer, hhomes, hhead, hc, Memory.bad,
    reduceCtorEq, decide_false, Bool.or_self, Bool.false_eq_true, if_false, hread]
  cases atomNew op (s.mem.word h) v cmp <;> rfl

end

/-- ACAS leaves its operand where the word is the comparison value, and else the word (15 R319). -/
theorem atomNew_cas (w v cmp : Word) : ((atomNew .cas w v cmp).map Prod.fst).getD w = if w = cmp then v else w := by
  by_cases h : w = cmp <;> simp [atomNew, h]

/-- The old word is in the register, s0 apart. -/
theorem scalar_afterAtomic {s : State} (hs : wfTab 0 s.u.regs.s = true) (h r : Nat) (c : Cover) (new : Option (Word × Nat)) :
    (s.afterAtomic h r c new).u.scalar r = if r = 0 then 0 else s.mem.word h := by
  cases new with
  | none => exact scalar_setScalar _ _ _ hs
  | some x => exact (scalar_raiseFlags ..).trans (scalar_setScalar _ _ _ hs)

/-- The new word, if any, is at the home, and no other byte of memory changes. -/
theorem afterAtomic_mem {s : State} {h : Nat} (hw : s.mem.wf = true) (ha : h % 8 = 0) (hc : s.mem.eccOf h = .clean) (r : Nat) (c : Cover)
    (new : Option (Word × Nat)) : (s.afterAtomic h r c new).mem.word h = (new.map Prod.fst).getD (s.mem.word h) ∧
      ∀ b, b < h ∨ h + 8 ≤ b → (s.afterAtomic h r c new).mem.byte b = s.mem.byte b := by
  cases new with
  | none => exact ⟨rfl, fun _ _ => rfl⟩
  | some x =>
    refine ⟨word_write hw fun b hb => (eccOf_word ha hb).trans hc, fun b hb => byte_write_out hw fun hm => ?_⟩
    have := List.mem_range'_1.mp hm
    omega

/-- Settles O28: each access by the lemma above that says what it does when it performs. -/
theorem accessesPerform : Obligations.AccessesPerform := by
  unfold Obligations.AccessesPerform
  refine ⟨?word, ?part, ?load, ?atomic⟩
  case word =>
    intro s k a data sp hw ha hact hspans hpeer hdl he hn hl hpart hword hb
    have hclean : ∀ h ∈ sp.homes, s.mem.eccOf h = .clean := fun h hh => (hb h hh).2
    exact ⟨_, exec_writePerforms_word ha hact hspans hpeer he hpart hb hdl hl hword,
      fun n h b hh hd => byte_write_in hw hclean hn hh hd, fun h hh => byte_write_out hw hh,
      fun h hh => isFull_write hclean hl hh, rfl, rfl⟩
  case part =>
    intro s k b n a data sp hw ha hact hspans hpeer he hhomes hl hn hpart hb
    refine ⟨_, exec_writePerforms_part ha hact hspans hpeer he hpart hb hhomes hl hn, fun i x hi hx => ?_, fun h hh => ?_, rfl, rfl⟩
    · have hmerged : s.mem.unmerged sp.homes (List.range' b (8 - b % 8)) = [] := unmerged_sound fun h hh => by
        have := List.mem_range'_1.mp hh
        have hmem : h ∈ sp.homes := hhomes ▸ List.mem_range'_1.mpr (by omega)
        simp [(hb h hmem).2, Memory.bad]
      refine (byte_writePart_in hw List.nodup_range' ?_ ?_ ?_ (n := i)).trans (if_neg (by simp [hmerged]))
      · simp; omega
      · simp [hi]
      · rwa [List.getElem?_take_of_lt hi]
    · refine byte_writePart_out hw fun hm => ?_
      have := List.mem_range'_1.mp hm
      omega
  case load =>
    intro s k r n sg a sp ha hact hspans hpeer hdl he hc hs x
    have hperf := perform_load_clean (s := s.withoutAcc k) hspans hpeer hdl hact hc
    exact ⟨_, exec_scoreboardLanding_whole ha he (.inl ⟨r, n, sg, hact⟩) hperf, fun _ => rfl, setScalar_accs ..,
      scalar_setScalar _ _ _ hs⟩
  case atomic =>
    intro s k r h op v cmp a sp hw ha hact hspans hpeer hdl he hhomes hal hc hs hop old new
    have hperf := perform_atomic_clean (s := s.withoutAcc k) hspans hpeer hdl hact hhomes hal hc
    obtain ⟨hword, hbytes⟩ := afterAtomic_mem (s := s.withoutAcc k) hw hal hc r sp.cover (atomNew op old v cmp)
    refine ⟨_, exec_scoreboardLanding_whole ha he (.inr ⟨op, v, cmp, r, hact⟩) hperf, hword.trans ?_, hbytes,
      scalar_afterAtomic (s := s.withoutAcc k) hs ..⟩
    rcases hop with rfl | rfl | rfl
    · rfl
    · rfl
    · exact atomNew_cas ..

end Sys2Proof.Machine
end

section
/-! SUPPORT. Lists whose first fitting item is changed, and what is then found in them. -/

namespace Sys2Proof.Machine

theorem updFirst_singleton {α : Type} (p : α → Bool) (f : α → α) (a : α) : updFirst p f [a] = [if p a then f a else a] := by
  unfold updFirst
  split <;> rfl

/-- The first item that satisfies a test is found again once it is changed, if the change keeps the test's answer. -/
theorem find?_updFirst {α : Type} {p : α → Bool} {f : α → α} (hf : ∀ a, p (f a) = p a) (l : List α) :
    (updFirst p f l).find? p = (l.find? p).map f := by
  induction l with
  | nil => rfl
  | cons a r ih =>
    by_cases h : p a = true
    · simp [updFirst, h, hf]
    · simp [updFirst, h, ih]

theorem ctxOf_modCtx {s : State} {id : Nat} {c : Ctx} (h : s.ctxOf id = some c) (f : Ctx → Ctx) (hf : ∀ c, (f c).id = c.id) :
    (s.modCtx id f).ctxOf id = some (f c) :=
  (find?_updFirst (fun c => by rw [hf]) _).trans (congrArg (Option.map f) h)

theorem launchOf_modLaunch {s : State} {uid : Nat} {l : Launch} (h : s.launchOf uid = some l) (f : Launch → Launch)
    (hf : ∀ l, (f l).uid = l.uid) : (s.modLaunch uid f).launchOf uid = some (f l) :=
  (find?_updFirst (fun l => by rw [hf]) _).trans (congrArg (Option.map f) h)

end Sys2Proof.Machine
end

section
/-! SUPPORT. Shoot-downs (10 R238, R239; 12 R264; 14 R302): what they revoke and leave, who takes a control flit, and what an
acknowledgement and a timeout strike off. -/

namespace Sys2Proof.Machine

/-- The leases of one launch as a shoot-down of a range leaves them. -/
def Launch.afterRevoke (ctx b n : Nat) (l : Launch) : Launch :=
  if l.ctx = ctx then { l with leased := l.leased.map (fun (a, k, r) => (a, k, r || rangesMeet a k b n)) } else l

/-- Every lease of the context that meets the range is revoked. -/
def State.AllRevoked (t : State) (ctx b n : Nat) : Prop :=
  ∀ l ∈ t.work.launches, l.ctx = ctx → ∀ y ∈ l.leased, y.1 < b + n → b < y.1 + y.2.1 → y.2.2 = true

@[simp] theorem revoke_work (s : State) (ctx b n : Nat) :
    (s.revoke ctx b n).work = { s.work with launches := s.work.launches.map (Launch.afterRevoke ctx b n) } := by
  unfold State.revoke
  dsimp only
  split <;> rfl

@[simp] theorem revoke_mem (s : State) (ctx b n : Nat) : (s.revoke ctx b n).mem = s.mem := by
  unfold State.revoke
  dsimp only
  split <;> rfl

@[simp] theorem revoke_fabric (s : State) (ctx b n : Nat) : (s.revoke ctx b n).fabric = s.fabric := by
  unfold State.revoke
  dsimp only
  split <;> rfl

@[simp] theorem revoke_window (s : State) (ctx b n : Nat) : (s.revoke ctx b n).window = s.window := by
  unfold State.revoke
  dsimp only
  split <;> rfl

theorem afterRevoke_ctx (ctx b n : Nat) (l : Launch) : (l.afterRevoke ctx b n).ctx = l.ctx := by
  unfold Launch.afterRevoke
  split <;> rfl

theorem afterRevoke_leased {ctx b n : Nat} {l : Launch} (h : l.ctx = ctx) {y : Nat × Nat × Bool} (hy : y ∈ (l.afterRevoke ctx b n).leased)
    (hlo : y.1 < b + n) (hhi : b < y.1 + y.2.1) : y.2.2 = true := by
  rw [Launch.afterRevoke, if_pos h] at hy
  obtain ⟨x, -, rfl⟩ := List.mem_map.mp hy
  simp only at hlo hhi ⊢
  simp [rangesMeet, hlo, hhi]

theorem allRevoked_of_launches {s t : State} {ctx b n : Nat}
    (h : t.work.launches = s.work.launches.map (Launch.afterRevoke ctx b n)) : t.AllRevoked ctx b n := by
  intro l hl hctx y hy
  rw [h] at hl
  obtain ⟨k, -, rfl⟩ := List.mem_map.mp hl
  exact afterRevoke_leased (afterRevoke_ctx .. ▸ hctx) hy

/-- A shoot-down as it begins, no other module to acknowledge it: every die in service has to. -/
def State.freshShoot (s : State) (ctx b n : Nat) (reply : Option (Nat × Nat)) : Shoot :=
  ⟨ctx, b, n, (s.allDies.filter (fun d => !d.fenced && !d.shed)).map Die.num, [], s.clock, reply⟩

theorem startShoot_alone (s : State) (ctx b n : Nat) (reply : Option (Nat × Nat)) : s.startShoot ctx b n false reply =
    (s.revoke ctx b n).modWork (fun w => { w with shoots := w.shoots ++ [s.freshShoot ctx b n reply] }) := rfl

theorem mem_freshShoot_dies {s : State} {ctx b n d : Nat} {reply : Option (Nat × Nat)} :
    d ∈ (s.freshShoot ctx b n reply).dies ↔ ∃ z ∈ s.allDies, z.num = d ∧ z.fenced = false ∧ z.shed = false := by
  simp only [State.freshShoot, List.mem_map, List.mem_filter, Bool.and_eq_true, Bool.not_eq_true']
  exact exists_congr fun z => ⟨fun ⟨⟨hz, hf⟩, hn⟩ => ⟨hz, hn, hf⟩, fun ⟨hz, hn, hf⟩ => ⟨⟨hz, hf⟩, hn⟩⟩

/-- A shoot-down of the host that has begun, BUSY set (14 R302). -/
def State.hostShoot (s : State) (base len ctl : BitVec 64) : State :=
  { s with window := { s.window with
      sdaddr := base, sdlen := len, plain := put 0 s.window.plain 0x2010 (ctl &&& 0x7FF), busy := true } }

theorem exec_shootdown_starts {s : State} {ctl : BitVec 64} (hbusy : s.window.busy = false) (hgo : ctl.getLsbD 63 = true)
    (hlocal : ctl.getLsbD 10 = false) (base len : BitVec 64) : exec (.shootdown base len ctl) s =
      .next ((s.hostShoot base len ctl).startShoot (ctl.toNat % 1024) base.toNat len.toNat false none) := by
  rw [exec_shootdown]
  simp only [execShootdown, hbusy, hgo, hlocal, bitsAt, Nat.shiftRight_zero, Bool.not_true, Bool.or_self, Bool.false_eq_true, if_false]
  rfl

/-- A port that has received a flit with a sound CRC (14 R303). -/
def State.tookFlit (s : State) (port : Nat) : State := s.modPort port (fun x => { x with fails := 0 })

/-- A control flit for this module, its CRC sound, is taken (14 R303, R304). -/
theorem takeControl_mine (s : State) (port : Nat) (act : State → State) :
    s.takeControl ⟨port, Config.moduleId % 2 ^ 17, true⟩ act = act (s.tookFlit port) := by
  simp [State.takeControl, State.takeFlit, State.tookFlit]

theorem modPort_port {s : State} {port : Nat} {p : Port} (h : s.fabric.ports[port]? = some p) (f : Port → Port) :
    (s.modPort port f).fabric.ports[port]? = some (f p) := by
  simp [State.modPort, h]

/-- Under B1 a shoot-down of another module is acknowledged at once (12 R264). -/
theorem exec_shootdownMulticast_b1 {s : State} (hb1 : s.supply.b1 = true) (port src ctx b n : Nat) :
    exec (.shootdownMulticast port ⟨src, Config.moduleId % 2 ^ 17, true⟩ ctx b n) s =
      .next (((s.tookFlit port).revoke ctx b n).sendAck port src ctx) := by
  rw [exec_shootdownMulticast, execShootdownMulticast, takeControl_mine]
  exact congrArg _ (if_pos hb1)

theorem exec_shootdownMulticast_starts {s : State} (hb1 : s.supply.b1 = false) (port src ctx b n : Nat) :
    exec (.shootdownMulticast port ⟨src, Config.moduleId % 2 ^ 17, true⟩ ctx b n) s =
      .next ((s.tookFlit port).startShoot ctx b n false (some (port, src))) := by
  rw [exec_shootdownMulticast, execShootdownMulticast, takeControl_mine]
  exact congrArg _ (if_neg (ne_true_of_eq_false hb1))

/-- A shoot-down with a module struck off. -/
def Shoot.strike (m : Nat) (x : Shoot) : Shoot := { x with modules := x.modules.filter (fun k => decide (k ≠ m)) }

theorem exec_shootdownAck_taken (s : State) (m n port : Nat) :
    ∃ t, exec (.shootdownAck ⟨m, n, ⟨port, Config.moduleId % 2 ^ 17, true⟩⟩) s = .next t ∧ t.mem = s.mem ∧ t.u = s.u ∧
      t.work.shoots = updFirst (fun x => x.ctx = n && x.modules.contains m) (Shoot.strike m) s.work.shoots := by
  rw [exec_shootdownAck, execShootdownAck, takeControl_mine]
  exact ⟨_, rfl, rfl, rfl, rfl⟩

/-! A shoot-down that is out of time (10 R239). -/

section
variable {s : State} {x : Shoot} {m : Nat} (hx : s.work.shoots = [x]) (hlate : x.since + 2800000 ≤ s.clock)
include hx hlate

theorem shootdownTimeout_strikes :
    (s.shootdownTimeout m).work.shoots = [x.strike m] := by
  simp [State.shootdownTimeout, Shoot.strike, hx, State.shootLate, hlate]

theorem shootdownTimeout_fences (hm : m ∈ x.modules) : m ∈ (s.shootdownTimeout m).fabric.fenced := by
  simp [State.shootdownTimeout, hx, State.shootLate, hlate, hm]

theorem shootdownTimeout_cuts {port : Nat} (hreply : x.reply = some (port, m)) (hcut : (x.ctx, x.base, x.len) ∉ s.fabric.cut) :
    (x.ctx, x.base, x.len) ∈ (s.shootdownTimeout m).fabric.cut ∧ m ∈ (s.shootdownTimeout m).fabric.fenced := by
  have hlost : s.lostRange x = some (m, x.ctx, x.base, x.len) := by simp [State.lostRange, hreply, State.shootLate, hlate, hcut]
  simp [State.shootdownTimeout, hx, hlost]

end

/-- Settles O42: each event by the lemma above that says what it comes to. -/
theorem shootDownsRevoke : Obligations.ShootDownsRevoke := by
  unfold Obligations.ShootDownsRevoke
  intro s base len ctl port src ctx b n m p x me revoked
  refine ⟨fun hbusy hgo hlocal => ?host, fun hb1 => ?multicast, fun hb1 hp => ?underB1, fun hx => ?ack, fun hx hm hlate => ?late,
    fun hx hreply hlate hcut => ?unanswered⟩
  case host =>
    refine ⟨_, (s.hostShoot base len ctl).freshShoot (ctl.toNat % 1024) base.toNat len.toNat none, exec_shootdown_starts hbusy hgo hlocal base len, ?_⟩
    rw [startShoot_alone]
    exact ⟨by simp [State.hostShoot], allRevoked_of_launches (s := s) (by simp [State.hostShoot]), by simp [State.hostShoot], rfl, rfl, rfl,
      rfl, rfl, fun d => mem_freshShoot_dies, by simp [State.hostShoot]⟩
  case multicast =>
    refine ⟨_, (s.tookFlit port).freshShoot ctx b n (some (port, src)), exec_shootdownMulticast_starts hb1 port src ctx b n, ?_⟩
    rw [startShoot_alone]
    exact ⟨allRevoked_of_launches (s := s) (by simp [State.tookFlit, State.modPort]), by simp [State.tookFlit, State.modPort], rfl, rfl⟩
  case underB1 =>
    have hport := modPort_port hp (fun x => { x with fails := 0 })
    rw [← State.tookFlit, ← revoke_fabric _ ctx b n] at hport
    exact ⟨_, _, exec_shootdownMulticast_b1 hb1 port src ctx b n, allRevoked_of_launches (s := s) (by simp [State.sendAck, State.sendFlit, State.tookFlit, State.modPort]),
      modPort_port hport _, rfl, rfl⟩
  case ack =>
    obtain ⟨t, ht, hmem, hu, hshoots⟩ := exec_shootdownAck_taken s m n port
    exact ⟨t, ht, hmem, hu, by simp [hshoots, hx, updFirst_singleton, Shoot.strike]⟩
  case late => exact ⟨_, exec_shootdownTimeout m s, shootdownTimeout_strikes hx hlate, shootdownTimeout_fences hx hlate hm, rfl, rfl⟩
  case unanswered =>
    obtain ⟨hcuts, hfenced⟩ := shootdownTimeout_cuts hx hlate hreply hcut
    exact ⟨_, exec_shootdownTimeout m s, hcuts, hfenced, rfl, rfl⟩

end Sys2Proof.Machine
end

section
/-! SUPPORT. Tick boundaries, drains past their time, and releases (10 R228, R236, R240, R241; 11 R244; 14 R300, R302). -/

namespace Sys2Proof.Machine

/-- Two states that differ in the releases of their work alone. -/
structure SameButReleases (s t : State) : Prop where
  u : t.u = s.u
  die : t.die = s.die
  dies : t.dies = s.dies
  mem : t.mem = s.mem
  window : t.window = s.window
  ctxs : t.work.ctxs = s.work.ctxs

theorem SameButReleases.refl (s : State) : SameButReleases s s := ⟨rfl, rfl, rfl, rfl, rfl, rfl⟩

theorem SameButReleases.trans {r s t : State} (h : SameButReleases r s) (k : SameButReleases s t) : SameButReleases r t :=
  ⟨k.u.trans h.u, k.die.trans h.die, k.dies.trans h.dies, k.mem.trans h.mem, k.window.trans h.window, k.ctxs.trans h.ctxs⟩

theorem sameButReleases_releasePhase (s : State) (ctx id : Nat) : SameButReleases s (s.releasePhase ctx id) := by
  unfold State.releasePhase State.settleMap
  dsimp only
  split <;> exact ⟨rfl, rfl, rfl, rfl, rfl, rfl⟩

/-- The releases of a tick boundary (10 R228, R230). -/
theorem sameButReleases_tickReleases (s : State) : SameButReleases s s.tickReleases :=
  (foldl_inv (SameButReleases s) _ _ (.refl s) fun _ _ _ h => h.trans (sameButReleases_releasePhase ..)).trans
    ⟨rfl, rfl, rfl, rfl, rfl, rfl⟩

/-- The register window after a tick boundary: a new period counts from it (14 R302). -/
def State.tickedWindow (s : State) : Window :=
  match s.window.nextper with
  | some p => { s.window with
      tick := s.window.tick + 1, tickper := p, nextper := none, startClock := s.clock, startTick := s.window.tick + 1 }
  | none => { s.window with tick := s.window.tick + 1 }

/-- A context's tokens refilled (14 R300). -/
def Ctx.refilled (c : Ctx) : Ctx := { c with tokens := min c.tokmax (c.tokens + c.tokref) }

/-- A tick boundary before its releases and its stops. -/
def State.ticked (s : State) : State :=
  (({ s with window := s.tickedWindow }.mapDies (fun d => { d with tickPh := 0 })).modWork
    (fun w => { w with ctxs := w.ctxs.map Ctx.refilled }))

/-- The unit's phase deadline has passed at a tick boundary (10 R236). -/
def State.tickOver (s : State) (u : Strand) : Bool :=
  u.st.onStrand && u.st ≠ .ending && u.own.tickRel && u.own.deadline ≠ 0 && u.own.deadline ≤ s.cycleOf u.place.die

/-- The strand of such a unit with the soft stop TICK. -/
def State.tickStops (s : State) (tick : Nat) (u : Strand) : Strand :=
  if s.tickOver u then (u.requestSoft cTICK (s.cycleOf u.place.die)).modTrap (fun t => { t with tickAt := tick }) else u

/-- A tick boundary is the tick, the releases unless the supply holds them back (12 R263), and the stops. -/
theorem tickBoundary_started {s : State} (h : s.window.started = true) : ∃ t tick, SameButReleases s.ticked t ∧
    s.tickBoundary = t.mapStrands (s.tickStops tick) := by
  rw [State.tickBoundary, if_neg (by simp [h])]
  refine ⟨if s.supply.b1 || s.supply.b2 then s.ticked else s.ticked.tickReleases, _, ?_, rfl⟩
  split
  · exact .refl _
  · exact sameButReleases_tickReleases _

theorem exec_tickBoundary_stopped {s : State} (h : s.window.started = false) : exec .tickBoundary s = .next s := by
  rw [exec_tickBoundary, execTickBoundary, State.tickBoundary, h]
  rfl

/-- A soft stop asked for is pending with those that were (02 R59). -/
theorem requestSoft_soft (u : Strand) (cause now : Nat) :
    (u.requestSoft cause now).trap.soft = u.trap.soft ||| BitVec.ofNat 5 (2 ^ (cause - 0x20)) := by
  simp only [Strand.requestSoft, Strand.modTrap]
  split
  next h => simp [h]
  next => rfl

@[simp] theorem requestSoft_regs (u : Strand) (cause now : Nat) : (u.requestSoft cause now).regs = u.regs := by
  unfold Strand.requestSoft Strand.modTrap
  rfl

theorem cycleOf_front (s : State) : s.cycleOf s.die.num = s.now := by rw [State.cycleOf, dieAt_front]; rfl

theorem tickStops_soft {s : State} {u : Strand} (h : s.tickOver u = true) (tick : Nat) :
    (s.tickStops tick u).trap.soft = u.trap.soft ||| 4 := by
  rw [State.tickStops, if_pos h]
  exact requestSoft_soft u cTICK _

/-! Drains past their time. -/

/-- The victims of a drain whose one victim is the unit in front, if no other strand holds it. -/
theorem victims_front {s : State} (hon : s.u.st.onStrand = true) (hothers : ∀ u ∈ s.strands, u.holds s.u.who = false) :
    s.allStrands.filter (fun u => u.st.onStrand && [s.u.who].contains u.who) = [s.u] := by
  simp only [Strand.holds, Bool.and_eq_false_iff, decide_eq_false_iff_not] at hothers
  rw [State.allStrands, List.filter_cons_of_pos (by simp [hon]), List.filter_eq_nil_iff.mpr fun u hu => ?_]
  rcases hothers u hu with h | h <;> simp [h]

@[simp] theorem modDieAt_mem (s : State) (d : Nat) (f : Die → Die) : (s.modDieAt d f).mem = s.mem := by
  unfold State.modDieAt
  split <;> rfl

/-- A unit on a strand told to stop for another (10 R241), killed or not. -/
def Strand.preempted (kill : Bool) (now : Nat) (u : Strand) : Strand :=
  (u.requestSoft cPREEMPT now).modTrap (fun t => { t with kill := t.kill || kill })

theorem preempted_soft (kill : Bool) (now : Nat) (u : Strand) : (u.preempted kill now).trap.soft = u.trap.soft ||| 1 :=
  requestSoft_soft u cPREEMPT now

/-- A token of a context spent (10 R240). -/
def Ctx.spent (c : Ctx) : Ctx := { c with tokens := c.tokens - 1 }

theorem prioOn_of_work {s t : State} (h : t.work = s.work) (l : Launch) (d : Nat) : t.prioOn l d = s.prioOn l d := by
  simp only [State.prioOn, State.prioNow, State.queueOf, h]

/-- A victim of lower priority is not drained again: it is killed or saved, for a token (10 R240). -/
theorem decideVictim_stops {s : State} {d : Nat} {l : Launch} {v : Victim} {c : Ctx} (hprio : s.prioOn l d < v.prio)
    (hctx : s.ctxOf l.ctx = some c) (htokens : c.tokens ≠ 0) : ∃ kill : Bool,
    s.decideVictim d l v true = (if kill then .kill else .checkpoint, s.modCtx l.ctx Ctx.spent) := by
  simp only [State.decideVictim, hctx, Nat.not_le.mpr hprio, htokens, Bool.not_true, Bool.false_and, Bool.false_eq_true, if_false]
  split
  · exact ⟨true, rfl⟩
  · exact ⟨false, rfl⟩

/-- So the unit in front, its only member, is told to stop, and a token is spent. -/
theorem actOn_stops {s : State} {d : Nat} {l : Launch} {v : Victim} {c : Ctx} (hv : v.members = [s.u]) (hon : s.u.st.onStrand = true)
    (hprio : s.prioOn l d < v.prio) (hctx : s.ctxOf l.ctx = some c) (htokens : c.tokens ≠ 0) :
    ∃ kill, (s.actOn d l v true).u = s.u.preempted kill (s.cycleOf d) ∧ (s.actOn d l v true).mem = s.mem ∧
      (s.actOn d l v true).work = (s.modCtx l.ctx Ctx.spent).work := by
  have hholds : s.u.holds s.u.who = true := by simp [Strand.holds, hon]
  obtain ⟨kill, hdecide⟩ := decideVictim_stops hprio hctx htokens
  refine ⟨kill, ?_⟩
  cases kill <;>
    simp [State.actOn, hdecide, hv, State.modUnit, hholds, Strand.preempted, State.modCtx]

/-- A decision marked as judged again (10 R241). -/
def Die.judgedAgain (r : Drain) (x : Die) : Die := { x with drains := x.drains.map (fun y => if y = r then { y with recheck := 0 } else y) }

/-- A drain past its time whose victim is the unit in front stops it (10 R241). -/
theorem drainTimeout_stops {s : State} {r : Drain} {l : Launch} {c : Ctx} {d : Nat} (hdue : s.drainDue d = some r)
    (hl : s.launchOf r.target = some l) (hctx : s.ctxOf l.ctx = some c) (htokens : c.tokens ≠ 0) (hvictims : r.victims = [s.u.who])
    (hon : s.u.st.onStrand = true) (hothers : ∀ u ∈ s.strands, u.holds s.u.who = false) (hprio : s.prioOn l d < s.u.own.prio) :
    ∃ kill now, (s.drainTimeout d).u = s.u.preempted kill now ∧ (s.drainTimeout d).mem = s.mem ∧
      (s.drainTimeout d).work = (s.modCtx l.ctx Ctx.spent).work := by
  have hact : s.drainTimeout d =
      (s.modDieAt d (Die.judgedAgain r)).actOn d l ⟨[s.u], max 0 s.u.own.prio, s.saveCost [s.u], 0⟩ true := by
    simp only [State.drainTimeout, hdue, hl, hvictims, victims_front hon hothers]
    rfl
  have hprio0 : (s.modDieAt d (Die.judgedAgain r)).prioOn l d < max 0 s.u.own.prio := by
    rw [prioOn_of_work (modDieAt_work ..)]
    omega
  have hctx0 : (s.modDieAt d (Die.judgedAgain r)).ctxOf l.ctx = some c := by simpa [State.ctxOf] using hctx
  obtain ⟨kill, hu, hmem, hwork⟩ := actOn_stops (v := ⟨[s.u], max 0 s.u.own.prio, s.saveCost [s.u], 0⟩)
    (by rw [modDieAt_u]) (by rwa [modDieAt_u]) hprio0 hctx0 htokens
  rw [hact]
  exact ⟨kill, _, hu.trans (by rw [modDieAt_u]), hmem.trans (modDieAt_mem ..), hwork.trans (by simp [State.modCtx])⟩

theorem exec_predecessorRelease_done {s : State} {l : Launch} (hl : s.launchOf l.uid = some l) (hpred : s.predDone l = true) :
    exec (.predecessorRelease l.uid) s = .next (s.modLaunch l.uid (fun l => { l with predOk := true })) := by
  rw [exec_predecessorRelease, execPredecessorRelease, State.predecessorRelease, hl]
  exact congrArg _ (if_pos hpred)

/-- Settles O45: each event by the lemma above that says what it comes to. -/
theorem ticksAndReleases : Obligations.TicksAndReleases := by
  unfold Obligations.TicksAndReleases
  intro s r l c x
  refine ⟨fun hstarted => ?tick, exec_tickBoundary_stopped, fun hdue _ hl hctx htokens hvictims hon hothers hprio => ?drain,
    fun hl hpred => ?release⟩
  case tick =>
    obtain ⟨t, tick, ht, hb⟩ := tickBoundary_started hstarted
    refine ⟨t.mapStrands (s.tickStops tick), by rw [exec_tickBoundary, execTickBoundary, hb], ?_, ?_, fun p hp => ?_, ht.ctxs, ht.mem, fun hd hon hst hrel hdl hpast => ?_⟩
    · change t.window.tick = _
      rw [ht.window]
      simp only [State.ticked, State.mapDies, modWork_window, State.tickedWindow]
      split <;> rfl
    · change t.die.tickPh = _
      rw [ht.die]
      rfl
    · change t.window.tickper = _ ∧ t.window.nextper = _
      rw [ht.window]
      simp [State.ticked, State.mapDies, modWork_window, State.tickedWindow, hp]
    · change (s.tickStops tick t.u).trap.soft = _
      rw [ht.u]
      refine tickStops_soft ?_ tick
      simp [State.tickOver, State.ticked, State.mapDies, hd, cycleOf_front, hon, hst, hrel, hdl, hpast]
  case drain =>
    obtain ⟨kill, now, hu, hmem, hwork⟩ := drainTimeout_stops hdue hl hctx htokens hvictims hon hothers hprio
    refine ⟨_, exec_drainTimeout x.num s, ?_, ?_, ?_, hmem⟩
    · rw [hu, preempted_soft]
    · rw [State.ctxOf, hwork]
      exact ctxOf_modCtx hctx Ctx.spent fun _ => rfl
    · rw [hu]
      rfl
  case release =>
    exact ⟨_, exec_predecessorRelease_done hl hpred, launchOf_modLaunch hl _ fun _ => rfl, rfl, rfl⟩

end Sys2Proof.Machine
end

section
/-! SUPPORT. Taking up the packet at the read index of a served queue (10 R214, R216 to R220): what its effect makes of the queue. -/

namespace Sys2Proof.Machine

/-- A sound packet is the one that a served queue takes up next, and no instance that the queue opened holds it back (10 R217, R218). -/
structure State.Takes (s : State) (page : Nat) (q : Queue) (p : Packet) : Prop where
  queue : s.queueOf page = some q
  served : s.queueServed q = true
  packet : s.packetAt q = some p
  sound : bytesCode q p = none
  order : Packet.ordered p = true → s.queueOpen page = false

theorem queueOf_page {s : State} {page : Nat} {q : Queue} (h : s.queueOf page = some q) : q.page = page := by
  simpa using List.find?_some h

theorem queueOf_modQueue {s : State} {page : Nat} {q : Queue} (h : s.queueOf page = some q) (f : Queue → Queue)
    (hf : ∀ x, (f x).page = x.page) : (s.modQueue page f).queueOf page = some (f q) :=
  (find?_updFirst (fun x => by rw [hf]) _).trans (congrArg (Option.map f) h)

/-- A queue whose packet the acting die has consumed (10 R220); the other dies have still to read of it, and of a WAIT to evaluate it
(10 R231). -/
def State.consumed (s : State) (p : Packet) (q : Queue) : Queue :=
  let after := q.rdidx + BitVec.ofNat 32 (Packet.len p)
  let others := (q.reads.map Prod.fst).filter (fun e => decide (s.actingDie q.ctx ≠ some e))
  { q with
    rdidx := after, seq := q.seq + 1, state := 1, why := 0, code := 0,
    reads := q.reads.map (fun r => (r.1, if s.actingDie q.ctx = some r.1 then after else r.2)),
    waits := if (Packet.op p = 0x23 ∨ Packet.op p = 0x24) ∧ others ≠ [] then q.waits ++ [⟨q.rdidx, p, others⟩] else q.waits }

theorem consume_eq (s : State) (page : Nat) (p : Packet) : s.consume page p = s.modQueue page (s.consumed p) := by
  unfold State.consume
  congr 1
  funext q
  unfold State.consumed
  dsimp only
  congr 1
  exact if_congr (by simp only [isWait, Bool.and_eq_true, Bool.or_eq_true, decide_eq_true_eq]; exact Iff.rfl) rfl rfl

/-- A queue BLOCKED for a reason (10 R216). -/
def Queue.blocked (why : Nat) (q : Queue) : Queue := { q with state := 2, why := why }

/-- The state once a packet with an effect is taken up: consumed, and the host told of it if it asks for that at once (10 R217). -/
def State.tookUp (t : State) (page : Nat) (p : Packet) : State :=
  (t.consume page p).notify (Packet.notify p && !(isInvoke (Packet.op p) || Packet.op p = pPHASE_OPEN)) page

@[simp] theorem notify_mem (s : State) (on : Bool) (page : Nat) : (s.notify on page).mem = s.mem := by cases on <;> rfl
@[simp] theorem notify_work (s : State) (on : Bool) (page : Nat) : (s.notify on page).work = s.work := by cases on <;> rfl
@[simp] theorem notify_waiters (s : State) (on : Bool) (page : Nat) : (s.notify on page).waiters = s.waiters := by cases on <;> rfl

@[simp] theorem tookUp_mem (t : State) (page : Nat) (p : Packet) : (t.tookUp page p).mem = t.mem := notify_mem ..
@[simp] theorem tookUp_work (t : State) (page : Nat) (p : Packet) :
    (t.tookUp page p).work = { t.work with queues := updFirst (fun q => q.page = page) (t.consumed p) t.work.queues } := by
  rw [State.tookUp, notify_work, consume_eq]
  rfl

theorem queueOf_tookUp {t : State} {page : Nat} {q : Queue} (h : t.queueOf page = some q) (p : Packet) :
    (t.tookUp page p).queueOf page = some (t.consumed p q) := by
  rw [State.queueOf, tookUp_work]
  exact queueOf_modQueue h (t.consumed p) fun _ => rfl

theorem consumed_congr {s t : State} {q : Queue} (h : t.actingDie q.ctx = s.actingDie q.ctx) (p : Packet) :
    t.consumed p q = s.consumed p q := by simp only [State.consumed, h]

theorem actingDie_congr {s t : State} (h : t.work = s.work) (ctx : Nat) : t.actingDie ctx = s.actingDie ctx := by
  simp only [State.actingDie, State.ctxOf, h]

/-- The event of a kind of packet takes up the packet at the read index if that is of its kind. -/
theorem runPacket_of_op {s : State} {page : Nat} {q : Queue} {p : Packet} (hq : s.queueOf page = some q) (hp : s.packetAt q = some p) :
    s.runPacket page (Packet.op p) = (s.packetStep page).getD s := by
  simp [State.runPacket, State.nextOp, hq, hp]

/-- A malformed packet halts its queue with the code that its bytes give (10 R218). -/
theorem packetStep_malformed {s : State} {page code : Nat} {q : Queue} {p : Packet} (hq : s.queueOf page = some q)
    (hs : s.queueServed q = true) (hp : s.packetAt q = some p) (hcode : bytesCode q p = some code) :
    s.packetStep page = some (s.halt page code) := by
  simp [State.packetStep, hq, hs, hp, hcode]

section
variable {s : State} {page : Nat} {q : Queue} {p : Packet} (h : s.Takes page q p)
include h

theorem State.Takes.queueOf_congr {t : State} (hwork : t.work = s.work) : t.queueOf page = some q := by
  rw [State.queueOf, hwork]
  exact h.queue

theorem State.Takes.not_held : (Packet.ordered p && s.queueOpen page) = false := by
  cases ho : Packet.ordered p
  · rfl
  · rw [h.order ho]
    rfl

theorem State.Takes.packetStep_done {t : State} (hact : s.actOnPacket q p = .done t) : s.packetStep page = some (t.tookUp page p) := by
  simp only [State.packetStep, h.queue, h.served, h.packet, h.sound, h.not_held, hact]
  rfl

theorem State.Takes.packetStep_block {why : Nat} (hstate : q.state = 1) (hact : s.actOnPacket q p = .block why) :
    s.packetStep page = some (s.modQueue page (Queue.blocked why)) := by
  simp only [State.packetStep, h.queue, h.served, h.packet, h.sound, h.not_held, hact, hstate]
  rfl

theorem State.Takes.packetStep_blockAt {why : Nat} {t : State} (hact : s.actOnPacket q p = .blockAt why t) :
    s.packetStep page = some (t.modQueue page (Queue.blocked why)) := by
  simp only [State.packetStep, h.queue, h.served, h.packet, h.sound, h.not_held, hact]
  rfl

/-! The event of the packet's kind, as its lemma in Laws/Exec gives it. -/

section
variable {i : Instr} {op : Nat} (hi : exec i s = .next (s.runPacket page op)) (hop : Packet.op p = op)
include hi hop

theorem State.Takes.exec_done {t : State} (hact : s.actOnPacket q p = .done t) : exec i s = .next (t.tookUp page p) := by
  rw [hi, ← hop, runPacket_of_op h.queue h.packet, h.packetStep_done hact, Option.getD_some]

/-- A packet whose effect leaves the work of the queues alone is taken up: its queue moves on. -/
theorem State.Takes.exec_taken {t : State} (hact : s.actOnPacket q p = .done t) (hwork : t.work = s.work) :
    ∃ t', exec i s = .next t' ∧ t'.mem = t.mem ∧ t'.queueOf page = some (s.consumed p q) := by
  refine ⟨_, h.exec_done hi hop hact, tookUp_mem .., ?_⟩
  rw [queueOf_tookUp (h.queueOf_congr hwork), consumed_congr (actingDie_congr hwork _)]

/-- One that leaves a request at a home leaves its queue BLOCKED too. -/
theorem State.Takes.exec_blockAt {why : Nat} {t : State} (hact : s.actOnPacket q p = .blockAt why t) (hwork : t.work = s.work) :
    ∃ t', exec i s = .next t' ∧ t'.mem = t.mem ∧ t'.waiters = t.waiters ∧ t'.queueOf page = some (q.blocked why) := by
  refine ⟨t.modQueue page (Queue.blocked why), ?_, rfl, rfl, queueOf_modQueue (h.queueOf_congr hwork) (Queue.blocked why) fun _ => rfl⟩
  rw [hi, ← hop, runPacket_of_op h.queue h.packet, h.packetStep_blockAt hact, Option.getD_some]

/-- One that cannot go on leaves its queue BLOCKED with the reason (10 R216). -/
theorem State.Takes.exec_block {why : Nat} (hstate : q.state = 1) (hact : s.actOnPacket q p = .block why) :
    ∃ t, exec i s = .next t ∧ t.mem = s.mem ∧ t.queueOf page = some (q.blocked why) := by
  refine ⟨s.modQueue page (Queue.blocked why), ?_, rfl, queueOf_modQueue h.queue (Queue.blocked why) fun _ => rfl⟩
  rw [hi, ← hop, runPacket_of_op h.queue h.packet, h.packetStep_block hstate hact, Option.getD_some]

end

end

end Sys2Proof.Machine
end

section
/-! SUPPORT. A word updated at its home for a context (13 R290): the memory it leaves, and the work it leaves alone. -/

namespace Sys2Proof.Machine

/-- Besides the memory, only what is logged of granules not merged changes. -/
theorem updateWord_frame (s : State) (ctx a : Nat) (v : Word) : ∃ e w, s.updateWord ctx a v = { s with
    mem := (s.mem.write (List.range' a 8) (wordBytes v) (s.mem.modeOf a) ctx).1, errs := e, window := w } := by
  let m := (s.mem.write (List.range' a 8) (wordBytes v) (s.mem.modeOf a) ctx).1
  refine foldl_inv (fun t => ∃ e w, t = { s with mem := m, errs := e, window := w }) _ _ ⟨s.errs, s.window, rfl⟩ fun t g _ h => ?_
  obtain ⟨e, w, rfl⟩ := h
  unfold State.logEntry
  split <;> exact ⟨_, _, rfl⟩

@[simp] theorem updateWord_work (s : State) (ctx a : Nat) (v : Word) : (s.updateWord ctx a v).work = s.work := by
  obtain ⟨e, w, h⟩ := updateWord_frame s ctx a v
  rw [h]

@[simp] theorem updateWord_mem (s : State) (ctx a : Nat) (v : Word) :
    (s.updateWord ctx a v).mem = (s.mem.write (List.range' a 8) (wordBytes v) (s.mem.modeOf a) ctx).1 := by
  obtain ⟨e, w, h⟩ := updateWord_frame s ctx a v
  rw [h]

/-! An aligned word of a sound granule. -/

section
variable {m : Memory} {a : Nat} {v : Word} {c : Cover} {tag : Nat}

theorem word_writeWord (hw : m.wf = true) (ha : a % 8 = 0) (hc : m.eccOf a = .clean) :
    (m.write (List.range' a 8) (wordBytes v) c tag).1.word a = v := word_write hw fun _ hb => (eccOf_word ha hb).trans hc

theorem byte_writeWord_out (hw : m.wf = true) {b : Nat} (hb : b < a ∨ a + 8 ≤ b) :
    (m.write (List.range' a 8) (wordBytes v) c tag).1.byte b = m.byte b := by
  refine byte_write_out hw fun hm => ?_
  have := List.mem_range'_1.mp hm
  omega

theorem isFull_setFull_of_empty {i : Nat} (h : m.isFull i = false) (b : Nat) : (m.setFull b false).isFull i = false := by
  simp only [Memory.isFull, List.contains_eq_mem, decide_eq_false_iff_not] at h
  simp [Memory.isFull, Memory.setFull, h]

/-- A write fills no mailbox word (09 R207). -/
theorem isFull_write_of_empty {homes : List Nat} {data : List Byte} {i : Nat} (h : m.isFull i = false) :
    (m.write homes data c tag).1.isFull i = false := by
  rw [Memory.write, writePart_eq]
  refine foldl_inv (fun k : Memory => k.isFull i = false) _ _ (foldl_inv (fun k : Memory => k.isFull i = false) _ _ h ?merge) ?mark
  case merge =>
    intro k p _ hk
    have hstore : (k.storeByte p.1 p.2).isFull i = false := isFull_setFull_of_empty (m := k.setByte p.1 p.2) hk p.1
    unfold Memory.mergeByte
    split
    · exact hk
    · split
      · exact hstore
      · exact hstore
  case mark =>
    intro k g _ hk
    unfold Memory.markGranule
    split
    · exact hk
    · split
      · exact hk
      · exact hk

end

end Sys2Proof.Machine
end

section
/-! SUPPORT. What the packets that act on words, mailboxes, conditions and lists do (10 R231, R233; 09 R203, R207, R208). -/

namespace Sys2Proof.Machine

section
variable {s : State} {q : Queue} {p : Packet}

theorem actOnPacket_nop (h : Packet.op p = 0x00) : s.actOnPacket q p = .done s := by rw [State.actOnPacket, h]; rfl
theorem actOnPacket_mboxPut (h : Packet.op p = 0x20) : s.actOnPacket q p = s.actMboxPut q p := by rw [State.actOnPacket, h]; rfl
theorem actOnPacket_mboxTake (h : Packet.op p = 0x21) : s.actOnPacket q p = s.actMboxTake q p := by rw [State.actOnPacket, h]; rfl
theorem actOnPacket_signal (h : Packet.op p = 0x22) : s.actOnPacket q p = s.actSignal q p := by rw [State.actOnPacket, h]; rfl
theorem actOnPacket_waitAll (h : Packet.op p = 0x23) : s.actOnPacket q p = s.actWait q p := by rw [State.actOnPacket, h]; rfl
theorem actOnPacket_waitAny (h : Packet.op p = 0x24) : s.actOnPacket q p = s.actWait q p := by rw [State.actOnPacket, h]; rfl
theorem actOnPacket_hibList (h : Packet.op p = 0x40) : s.actOnPacket q p = s.actHibList q p := by rw [State.actOnPacket, h]; rfl

theorem actSignal_mapped {a : Nat} (h : s.wordHome q.ctx (Packet.num p 16 8) 8 true true = some a) :
    s.actSignal q p = .done (s.updateWord q.ctx a (s.mem.word a + BitVec.ofNat 64 (Packet.num p 24 8))) := by
  simp only [State.actSignal, h]

end

/-! Mailbox packets. -/

/-- No request of the kind waits at a home for its turn (09 R208). -/
def State.Alone (s : State) (a : Nat) (k : Wait → Bool) : Prop := ∀ y ∈ s.waiters, y.addr = a → y.served = none → k y.wait = false

/-- A queue's request left at a home. -/
def State.asked (s : State) (page a : Nat) (w : Wait) : State := { s with waiters := s.waiters ++ [⟨boxWho page, a, w, none⟩] }

/-- A queue's request left at a home, served there, and taken away. -/
def State.servedAt (s : State) (page a : Nat) (w : Wait) : State :=
  ((s.asked page a w).serveBox ⟨boxWho page, a, w, none⟩).dropBox page

section
variable {s : State} {page a : Nat} {k : Wait → Bool}

theorem any_waiter_iff :
    s.waiters.any (fun y => y.addr = a && y.served.isNone && k y.wait) = true ↔ ¬ s.Alone a k := by
  simp [State.Alone, and_assoc]

theorem boxPacket_goes (hreq : s.boxRequest page = none) (halone : s.Alone a k) (w : Wait) (fin : State → Word → State) :
    s.boxPacket page a w k true fin = .done (fin (s.servedAt page a w) (s.mem.word a)) := by
  have hany := mt any_waiter_iff.mp (not_not.mpr halone)
  simp only [State.boxPacket, hreq, hany]
  rfl

theorem boxPacket_asks {now : Bool} (hreq : s.boxRequest page = none) (hwait : now = false ∨ ¬ s.Alone a k) (w : Wait)
    (fin : State → Word → State) : s.boxPacket page a w k now fin = .blockAt 2 (s.asked page a w) := by
  have hno : (now && !s.waiters.any (fun y => y.addr = a && y.served.isNone && k y.wait)) = false := by
    rcases hwait with h | h
    · rw [h, Bool.false_and]
    · rw [any_waiter_iff.mpr h, Bool.not_true, Bool.and_false]
  simp only [State.boxPacket, hreq, hno]
  rfl

theorem boxPacket_stands {now : Bool} {y : Waiter} (hreq : s.boxRequest page = some y) (hserved : y.served = none) (w : Wait)
    (fin : State → Word → State) : s.boxPacket page a w k now fin = .block 2 := by
  simp only [State.boxPacket, hreq, hserved]

/-- A PUTF served writes its word and fills it (09 R207). -/
theorem servedAt_putf (s : State) (page a : Nat) (v : Word) : (s.servedAt page a (.putf v)).work = s.work ∧
    ∃ c tag, (s.servedAt page a (.putf v)).mem = (s.mem.write (List.range' a 8) (wordBytes v) c tag).1.setFull a true := by
  have hwho : boxWho page ≠ peerWho := by simp [boxWho, peerWho]
  simp only [State.servedAt, State.serveBox, hwho, if_false, State.dropBox, State.boxPut, modMem_work, modMem_mem, updateWord_work,
    updateWord_mem]
  exact ⟨rfl, _, _, rfl⟩

/-- A TAKE served empties its word. -/
theorem servedAt_take (s : State) (page a : Nat) :
    (s.servedAt page a .take).work = s.work ∧ (s.servedAt page a .take).mem = s.mem.setFull a false := ⟨rfl, rfl⟩

variable {q : Queue} {p : Packet}

theorem actMboxPut_mapped (h : s.wordHome q.ctx (Packet.num p 16 8) 8 true true = some a) : s.actMboxPut q p =
    s.boxPacket q.page a (.putf (BitVec.ofNat 64 (Packet.num p 24 8))) isPutf (!s.mem.isFull a) (fun s _ => s) := by
  simp only [State.actMboxPut, h]

theorem actMboxTake_mapped {d : Nat} (h : s.wordHome q.ctx (Packet.num p 16 8) 8 true true = some a)
    (hd : s.wordHome q.ctx (Packet.num p 24 8) 8 false true = some d) :
    s.actMboxTake q p = s.boxPacket q.page a .take isTake (s.mem.isFull a) (fun s v => s.updateWord q.ctx d v) := by
  simp only [State.actMboxTake, h, hd]

end

/-! WAIT packets. -/

/-- The condition of one entry of a WAIT packet holds (10 R231). -/
def State.EntryHolds (s : State) (ctx : Nat) (p : Packet) (e : Nat × Nat) : Prop :=
  ∃ a, s.wordHome ctx e.1 8 true false = some a ∧ sigMode (Packet.num p 9 1) (s.mem.word a) (BitVec.ofNat 64 e.2) = true

section
variable {s : State} {q : Queue} {p : Packet}

theorem waitHolds_all (h : Packet.op p = 0x23) (ctx : Nat) :
    s.waitHolds ctx p = true ↔ ∀ e ∈ entriesOfPacket p, s.EntryHolds ctx p e := by
  rw [State.waitHolds, if_pos (c := Packet.op p = pWAIT_ALL) h, State.waitWords, List.all_map, List.all_eq_true]
  refine forall₂_congr fun e _ => ?_
  simp only [Function.comp, State.EntryHolds]
  cases s.wordHome ctx e.1 8 true false <;> simp

theorem waitHolds_any (h : Packet.op p = 0x24) (ctx : Nat) :
    s.waitHolds ctx p = true ↔ ∃ e ∈ entriesOfPacket p, s.EntryHolds ctx p e := by
  rw [State.waitHolds, if_neg (by rw [h]; decide), State.waitWords, List.any_map, List.any_eq_true]
  refine exists_congr fun e => and_congr_right fun _ => ?_
  simp only [Function.comp, State.EntryHolds]
  cases s.wordHome ctx e.1 8 true false <;> simp

section
variable (hmap : ∀ e ∈ entriesOfPacket p, ∃ a, s.wordHome q.ctx e.1 8 true false = some a)
include hmap

theorem actWait_mapped : s.actWait q p = if s.waitHolds q.ctx p then .done s else .block 3 := by
  refine if_neg fun h => ?_
  obtain ⟨w, hw, hnone⟩ := List.any_eq_true.mp h
  obtain ⟨e, he, rfl⟩ := List.mem_map.mp hw
  obtain ⟨a, ha⟩ := hmap e he
  simp [ha] at hnone

theorem actWait_passes (h : s.waitHolds q.ctx p = true) : s.actWait q p = .done s := (actWait_mapped hmap).trans (if_pos h)

theorem actWait_waits (h : ¬ s.waitHolds q.ctx p = true) : s.actWait q p = .block 3 := (actWait_mapped hmap).trans (if_neg h)

end

/-! HIB_LIST. -/

/-- A context with an entry more on its list (10 R233). -/
def Ctx.listed (e : HibEntry) (c : Ctx) : Ctx := { c with list := c.list ++ [e] }

/-- One aligned entry extends a list that has room. -/
theorem actHibList_extends {c : Ctx} {a : Nat} (hkeep : (Packet.num p 9 1).testBit 0 = false) (hctx : s.ctxOf q.ctx = some c)
    (he : entriesOfPacket p = [(a, 0)]) (ha : a % 65536 = 0) (hroom : c.list.length < 256) :
    ∃ t, s.actHibList q p = .done t ∧ t.ctxOf q.ctx = some (c.listed ⟨a, 0, 0⟩) ∧ t.mem = s.mem ∧ t.work.queues = s.work.queues ∧
      t.work.pendLive = s.work.pendLive := by
  have hlen : ¬ 256 < c.list.length + 1 := by omega
  refine ⟨s.modCtx q.ctx (fun d => { d with list := c.list ++ [⟨a, 0, 0⟩] }), ?_, ctxOf_modCtx hctx _ fun _ => rfl, rfl, rfl, rfl⟩
  simp [State.actHibList, he, hctx, bitOf, hkeep, ha, hlen, bitsAt]

end

end Sys2Proof.Machine
end

section
/-! SUPPORT. A packet of each of these kinds taken up, waiting, or refused (10 R214 to R219, R231, R233). -/

namespace Sys2Proof.Machine

theorem exec_nopPacket_malformed {s : State} {page code : Nat} {q : Queue} {p : Packet} (hq : s.queueOf page = some q)
    (hs : s.queueServed q = true) (hp : s.packetAt q = some p) (hcode : bytesCode q p = some code) (hop : Packet.op p = 0x00) :
    exec (.nopPacket page) s = .next (s.halt page code) := by
  have hrun := runPacket_of_op hq hp
  rw [hop, packetStep_malformed hq hs hp hcode] at hrun
  exact (exec_nopPacket page s).trans (congrArg _ hrun)

section
variable {s : State} {page : Nat} {q : Queue} {p : Packet} (h : s.Takes page q p) {a d : Nat}
include h

theorem exec_signalPacket_adds (hop : Packet.op p = 0x22) (hhome : s.wordHome q.ctx (Packet.num p 16 8) 8 true true = some a)
    (hw : s.mem.wf = true) (ha : a % 8 = 0) (hc : s.mem.eccOf a = .clean) : ∃ t, exec (.signalPacket page) s = .next t ∧
      (t.mem.word a = s.mem.word a + BitVec.ofNat 64 (Packet.num p 24 8) ∧ ∀ b, b < a ∨ a + 8 ≤ b → t.mem.byte b = s.mem.byte b) ∧
      t.queueOf page = some (s.consumed p q) := by
  obtain ⟨t, hexec, hmem, hqueue⟩ := h.exec_taken (exec_signalPacket page s) hop
    ((actOnPacket_signal hop).trans (actSignal_mapped hhome)) (updateWord_work ..)
  rw [updateWord_mem] at hmem
  exact ⟨t, hexec, ⟨hmem ▸ word_writeWord hw ha hc, fun b hb => hmem ▸ byte_writeWord_out hw hb⟩, hqueue⟩

theorem actMboxPut_here (hop : Packet.op p = 0x20) (hhome : s.wordHome q.ctx (Packet.num p 16 8) 8 true true = some a) :
    s.actOnPacket q p =
      s.boxPacket page a (.putf (BitVec.ofNat 64 (Packet.num p 24 8))) isPutf (!s.mem.isFull a) (fun s _ => s) := by
  rw [actOnPacket_mboxPut hop, actMboxPut_mapped hhome, queueOf_page h.queue]

theorem actMboxTake_here (hop : Packet.op p = 0x21) (hhome : s.wordHome q.ctx (Packet.num p 16 8) 8 true true = some a)
    (hdest : s.wordHome q.ctx (Packet.num p 24 8) 8 false true = some d) :
    s.actOnPacket q p = s.boxPacket page a .take isTake (s.mem.isFull a) (fun s v => s.updateWord q.ctx d v) := by
  rw [actOnPacket_mboxTake hop, actMboxTake_mapped hhome hdest, queueOf_page h.queue]

theorem exec_mboxPut_fills (hop : Packet.op p = 0x20) (hhome : s.wordHome q.ctx (Packet.num p 16 8) 8 true true = some a)
    (hw : s.mem.wf = true) (ha : a % 8 = 0) (hc : s.mem.eccOf a = .clean) (hreq : s.boxRequest page = none)
    (hempty : s.mem.isFull a = false) (halone : s.Alone a isPutf) : ∃ t, exec (.mboxPut page) s = .next t ∧
      (t.mem.word a = BitVec.ofNat 64 (Packet.num p 24 8) ∧ t.mem.isFull a = true ∧
        ∀ b, b < a ∨ a + 8 ≤ b → t.mem.byte b = s.mem.byte b) ∧ t.queueOf page = some (s.consumed p q) := by
  have hact := actMboxPut_here h hop hhome
  rw [hempty, Bool.not_false, boxPacket_goes hreq halone] at hact
  obtain ⟨hwork, c, tag, hserved⟩ := servedAt_putf s page a (BitVec.ofNat 64 (Packet.num p 24 8))
  obtain ⟨t, hexec, hmem, hqueue⟩ := h.exec_taken (exec_mboxPut page s) hop hact hwork
  rw [hserved] at hmem
  exact ⟨t, hexec, ⟨hmem ▸ word_writeWord hw ha hc, hmem ▸ isFull_setFull .., fun b hb => hmem ▸ byte_writeWord_out hw hb⟩, hqueue⟩

theorem exec_mboxTake_moves (hop : Packet.op p = 0x21) (hhome : s.wordHome q.ctx (Packet.num p 16 8) 8 true true = some a)
    (hdest : s.wordHome q.ctx (Packet.num p 24 8) 8 false true = some d) (hw : s.mem.wf = true) (hd : d % 8 = 0)
    (hc : s.mem.eccOf d = .clean) (hreq : s.boxRequest page = none) (hfull : s.mem.isFull a = true) (halone : s.Alone a isTake) :
    ∃ t, exec (.mboxTake page) s = .next t ∧ (t.mem.isFull a = false ∧ t.mem.word d = s.mem.word a ∧
      ∀ b, b < d ∨ d + 8 ≤ b → t.mem.byte b = s.mem.byte b) ∧ t.queueOf page = some (s.consumed p q) := by
  have hact := actMboxTake_here h hop hhome hdest
  rw [hfull, boxPacket_goes hreq halone] at hact
  obtain ⟨hwork, hserved⟩ := servedAt_take s page a
  obtain ⟨t, hexec, hmem, hqueue⟩ := h.exec_taken (exec_mboxTake page s) hop hact ((updateWord_work ..).trans hwork)
  rw [updateWord_mem, hserved] at hmem
  exact ⟨t, hexec, ⟨hmem ▸ isFull_write_of_empty (isFull_setFull ..), hmem ▸ word_writeWord (m := s.mem.setFull a false) hw hd hc,
    fun b hb => hmem ▸ byte_writeWord_out (m := s.mem.setFull a false) hw hb⟩, hqueue⟩

/-- HIB_LIST changes a list that says nothing of who acts on the queue. -/
theorem exec_hibList_extends {c : Ctx} (hop : Packet.op p = 0x40) (hkeep : (Packet.num p 9 1).testBit 0 = false)
    (hctx : s.ctxOf q.ctx = some c) (he : entriesOfPacket p = [(a, 0)]) (ha : a % 65536 = 0) (hroom : c.list.length < 256) :
    ∃ t, exec (.hibList page) s = .next t ∧ (t.ctxOf q.ctx = some (c.listed ⟨a, 0, 0⟩) ∧ t.mem = s.mem) ∧
      t.queueOf page = some (s.consumed p q) := by
  obtain ⟨t, hact, hlisted, hmem, hqueues, hlive⟩ := actHibList_extends hkeep hctx he ha hroom
  have hexec := h.exec_done (exec_hibList page s) hop ((actOnPacket_hibList hop).trans hact)
  have hqueue : t.queueOf page = some q := by
    rw [State.queueOf, hqueues]
    exact h.queue
  have hdie : t.actingDie q.ctx = s.actingDie q.ctx := by simp only [State.actingDie, hlisted, hctx, hlive, Ctx.listed]
  refine ⟨_, hexec, ⟨?_, (tookUp_mem ..).trans hmem⟩, by rw [queueOf_tookUp hqueue, consumed_congr hdie]⟩
  rw [State.ctxOf, tookUp_work]
  exact hlisted

end

/-- Settles O46: each kind of packet by the lemma above that says what taking it up comes to. -/
theorem packetsAct : Obligations.PacketsAct := by
  unfold Obligations.PacketsAct
  intro s q x p h d c v w after others taken blocks alone waits same holds hqueue hserved hpacket hstate
  refine ⟨fun k hcode hop => ?malformed, fun hsound horder => ?sound⟩
  case malformed =>
    exact ⟨_, exec_nopPacket_malformed hqueue hserved hpacket hcode hop, rfl,
      queueOf_modQueue hqueue (fun q => { q with state := 3, code := k, why := 0 }) fun _ => rfl⟩
  case sound =>
    have hp : s.Takes q x p := ⟨hqueue, hserved, hpacket, hsound, horder⟩
    refine ⟨fun hop => ?nop, fun hw hhome ha hc => ⟨fun hop => ?signal, fun hop hreq hempty halone => ?put,
      fun hop hreq hwait => ?putWaits, fun hop hdest hreq hwait => ?takeWaits, fun y hy hnone => ⟨fun hop => ?putStands,
      fun hop hdest => ?takeStands⟩, fun hop hdest hd hcd hreq hfull halone => ?take⟩, fun hmap => ⟨fun hop hall => ?all, fun hop hsome => ?allWaits,
      fun hop hsome => ?any, fun hop hnone => ?anyWaits⟩, fun hop hkeep hctx he ha hroom => ?list⟩
    case nop => exact hp.exec_taken (exec_nopPacket q s) hop (actOnPacket_nop hop) rfl
    case signal => exact exec_signalPacket_adds hp hop hhome hw ha hc
    case put => exact exec_mboxPut_fills hp hop hhome hw ha hc hreq hempty halone
    case putWaits =>
      exact hp.exec_blockAt (exec_mboxPut q s) hop
        ((actMboxPut_here hp hop hhome).trans (boxPacket_asks hreq (hwait.imp_left fun hfull => by rw [hfull, Bool.not_true]) _ _)) rfl
    case takeWaits =>
      exact hp.exec_blockAt (exec_mboxTake q s) hop
        ((actMboxTake_here hp hop hhome hdest).trans (boxPacket_asks hreq hwait _ _)) rfl
    case putStands =>
      exact hp.exec_block (exec_mboxPut q s) hop hstate ((actMboxPut_here hp hop hhome).trans (boxPacket_stands hy hnone _ _))
    case takeStands =>
      exact hp.exec_block (exec_mboxTake q s) hop hstate ((actMboxTake_here hp hop hhome hdest).trans (boxPacket_stands hy hnone _ _))
    case take => exact exec_mboxTake_moves hp hop hhome hdest hw hd hcd hreq hfull halone
    case all =>
      exact hp.exec_taken (exec_waitAll q s) hop
        ((actOnPacket_waitAll hop).trans (actWait_passes hmap ((waitHolds_all hop _).mpr hall))) rfl
    case allWaits =>
      obtain ⟨e, he, hno⟩ := hsome
      exact hp.exec_block (exec_waitAll q s) hop hstate
        ((actOnPacket_waitAll hop).trans (actWait_waits hmap fun hall => hno ((waitHolds_all hop _).mp hall e he)))
    case any =>
      exact hp.exec_taken (exec_waitAny q s) hop
        ((actOnPacket_waitAny hop).trans (actWait_passes hmap ((waitHolds_any hop _).mpr hsome))) rfl
    case anyWaits =>
      refine hp.exec_block (exec_waitAny q s) hop hstate ((actOnPacket_waitAny hop).trans (actWait_waits hmap fun hany => ?_))
      obtain ⟨e, he, hyes⟩ := (waitHolds_any hop _).mp hany
      exact hnone e he hyes
    case list =>
      exact exec_hibList_extends hp hop hkeep hctx he ha hroom

end Sys2Proof.Machine
end

section
/-! SUPPORT. Bytes copied from one range to another (10 R222), and the fields of an extent register built of them (05 R116). -/

namespace Sys2Proof.Machine

section
variable {α : Type} [DecidableEq α] {d : α}

/-- A table cut to the keys that pass a test. -/
theorem lookup_filter_key (f : Nat → Bool) {t : Tab α} (h : wfTab d t = true) (k : Nat) :
    lookup d (t.filter (fun x => f x.1)) k = if f k then lookup d t k else d := by
  induction t with
  | nil => simp [lookup]
  | cons x r ih =>
    obtain ⟨j, v⟩ := x
    obtain ⟨-, hhead, hr⟩ := wfTab_cons.mp h
    cases hj : f j
    case true =>
      simp only [List.filter_cons, hj, if_true, lookup, ih hr]
      by_cases he : j = k
      · simp [← he, hj]
      · by_cases hk : k < j <;> simp [he, hk]
    case false =>
      simp only [List.filter_cons, hj, Bool.false_eq_true, if_false, ih hr]
      by_cases he : j = k
      · simp [← he, hj]
      · simp only [lookup, he, if_false]
        by_cases hk : k < j
        · rw [lookup_before fun p hp => hk.trans (hhead p hp)]
          simp
        · simp [hk]

/-- The entries of a table put into another one, each as far from `dst` as its key is from `src`. -/
theorem lookup_foldl_put {src dst i : Nat} {l : Tab α} (hl : wfTab d l = true) (hsrc : ∀ x ∈ l, src ≤ x.1) {t : Tab α}
    (ht : wfTab d t = true) : lookup d (l.foldl (fun t x => put d t (x.1 - src + dst) x.2) t) (dst + i) =
      if lookup d l (src + i) = d then lookup d t (dst + i) else lookup d l (src + i) := by
  induction l generalizing t with
  | nil => simp [lookup]
  | cons x r ih =>
    obtain ⟨a, b⟩ := x
    obtain ⟨hb, hhead, hr⟩ := wfTab_cons.mp hl
    have ha : src ≤ a := hsrc (a, b) List.mem_cons_self
    rw [List.foldl_cons, ih hr (fun x hx => hsrc x (List.mem_cons_of_mem _ hx)) (put_wf ht)]
    by_cases he : a = src + i
    · have hnone : lookup d r (src + i) = d := lookup_before fun p hp => he ▸ hhead p hp
      have hkey : a - src + dst = dst + i := by omega
      simp [hnone, lookup, he, hb, lookup_put_self ht, ← hkey]
    · have hkey : dst + i ≠ a - src + dst := by omega
      rw [lookup_put_ne hkey ht]
      by_cases hlt : src + i < a
      · have hnone : lookup d r (src + i) = d := lookup_before fun p hp => hlt.trans (hhead p hp)
        simp [hnone, lookup, hlt]
      · simp [lookup, hlt, he]

end

/-- A copied byte is the byte that it was copied from. -/
theorem byte_copyRange {m : Memory} (hw : m.wf = true) {src dst n i : Nat} (hi : i < n) :
    (m.copyRange src dst n).byte (dst + i) = m.byte (src + i) := by
  have hmoved := filter_wf (fun x : Nat × Byte => decide (src ≤ x.1) && decide (x.1 < src + n)) hw
  have hcleared := filter_wf (fun x : Nat × Byte => !(decide (dst ≤ x.1) && decide (x.1 < dst + n))) hw
  refine (lookup_foldl_put hmoved (fun x hx => ?_) hcleared).trans ?_
  · exact of_decide_eq_true (Bool.and_eq_true_iff.mp (List.mem_filter.mp hx).2).1
  · rw [lookup_filter_key (fun k => decide (src ≤ k) && decide (k < src + n)) hw,
      lookup_filter_key (fun k => !(decide (dst ≤ k) && decide (k < dst + n))) hw]
    simp only [Nat.le_add_right, Nat.add_lt_add_left hi, decide_true, Bool.and_self, if_true, Bool.not_true, Bool.false_eq_true, if_false]
    split
    next h => exact h.symm
    next => rfl

/-! Extents. -/

theorem bitNat_lt_two (b : Bool) : (if b then 1 else 0) < 2 := by cases b <;> decide

section
variable (base len : Nat) (rd wr ex tol : Bool) (svc fmap ctx vbase : Nat)

/-- The number that an extent register holds, its page number, length, and permissions apart. -/
theorem mkExt_toNat (hbase : base < 2 ^ 64) : ∃ r w t hi, r < 2 ∧ w < 2 ∧ (mkExt base len rd wr ex tol svc fmap ctx vbase).toNat =
    base / 65536 * 2 ^ 16 + 2 ^ 64 * (len % 2 ^ 58) + 2 ^ 128 * r + 2 ^ 129 * w + 2 ^ 130 * (if ex then 1 else 0) + 2 ^ 131 * t +
      2 ^ 132 * hi := by
  refine ⟨if rd then 1 else 0, if wr then 1 else 0, if tol then 1 else 0, svc % 4 + 2 ^ 2 * (fmap % 16) + 2 ^ 6 * (ctx % 1024) +
    2 ^ 76 * (vbase / 65536 % 2 ^ 48), bitNat_lt_two rd, bitNat_lt_two wr, ?_⟩
  have hr := bitNat_lt_two rd
  have hw := bitNat_lt_two wr
  have he := bitNat_lt_two ex
  have ht := bitNat_lt_two tol
  rw [mkExt, BitVec.toNat_ofNat]
  generalize (if rd then 1 else 0) = r at *
  generalize (if wr then 1 else 0) = w at *
  generalize (if ex then 1 else 0) = e at *
  generalize (if tol then 1 else 0) = t at *
  omega

variable {base}

theorem extBase_mkExt (hbase : base < 2 ^ 64) (hpage : base % 65536 = 0) :
    extBase (mkExt base len rd wr ex tol svc fmap ctx vbase) = base := by
  obtain ⟨r, w, t, hi, hr, hw, h⟩ := mkExt_toNat base len rd wr ex tol svc fmap ctx vbase hbase
  rw [extBase, bitsAt, Nat.shiftRight_eq_div_pow, h]
  omega

theorem extLen_mkExt (hbase : base < 2 ^ 64) : extLen (mkExt base len rd wr ex tol svc fmap ctx vbase) = len % 2 ^ 58 := by
  obtain ⟨r, w, t, hi, hr, hw, h⟩ := mkExt_toNat base len rd wr ex tol svc fmap ctx vbase hbase
  rw [extLen, bitsAt, Nat.shiftRight_eq_div_pow, h]
  omega

theorem extExec_mkExt (hbase : base < 2 ^ 64) : extExec (mkExt base len rd wr ex tol svc fmap ctx vbase) = ex := by
  obtain ⟨r, w, t, hi, hr, hw, h⟩ := mkExt_toNat base len rd wr ex tol svc fmap ctx vbase hbase
  rw [extExec, BitVec.getLsbD, Nat.testBit_eq_decide_div_mod_eq, h]
  cases ex <;> simp only [Bool.false_eq_true, if_true, if_false, decide_eq_true_eq, decide_eq_false_iff_not] <;> omega

end

end Sys2Proof.Machine
end

section
/-! SUPPORT. What loading and evicting a slot, opening a launch or a phase, closing a phase and cancelling a launch leave (10 R221 to
R230, R233; 01 R37). -/

namespace Sys2Proof.Machine

section
variable {s : State} {q : Queue} {p : Packet}

theorem actOnPacket_slotLoad (h : Packet.op p = 0x01) : s.actOnPacket q p = s.actSlotLoad q p := by rw [State.actOnPacket, h]; rfl
theorem actOnPacket_slotEvict (h : Packet.op p = 0x02) : s.actOnPacket q p = s.actSlotEvict q p := by rw [State.actOnPacket, h]; rfl
theorem actOnPacket_invoke (h : Packet.op p = 0x10) : s.actOnPacket q p = s.actInvoke q p := by rw [State.actOnPacket, h]; rfl
theorem actOnPacket_invokeTick (h : Packet.op p = 0x11) : s.actOnPacket q p = s.actInvoke q p := by rw [State.actOnPacket, h]; rfl
theorem actOnPacket_phaseOpen (h : Packet.op p = 0x30) : s.actOnPacket q p = s.actPhaseOpen q p := by rw [State.actOnPacket, h]; rfl
theorem actOnPacket_phaseClose (h : Packet.op p = 0x31) : s.actOnPacket q p = s.actPhaseClose q p := by rw [State.actOnPacket, h]; rfl
theorem actOnPacket_cancel (h : Packet.op p = 0x32) : s.actOnPacket q p = s.actCancel q p := by rw [State.actOnPacket, h]; rfl

/-! Slots. -/

/-- The code page of a slot to be loaded (10 R222). -/
def State.codeHome (s : State) (vf num : Nat) : Nat :=
  Config.codePage vf num s.work.uid % ((Config.hbmBytes - 2 ^ 32) / 65536 + 1) * 65536

theorem codeHome_lt (s : State) (vf num : Nat) : s.codeHome vf num < 2 ^ 64 := by
  have := Nat.mod_lt (Config.codePage vf num s.work.uid) (Nat.add_one_pos ((Config.hbmBytes - 2 ^ 32) / 65536))
  have hbytes : (Config.hbmBytes - 2 ^ 32) / 65536 + 1 ≤ 2 ^ 40 := by decide
  unfold State.codeHome
  omega

theorem codeHome_page (s : State) (vf num : Nat) : s.codeHome vf num % 65536 = 0 := Nat.mul_mod_left ..

theorem readDesc_bundles_lt {x len : Nat} {d : Desc} (h : readDesc x len = some d) : d.bundles < 2 ^ 32 := by
  simp only [readDesc] at h
  split at h
  · cases h
  · cases h
    exact Nat.mod_lt _ (by decide)

theorem declBad_zero (k len : Nat) : declBad k 0 len = false := rfl

/-- An image without declarations makes its slot resident: the slot's descriptor is the image's, and its code is copied. -/
theorem actSlotLoad_resident {d : Desc} {img : Nat} (hfree : s.slotOf (q.page / 64) (Packet.num p 8 1) = none)
    (haligned : Packet.num p 16 8 % 64 = 0)
    (hhome : s.wordHome q.ctx (Packet.num p 16 8) (Packet.num p 24 8) true false = some img)
    (hdesc : readDesc (bytesNat (s.mem.range img 64)) (Packet.num p 24 8) = some d)
    (hdecls : ∀ k, 1 ≤ k → k ≤ 15 → bytesNat (s.mem.range (img + 32 + 32 * k) 32) = 0) :
    ∃ t n r, s.actSlotLoad q p = .done t ∧ t.work.queues = s.work.queues ∧ t.work.slots = s.work.slots ++ [n] ∧
      t.mem = s.mem.copyRange (img + d.codeoff) (s.codeHome (q.page / 64) (Packet.num p 8 1)) (64 * d.bundles) ∧
      n.vf = q.page / 64 ∧ n.num = Packet.num p 8 1 ∧ n.ctx = q.ctx ∧ n.desc = d ∧
      n.exts = mkExt (s.codeHome (q.page / 64) (Packet.num p 8 1)) (64 * d.bundles) true false true d.tolerant 0 0 q.ctx 0 :: r := by
  have hnot : ¬ Packet.num p 16 8 % 64 ≠ 0 := not_not.mpr haligned
  have hgood : (List.range' 1 15).any (fun k => declBad k (bytesNat (s.mem.range (img + 32 + 32 * k) 32)) (Packet.num p 24 8)) = false := by
    refine List.any_eq_false.mpr fun k hk => ?_
    have := List.mem_range'_1.mp hk
    rw [hdecls k (by omega) (by omega), declBad_zero]
    decide
  have hmine : (List.range' 1 7).map (fun k => (k, readDecl (bytesNat (s.mem.range (img + 32 + 32 * k) 32)))) =
      (List.range' 1 7).map (fun k => (k, readDecl 0)) := by
    refine List.map_congr_left fun k hk => ?_
    have := List.mem_range'_1.mp hk
    rw [hdecls k (by omega) (by omega)]
  simp only [State.actSlotLoad, hnot, if_false, hhome, hdesc, hfree, hgood, hmine]
  exact ⟨_, _, _, rfl, rfl, rfl, rfl, rfl, rfl, rfl, rfl, rfl⟩

theorem actSlotEvict_frees (hdone : ∀ l ∈ s.work.launches, l.vf = q.page / 64 → l.slot = Packet.num p 8 1 → l.done = true) :
    ∃ t, s.actSlotEvict q p = .done t ∧ t.work.queues = s.work.queues ∧ t.mem = s.mem ∧
      t.slotOf (q.page / 64) (Packet.num p 8 1) = none := by
  refine ⟨_, if_neg fun h => ?_, rfl, rfl, ?_⟩
  · obtain ⟨l, hl, hopen⟩ := List.any_eq_true.mp h
    simp only [Bool.and_eq_true, decide_eq_true_eq, Bool.not_eq_true'] at hopen
    obtain ⟨⟨hvf, hnum⟩, hnot⟩ := hopen
    rw [hdone l hl hvf hnum] at hnot
    cases hnot
  · refine List.find?_eq_none.mpr fun x hx => ?_
    have hkept := (List.mem_filter.mp hx).2
    simpa [imp_iff_not_or] using hkept

/-! Launches. -/

theorem bufferExts_none {sl : Slot} (h : sl.decls = []) (ctx : Nat) : s.bufferExts ctx sl [] = some (List.replicate 8 0) := by
  simp only [State.bufferExts, h]
  rfl

/-- INVOKE waits for its slot (10 R225). -/
theorem actInvoke_missing (h : s.slotOf (q.page / 64) (Packet.num p 8 1) = none) : s.actInvoke q p = .block 1 := by
  simp only [State.actInvoke, h]

/-- Nothing stands against an INVOKE without buffers, bitmap and predecessor: its slot is resident, its graph has launches to come and
is not cancelled, its ID is free, and its counter's word is sound (10 R218, R226 to R228). -/
structure State.MayInvoke (s : State) (q : Queue) (p : Packet) (sl : Slot) (y : Phase) (g : Graph) (a : Nat) : Prop where
  slot : s.slotOf (q.page / 64) (Packet.num p 8 1) = some sl
  decls : sl.decls = []
  buffers : entriesOfPacket p = []
  bitmap : Packet.num p 48 8 = 0
  phase : s.phaseOf q.ctx (Packet.num p 24 4) = some y
  graph : y.graph (Packet.num p 20 4) = some g
  room : g.opened < g.launches
  phaseOn : y.cancelled = false
  graphOn : g.cancelled = false
  jobOn : s.jobDead q.ctx = false
  idFree : ∀ l ∈ s.work.launches, l.ctx = q.ctx → l.id ≠ Packet.num p 16 4
  noPred : Packet.num p 28 4 = 0xFFFFFFFF
  counter : s.wordHome q.ctx (Packet.num p 40 8) 8 false true = some a
  aligned : a % 8 = 0
  clean : s.mem.eccOf a = .clean

theorem lowestCode_nothing : lowestCode [(7, false), (8, false), (9, false), (11, false)] = none := rfl

/-- Such an INVOKE opens its launch, the counter 0 (10 R226). -/
theorem actInvoke_opens {sl : Slot} {y : Phase} {g : Graph} {a : Nat} (h : s.MayInvoke q p sl y g a) (hw : s.mem.wf = true) :
    ∃ t n, s.actInvoke q p = .done t ∧ t.work.queues = s.work.queues ∧ t.mem.word a = 0 ∧ t.work.launches = s.work.launches ++ [n] ∧
      n.uid = s.work.uid ∧ n.id = Packet.num p 16 4 ∧ n.ctx = q.ctx ∧ n.g = Packet.num p 12 3 + 1 ∧ n.prio = Packet.num p 10 1 % 8 ∧
      n.slot = Packet.num p 8 1 ∧ n.ctr = a ∧
      n.tick = (if Packet.op p = pINVOKE_TICK then some (Packet.num p 56 8) else none) ∧ n.done = false := by
  have hroom : ¬ g.launches ≤ g.opened := not_le.mpr h.room
  have hids : (s.work.launches.filter (fun l => l.ctx = q.ctx)).any (fun l => l.id = Packet.num p 16 4) = false := by
    simpa [List.any_eq_false] using h.idFree
  have hdenied : s.bufferDenied q.ctx sl [] = false := rfl
  obtain ⟨e, w, hcounter⟩ := updateWord_frame s q.ctx a 0
  simp only [State.actInvoke, h.slot, h.buffers, h.bitmap, h.phase, h.graph, h.noPred, h.counter, h.phaseOn, h.graphOn, h.jobOn,
    bufferExts_none h.decls, hdenied, hids, hroom, lowestCode_nothing, hcounter, Option.bind_some, Option.isNone_some, List.any_nil, ne_eq,
    not_true_eq_false, decide_false, Bool.or_false, Bool.false_and, Bool.false_eq_true, if_true, if_false]
  exact ⟨_, _, rfl, rfl, word_writeWord hw h.aligned h.clean, rfl, rfl, rfl, rfl,
    rfl, rfl, rfl, rfl, rfl, rfl⟩

/-! Phases. -/

theorem phaseOf_modPhase {ctx id : Nat} {y : Phase} (h : s.phaseOf ctx id = some y) (f : Phase → Phase)
    (hf : ∀ y, (f y).ctx = y.ctx ∧ (f y).id = y.id) : (s.modPhase ctx id f).phaseOf ctx id = some (f y) :=
  (find?_updFirst (fun y => by rw [(hf y).1, (hf y).2]) _).trans (congrArg (Option.map f) h)

/-- A phase that begins is found when no open phase of the context has its ID. -/
theorem phaseOf_appended {y : Phase} (h : ∀ z ∈ s.work.phases, z.ctx = y.ctx → z.id ≠ y.id) :
    (s.modWork (fun w => { w with phases := w.phases ++ [y] })).phaseOf y.ctx y.id = some y := by
  have hnone : s.work.phases.find? (fun z => z.ctx = y.ctx && z.id = y.id) = none :=
    List.find?_eq_none.mpr fun z hz => by simpa using h z hz
  simp [State.phaseOf, List.find?_append, hnone]

/-- Releasing a phase changes its release alone, and no queue. -/
theorem releasePhase_spec {ctx id : Nat} {y : Phase} (h : s.phaseOf ctx id = some y) : ∃ n,
    (s.releasePhase ctx id).phaseOf ctx id = some n ∧ n.released = true ∧ n.ctr = y.ctr ∧ n.done = y.done ∧ n.graphs = y.graphs ∧
      (s.releasePhase ctx id).work.queues = s.work.queues := by
  have hsettled : s.settleMap.phaseOf ctx id = some y ∧ s.settleMap.work.queues = s.work.queues := by
    unfold State.settleMap
    split <;> exact ⟨h, rfl⟩
  obtain ⟨hy, hqueues⟩ := hsettled
  exact ⟨_, phaseOf_modPhase hy _ fun _ => ⟨rfl, rfl⟩, rfl, rfl, rfl, rfl, hqueues⟩

/-- PHASE_OPEN of one graph of one launch: its words are mapped, and no open phase of the context has its ID or the graph's (10 R229). -/
structure State.MayOpen (s : State) (q : Queue) (p : Packet) (va a b : Nat) : Prop where
  graph : entriesOfPacket p = [(2 ^ 32 + 7, va)]
  graphCounter : s.wordHome q.ctx va 8 false true = some b
  counter : s.wordHome q.ctx (Packet.num p 16 8) 8 false true = some a
  idsFree : ∀ y ∈ s.work.phases, y.ctx = q.ctx → y.id ≠ Packet.num p 8 4 ∧ (y.graph 7).isNone = true

/-- The phase as it is entered, unreleased. -/
def State.newPhase (s : State) (q : Queue) (p : Packet) (va a b : Nat) : Phase where
  id := Packet.num p 8 4
  ctx := q.ctx
  queue := q.page
  ctr := a
  ctrVa := Packet.num p 16 8
  tick := if atTick p then some (Packet.num p 56 8) else none
  deadline := Packet.num p 24 4
  released := false
  relCycle := []
  live := 0
  graphs := [⟨7, 1, 0, b, va, s.jobDead q.ctx, false⟩]
  cancelled := s.jobDead q.ctx
  done := false
  notify := Packet.notify p

/-- The state with the phase entered, its counter and the graph's at their start (01 R37). -/
def State.phaseEntered (s : State) (q : Queue) (p : Packet) (va a b : Nat) : State :=
  let start : Word := if s.jobDead q.ctx then 0x4000000000000000 else 0
  ((s.updateWord q.ctx a start).updateWord q.ctx b start).modWork (fun w => { w with phases := w.phases ++ [s.newPhase q p va a b] })

theorem phaseEntered_work (s : State) (q : Queue) (p : Packet) (va a b : Nat) :
    (s.phaseEntered q p va a b).work = { s.work with phases := s.work.phases ++ [s.newPhase q p va a b] } := by
  simp only [State.phaseEntered, modWork_work, updateWord_work]

/-- The phase is entered, and then released unless its tick has still to come (10 R230). -/
theorem actPhaseOpen_eq {va a b : Nat} (h : s.MayOpen q p va a b) : s.actPhaseOpen q p =
    .done (if atTick p = true ∧ s.window.tick < Packet.num p 56 8 then s.phaseEntered q p va a b
      else (s.phaseEntered q p va a b).releasePhase q.ctx (Packet.num p 8 4)) := by
  have hid : (2 ^ 32 + 7) % 2 ^ 32 = 7 := rfl
  have honce : [7].eraseDups.length = [7].length := rfl
  have hids : (s.work.phases.filter (fun y => y.ctx = q.ctx)).any (fun y => y.id = Packet.num p 8 4) = false := by
    simpa [List.any_eq_false] using fun y hy hc => (h.idsFree y hy hc).1
  have hgraphs : (s.work.phases.filter (fun y => y.ctx = q.ctx)).any (fun y => (y.graph 7).isSome) = false := by
    simpa [List.any_eq_false] using fun y hy hc => (h.idsFree y hy hc).2
  have hcodes : lowestCode [(8, false), (9, false)] = none := rfl
  simp only [State.actPhaseOpen, h.graph, List.map_cons, List.map_nil, h.graphCounter, h.counter, hids, hid, honce, hgraphs,
    List.any_cons, List.any_nil, Option.isNone_some, Bool.or_false, ne_eq, not_true_eq_false, decide_false, hcodes]
  refine congrArg Acted.done ?_
  by_cases htick : atTick p = true
  · by_cases hdue : Packet.num p 56 8 ≤ s.window.tick
    · have hnow : ¬ (atTick p = true ∧ s.window.tick < Packet.num p 56 8) := fun hc => absurd hc.2 (Nat.not_lt.mpr hdue)
      rw [if_neg hnow]
      simp only [htick, hdue, if_true, State.phaseEntered, State.newPhase]
      rfl
    · have hlater : atTick p = true ∧ s.window.tick < Packet.num p 56 8 := ⟨htick, Nat.not_le.mp hdue⟩
      rw [if_pos hlater]
      simp only [htick, hdue, if_true, if_false, State.phaseEntered, State.newPhase]
      rfl
  · have hnow : ¬ (atTick p = true ∧ s.window.tick < Packet.num p 56 8) := fun hc => absurd hc.1 htick
    rw [if_neg hnow]
    simp only [htick, State.phaseEntered, State.newPhase]
    rfl

/-- The phase opens, released at once or when its tick has come. -/
theorem actPhaseOpen_opens {va a b : Nat} (h : s.MayOpen q p va a b) : ∃ t n, s.actPhaseOpen q p = .done t ∧
    t.work.queues = s.work.queues ∧ t.phaseOf q.ctx (Packet.num p 8 4) = some n ∧ n.ctr = a ∧ n.done = false ∧
    n.graphs.map Graph.id = [7] ∧ n.graphs.map Graph.launches = [1] ∧
    n.released = if atTick p then decide (Packet.num p 56 8 ≤ s.window.tick) else true := by
  have hfound : (s.phaseEntered q p va a b).phaseOf q.ctx (Packet.num p 8 4) = some (s.newPhase q p va a b) := by
    rw [State.phaseOf, phaseEntered_work]
    exact phaseOf_appended (y := s.newPhase q p va a b) fun z hz hc => (h.idsFree z hz hc).1
  have hqueues : (s.phaseEntered q p va a b).work.queues = s.work.queues := by rw [phaseEntered_work]
  rw [actPhaseOpen_eq h]
  by_cases hlater : atTick p = true ∧ s.window.tick < Packet.num p 56 8
  · rw [if_pos hlater]
    refine ⟨_, _, rfl, hqueues, hfound, rfl, rfl, rfl, rfl, ?_⟩
    rw [if_pos hlater.1, decide_eq_false (Nat.not_le.mpr hlater.2)]
    rfl
  · rw [if_neg hlater]
    obtain ⟨n, hn, hreleased, hctr, hdone, hgraphs, hsame⟩ := releasePhase_spec hfound
    refine ⟨_, n, rfl, hsame.trans hqueues, hn, hctr, hdone, hgraphs ▸ rfl, hgraphs ▸ rfl, hreleased.trans ?_⟩
    by_cases htick : atTick p = true
    · rw [if_pos htick, decide_eq_true (Nat.not_lt.mp fun hlt => hlater ⟨htick, hlt⟩)]
    · rw [if_neg htick]

theorem actPhaseClose_waits {y : Phase} (hy : s.phaseOf q.ctx (Packet.num p 8 4) = some y) (hopen : y.done = false) :
    s.actPhaseClose q p = .block 4 := by
  simp only [State.actPhaseClose, hy, hopen]
  rfl

theorem actPhaseClose_closes {y : Phase} (hy : s.phaseOf q.ctx (Packet.num p 8 4) = some y) (hdone : y.done = true) :
    ∃ t, s.actPhaseClose q p = .done t ∧ t.work.queues = s.work.queues ∧ t.mem = s.mem ∧
      t.phaseOf q.ctx (Packet.num p 8 4) = none := by
  simp only [State.actPhaseClose, hy, hdone]
  refine ⟨_, rfl, rfl, rfl, List.find?_eq_none.mpr fun z hz => ?_⟩
  have hkept := (List.mem_filter.mp hz).2
  simpa [imp_iff_not_or] using hkept

/-! Cancelling a launch (01 R37). -/

end

/-- Two states whose launches and queues are the same. -/
structure SameWork (s t : State) : Prop where
  launches : t.work.launches = s.work.launches
  queues : t.work.queues = s.work.queues

theorem SameWork.trans {r s t : State} (h : SameWork r s) (k : SameWork s t) : SameWork r t :=
  ⟨k.launches.trans h.launches, k.queues.trans h.queues⟩

theorem sameWork_of_work {s t : State} (h : t.work = s.work) : SameWork s t := ⟨congrArg _ h, congrArg _ h⟩

theorem sameWork_modPhase (s : State) (ctx id : Nat) (f : Phase → Phase) : SameWork s (s.modPhase ctx id f) := ⟨rfl, rfl⟩

/-- A graph or a launch accounted changes phases and their counters (01 R36). -/
theorem sameWork_phaseAdd (s : State) (ctx pid : Nat) (ab : Bool) : SameWork s (s.phaseAdd ctx pid ab) := by
  unfold State.phaseAdd
  split
  next => exact ⟨rfl, rfl⟩
  next p _ =>
    dsimp only
    split
    · exact (((sameWork_of_work (updateWord_work ..)).trans (sameWork_modPhase ..)).trans (sameWork_of_work (notify_work ..))).trans
        (sameWork_of_work (updateWord_work ..))
    · exact sameWork_of_work (updateWord_work ..)

theorem sameWork_graphAdd (s : State) (ctx pid gid : Nat) (ab : Bool) : SameWork s (s.graphAdd ctx pid gid ab) := by
  unfold State.graphAdd
  split
  next => exact ⟨rfl, rfl⟩
  next g _ =>
    dsimp only
    split
    · exact ((sameWork_of_work (updateWord_work ..)).trans (sameWork_modPhase ..)).trans (sameWork_phaseAdd ..)
    · exact sameWork_of_work (updateWord_work ..)

theorem modLaunch_queues (s : State) (uid : Nat) (f : Launch → Launch) : (s.modLaunch uid f).work.queues = s.work.queues := rfl

/-- A launch that is COMPLETE: its leases end with it. -/
def Launch.completed (l : Launch) : Launch := { l with done := true, leased := [] }

/-- Units of the only launch accounted complete it, or leave it. -/
theorem launchAdd_only {s : State} {l : Launch} (h : s.work.launches = [l]) (n : Nat) (ab : Bool) :
    ((s.launchAdd l.uid n ab).work.launches = [l] ∨ (s.launchAdd l.uid n ab).work.launches = [l.completed]) ∧
      (s.launchAdd l.uid n ab).work.queues = s.work.queues := by
  have hl : s.launchOf l.uid = some l := by simp [State.launchOf, h]
  unfold State.launchAdd
  rw [hl]
  split
  next => exact ⟨.inl h, rfl⟩
  next =>
    dsimp only
    split
    · have hsame (t : State) (ab : Bool) : SameWork t ((t.notify l.notify l.queue).graphAdd l.ctx l.phase l.graph ab) :=
        (sameWork_of_work (notify_work ..)).trans (sameWork_graphAdd ..)
      refine ⟨.inr ((hsame _ _).launches.trans ?_), (hsame _ _).queues.trans (by rw [modLaunch_queues, updateWord_work])⟩
      rw [modLaunch_launches, updateWord_work, h, updFirst_singleton]
      simp [Launch.completed]
    · rw [updateWord_work]
      exact ⟨.inl h, rfl⟩

/-- A launch marked by a CANCEL: none of its units is placed any more. -/
def Launch.marked (l : Launch) : Launch :=
  { l with cancelled := true, shares := l.shares.map (fun h => { h with next := h.stop }) }

theorem launchAdd_marked {s : State} {l : Launch} (h : s.work.launches = [l.marked]) (k : Nat) : ∃ n,
    (s.launchAdd l.uid k true).work.launches = [n] ∧ n.cancelled = true ∧ n.id = l.id ∧
      (s.launchAdd l.uid k true).work.queues = s.work.queues := by
  obtain ⟨hn | hn, hqueues⟩ := launchAdd_only h k true
  · exact ⟨_, hn, rfl, rfl, hqueues⟩
  · exact ⟨_, hn, rfl, rfl, hqueues⟩

/-- A CANCEL of the only launch marks it, but for one that is COMPLETE (01 R38). -/
theorem cancelLaunch_only {s : State} {l : Launch} (h : s.work.launches = [l]) : ∃ n, (s.cancelLaunch l.uid).work.launches = [n] ∧
    n.cancelled = (l.cancelled || !l.done) ∧ n.id = l.id ∧ (s.cancelLaunch l.uid).work.queues = s.work.queues := by
  have hl : s.launchOf l.uid = some l := by simp [State.launchOf, h]
  simp only [State.cancelLaunch, hl]
  split
  next hdone => exact ⟨l, h, by simp [hdone], rfl, rfl⟩
  next hopen =>
    rw [show (l.cancelled || !l.done) = true by simp [hopen]]
    refine launchAdd_marked ?_ _
    simp [State.mapStrands, h, updFirst_singleton, Launch.marked]

/-- A CANCEL of a launch sets the bit in its counter, and then cancels it. -/
theorem actCancel_only {s : State} {q : Queue} {p : Packet} {l : Launch} (hlevel : Packet.num p 8 1 = 1) (h : s.work.launches = [l])
    (hctx : l.ctx = q.ctx) (hid : l.id = Packet.num p 12 4) : ∃ t n, s.actCancel q p = .done t ∧ t.work.queues = s.work.queues ∧
      t.work.launches = [n] ∧ n.cancelled = (l.cancelled || !l.done) ∧ n.id = l.id := by
  have hset : s.cancelSet q.ctx 1 (Packet.num p 12 4) = some ⟨q.ctx, [], [], [l.uid]⟩ := by simp [State.cancelSet, h, hctx, hid]
  have hl : s.launchOf l.uid = some l := by simp [State.launchOf, h]
  have hwork : (s.orCancel q.ctx l.ctr).work = s.work := updateWord_work ..
  obtain ⟨n, hn, hcancelled, hnid, hqueues⟩ := cancelLaunch_only (hwork ▸ h)
  refine ⟨_, n, ?_, hqueues.trans (congrArg Work.queues hwork), hn, hcancelled, hnid⟩
  simp [State.actCancel, State.cancel, hlevel, hset, State.applyCancel, hl]

end Sys2Proof.Machine
end

section
/-! SUPPORT. A packet that opens, closes or cancels work moves its queue on (10 R214, R216), from the event of its kind or when its
BLOCKED queue resumes. -/

namespace Sys2Proof.Machine

/-- A BLOCKED queue that resumes takes its packet up as the event of the packet's kind does (10 R216). -/
theorem exec_queueResume_blocked {s : State} {page : Nat} {q : Queue} {p : Packet} (hq : s.queueOf page = some q)
    (hp : s.packetAt q = some p) (hstate : q.state = 2) : exec (.queueResume page) s = .next (s.runPacket page (Packet.op p)) := by
  rw [exec_queueResume, runPacket_of_op hq hp]
  simp only [execQueueResume, hq, hstate]
  rfl

/-- The queue moved on behind its packet. -/
structure Queue.MovesOn (q : Queue) (p : Packet) (z : Queue) : Prop where
  rdidx : z.rdidx = q.rdidx + BitVec.ofNat 32 (Packet.len p)
  seq : z.seq = q.seq + 1
  state : z.state = 1

section
variable {s : State} {page : Nat} {q : Queue} {p : Packet} (h : s.Takes page q p) {i : Instr} {op : Nat}
include h

/-- A packet whose effect leaves the queues alone moves its queue on; of the rest of the work all is as the effect leaves it. -/
theorem State.Takes.exec_movesOn (hi : exec i s = .next (s.runPacket page op)) (hop : Packet.op p = op) {t : State}
    (hact : s.actOnPacket q p = .done t) (hqueues : t.work.queues = s.work.queues) : ∃ t' z qs, exec i s = .next t' ∧ t'.mem = t.mem ∧
      t'.work = { t.work with queues := qs } ∧ t'.queueOf page = some z ∧ q.MovesOn p z := by
  have hqueue : t.queueOf page = some q := by
    rw [State.queueOf, hqueues]
    exact h.queue
  exact ⟨_, _, _, h.exec_done hi hop hact, tookUp_mem .., tookUp_work .., queueOf_tookUp hqueue p, rfl, rfl, rfl⟩

theorem State.Takes.exec_opensLaunch (hi : exec i s = .next (s.runPacket page op)) (hop : Packet.op p = op) {sl : Slot} {y : Phase}
    {g : Graph} {a : Nat} (hact : s.actOnPacket q p = s.actInvoke q p) (hmay : s.MayInvoke q p sl y g a) (hw : s.mem.wf = true) :
    ∃ t z, exec i s = .next t ∧ (t.mem.word a = 0 ∧ ∃ n, t.work.launches = s.work.launches ++ [n] ∧ n.uid = s.work.uid ∧
      n.id = Packet.num p 16 4 ∧ n.ctx = q.ctx ∧ n.g = Packet.num p 12 3 + 1 ∧ n.prio = Packet.num p 10 1 % 8 ∧
      n.slot = Packet.num p 8 1 ∧ n.ctr = a ∧ n.tick = (if op = 0x11 then some (Packet.num p 56 8) else none) ∧ n.done = false) ∧
      t.queueOf page = some z ∧ z.rdidx = q.rdidx + BitVec.ofNat 32 (Packet.len p) ∧ z.seq = q.seq + 1 ∧ z.state = 1 := by
  obtain ⟨t, n, hdone, hqueues, hzero, hlaunches, huid, hid, hctx, hg, hprio, hslot, hctr, htick, hopen⟩ := actInvoke_opens hmay hw
  obtain ⟨t', z, qs, hexec, hmem, hwork, hz, hmoves⟩ := h.exec_movesOn hi hop (hact.trans hdone) hqueues
  refine ⟨t', z, hexec, ⟨hmem ▸ hzero, n, ?_, huid, hid, hctx, hg, hprio, hslot, hctr, hop ▸ htick, hopen⟩, hz, hmoves.rdidx, hmoves.seq,
    hmoves.state⟩
  rw [hwork]
  exact hlaunches

end

/-- Settles O47: each kind of packet by the lemma that says what its effect leaves, and by what taking it up makes of its queue. -/
theorem packetsOpenWork : Obligations.PacketsOpenWork := by
  unfold Obligations.PacketsOpenWork
  intro s q x p d sl y g l h img num vf taken blocks opens hqueue hpage hserved hpacket hsound horder hw
  obtain rfl := hpage
  have hp : s.Takes x.page x p := ⟨hqueue, hserved, hpacket, hsound, horder⟩
  refine ⟨fun hop _ hfree haligned hhome hdesc hdecls => ?load, fun hop _ hdone => ?evict, fun hop hstate hfree => ?missing,
    fun hstate hslot hdecls hbufs hbitmap hphase hgraph hroom hy hg hjob hids hpred hctr ha hc => ?invoke,
    fun hop _ hentries hgctr hctr hids => ?phaseOpen, fun hop hstate hy hopen => ?closeWaits, fun hop _ hy hdone => ?close,
    fun hop _ hlevel hl hctx hid => ?cancel⟩
  case load =>
    obtain ⟨t, n, r, hact, hqueues, hslots, hcode, hvf, hnum, hctx, hdesc', hexts⟩ :=
      actSlotLoad_resident hfree haligned hhome hdesc hdecls
    obtain ⟨t', z, qs, hexec, hmem, hwork, hz, hmoves⟩ :=
      hp.exec_movesOn (exec_slotLoad x.page s) hop ((actOnPacket_slotLoad hop).trans hact) hqueues
    have hhome64 := codeHome_lt s (x.page / 64) (Packet.num p 8 1)
    have hlen : 64 * d.bundles < 2 ^ 58 := by
      have := readDesc_bundles_lt hdesc
      omega
    have hbase := extBase_mkExt (64 * d.bundles) true false true d.tolerant 0 0 x.ctx 0 hhome64 (codeHome_page ..)
    refine ⟨t', z, hexec, ⟨n, ?_, hvf, hnum, hctx, hdesc', _, r, hexts, ?_, extExec_mkExt _ _ _ _ _ _ _ _ _ hhome64, fun i hi _ => ?_⟩,
      hz, hmoves.rdidx, hmoves.seq, hmoves.state⟩
    · rw [hwork]
      exact hslots
    · rw [extLen_mkExt _ _ _ _ _ _ _ _ _ hhome64, Nat.mod_eq_of_lt hlen]
    · rw [hmem, hcode, hbase]
      exact byte_copyRange hw hi
  case evict =>
    obtain ⟨t, hact, hqueues, hmem, hfreed⟩ := actSlotEvict_frees hdone
    obtain ⟨t', z, qs, hexec, hmem', hwork, hz, hmoves⟩ :=
      hp.exec_movesOn (exec_slotEvict x.page s) hop ((actOnPacket_slotEvict hop).trans hact) hqueues
    refine ⟨t', z, hexec, ⟨?_, hmem'.trans hmem⟩, hz, hmoves.rdidx, hmoves.seq, hmoves.state⟩
    rw [State.slotOf, hwork]
    exact hfreed
  case missing =>
    exact hp.exec_block (exec_invoke x.page s) hop hstate ((actOnPacket_invoke hop).trans (actInvoke_missing hfree))
  case invoke =>
    have hmay : s.MayInvoke x p sl y g h :=
      ⟨hslot, hdecls, hbufs, hbitmap, hphase, hgraph, hroom, hy, hg, hjob, hids, hpred, hctr, ha, hc⟩
    exact ⟨fun hop => hp.exec_opensLaunch (exec_invoke x.page s) hop (actOnPacket_invoke hop) hmay hw,
      fun hop => hp.exec_opensLaunch (exec_invokeTick x.page s) hop (actOnPacket_invokeTick hop) hmay hw,
      fun hop hblocked => hp.exec_opensLaunch (hop ▸ exec_queueResume_blocked hqueue hpacket hblocked) hop (actOnPacket_invoke hop) hmay hw⟩
  case phaseOpen =>
    obtain ⟨t, n, hact, hqueues, hn, hnctr, hndone, hgraphs, hlaunches, hreleased⟩ :=
      actPhaseOpen_opens (s := s) ⟨hentries, hgctr, hctr, hids⟩
    obtain ⟨t', z, qs, hexec, -, hwork, hz, hmoves⟩ :=
      hp.exec_movesOn (exec_phaseOpen x.page s) hop ((actOnPacket_phaseOpen hop).trans hact) hqueues
    refine ⟨t', z, hexec, ⟨n, ?_, hnctr, hndone, hgraphs, hlaunches, hreleased⟩, hz, hmoves.rdidx, hmoves.seq, hmoves.state⟩
    rw [State.phaseOf, hwork]
    exact hn
  case closeWaits =>
    exact hp.exec_block (exec_phaseClose x.page s) hop hstate ((actOnPacket_phaseClose hop).trans (actPhaseClose_waits hy hopen))
  case close =>
    obtain ⟨t, hact, hqueues, hmem, hclosed⟩ := actPhaseClose_closes hy hdone
    obtain ⟨t', z, qs, hexec, hmem', hwork, hz, hmoves⟩ :=
      hp.exec_movesOn (exec_phaseClose x.page s) hop ((actOnPacket_phaseClose hop).trans hact) hqueues
    refine ⟨t', z, hexec, ⟨?_, hmem'.trans hmem⟩, hz, hmoves.rdidx, hmoves.seq, hmoves.state⟩
    rw [State.phaseOf, hwork]
    exact hclosed
  case cancel =>
    obtain ⟨t, n, hact, hqueues, hn, hcancelled, hnid⟩ := actCancel_only hlevel hl hctx hid
    obtain ⟨t', z, qs, hexec, -, hwork, hz, hmoves⟩ :=
      hp.exec_movesOn (exec_cancelPacket x.page s) hop ((actOnPacket_cancel hop).trans hact) hqueues
    refine ⟨t', z, hexec, ⟨n, ?_, hcancelled, hnid⟩, hz, hmoves.rdidx, hmoves.seq, hmoves.state⟩
    rw [hwork]
    exact hn

end Sys2Proof.Machine
end

section
/-! SUPPORT. A stop and the writes still to land (02 R51; 11 R245; 05 R123): those due later are parked with the cycles that are left. -/

namespace Sys2Proof.Machine

theorem insertBy_perm {α : Type} (key : α → Nat) (a : α) : ∀ l : List α, (insertBy key a l).Perm (a :: l)
  | [] => .refl _
  | b :: r => by
    unfold insertBy
    split
    · exact .refl _
    · exact ((insertBy_perm key a r).cons b).trans (.swap a b r)

/-- Sorting rearranges. -/
theorem sortBy_perm {α : Type} (key : α → Nat) (l : List α) : (sortBy key l).Perm l := by
  induction l using List.reverseRecOn with
  | nil => exact .refl _
  | append_singleton l a ih =>
    rw [sortBy_concat]
    exact ((insertBy_perm key a _).trans (ih.cons a)).trans (List.perm_append_singleton a l).symm

/-- A fold whose every step only collects the item that it meets collects the list. -/
theorem foldl_collects {α γ : Type} {f : γ → α → γ} (g : List α → γ) :
    ∀ {l : List α}, (∀ acc, ∀ a ∈ l, f (g acc) a = g (acc ++ [a])) → ∀ acc, l.foldl f (g acc) = g (acc ++ l)
  | [], _, acc => by simp
  | a :: r, h, acc => by
    rw [List.foldl_cons, h acc a List.mem_cons_self, foldl_collects g (fun acc b hb => h acc b (List.mem_cons_of_mem a hb))]
    simp

theorem satAdd_zero (w : Word) : satAdd w 0 = w := by
  have h : w.toNat ≤ 2 ^ 64 - 1 := by omega
  rw [satAdd, Nat.add_zero, Nat.min_eq_left h, BitVec.ofNat_toNat, BitVec.setWidth_eq]

theorem addErr_zero (u : Strand) : u.addErr 0 = u := by simp [Strand.addErr, Strand.modSr, satAdd_zero]

/-- No row of a write is due before the cycle of its next one (02 R51). -/
theorem landFlight_future {now : Nat} {f : Flight} (h : now < f.land) (u : Strand) : landFlight now u f = (u, some f, none) := by
  have h1 : now + 1 - f.land = 0 := by omega
  have h2 : ¬ f.land ≤ now := by omega
  simp [landFlight, h1, h2]

/-- Where every write is due later, landing leaves the strand as it was, its writes in order. -/
theorem landOrdered_future {now : Nat} {u : Strand} (h : ∀ f ∈ u.flights, now < f.land) :
    landOrdered now u = ({ u with flights := sortBy (fun f => f.seq) (sortBy (fun f => f.land) u.flights) }, none) := by
  have hfuture : ∀ f ∈ sortBy (fun f => f.land) u.flights, now < f.land := fun f hf => h f ((sortBy_perm _ _).mem_iff.mp hf)
  unfold landOrdered
  dsimp only
  rw [foldl_collects (fun l => (u, l, none, 0)) (fun acc f hf => by simp [landFlight_future (hfuture f hf), firstIssued])]
  simp [addErr_zero]

/-- The writes still to land, each with the cycles that are left of it at cycle `now`. -/
def Strand.delays (u : Strand) (now : Nat) : List Flight :=
  (sortBy (fun f => f.seq) (sortBy (fun f => f.land) u.flights)).map (fun f => { f with land := f.land - now })

theorem mem_delays {u : Strand} {now : Nat} {f : Flight} :
    f ∈ u.delays now ↔ ∃ g ∈ u.flights, f = { g with land := g.land - now } := by
  simp only [Strand.delays, List.mem_map, (sortBy_perm _ _).mem_iff, eq_comm]

/-- Outside a handler, a stop before any write is due parks them all: entries in the queue, the others beside it (11 R245 step 2). -/
theorem freeze_future {s : State} (hin : s.u.trap.inHandler = false) (h : ∀ f ∈ s.u.flights, s.now < f.land) :
    s.freeze = s.modU (fun u => { u with
      flights := [],
      trap := { u.trap with
        ifq := (u.delays s.now).filter Flight.isEntry, odd := (u.delays s.now).filter (fun f => !f.isEntry) } }) := by
  simp [State.freeze, landAll, landOrdered_future h, hin, Strand.hold, State.modU, Strand.modTrap, Strand.delays,
    List.partition_eq_filter_filter, Function.comp_def]

/-- Such a stop leaves no write on the strand, and in the queue stand exactly the writes that were still to land, each with its DELAY
(05 R123). -/
theorem freeze_parks {s : State} (hin : s.u.trap.inHandler = false) (h : ∀ f ∈ s.u.flights, s.now < f.land)
    (he : ∀ f ∈ s.u.flights, f.isEntry = true) :
    s.freeze.u.flights = [] ∧ ∀ f, f ∈ s.freeze.u.trap.ifq ↔ ∃ g ∈ s.u.flights, f = { g with land := g.land - s.now } := by
  have hentries : ∀ f ∈ s.u.delays s.now, f.isEntry = true := fun f hf => by
    obtain ⟨g, hg, rfl⟩ := mem_delays.mp hf
    exact he g hg
  rw [freeze_future hin h]
  refine ⟨rfl, fun f => ?_⟩
  rw [← mem_delays, modU_u, List.filter_eq_self.mpr hentries]

end Sys2Proof.Machine
end

section
/-! SUPPORT. What ends or saves a unit leaves of its strand (01 R20, R21; 11 R253, R257): the blocks written back count in ERRCNT, and
the rest of its group is asked to stop. -/

namespace Sys2Proof.Machine

/-- The strands differ in ERRCNT alone. -/
def Strand.SameButCount (u v : Strand) : Prop := ∃ n, v = u.modSr (fun r => { r with errcnt := n })

theorem Strand.SameButCount.refl (u : Strand) : u.SameButCount u := ⟨u.regs.sr.errcnt, rfl⟩

theorem Strand.SameButCount.trans {u v w : Strand} (h : u.SameButCount v) (k : v.SameButCount w) : u.SameButCount w := by
  obtain ⟨m, rfl⟩ := h
  obtain ⟨n, rfl⟩ := k
  exact ⟨n, rfl⟩

theorem logPoison_u (s : State) (gs : List Nat) : (s.logPoison gs).u = s.u :=
  foldl_inv (fun t : State => t.u = s.u) gs s rfl fun t g _ h => (sameButErrors_logFault t g 3).u.trans h

theorem writeBlock_u (s : State) (b : Block) : s.u.SameButCount (s.writeBlock b).u := by
  unfold State.writeBlock
  dsimp only
  split
  · rw [modU_u, modCore_u, logPoison_u]
    exact ⟨_, rfl⟩
  · rw [modCore_u, logPoison_u]
    exact .refl s.u

/-- A unit's blocks written back (07 R167) count their errors (05 R121). -/
theorem writeBlocks_u (s : State) (w : UnitId) : s.u.SameButCount (s.writeBlocks w).u :=
  foldl_inv (fun t : State => s.u.SameButCount t.u) _ s (.refl s.u) fun t b _ h => h.trans (writeBlock_u t b)

/-- Withdrawing what waits at a home changes memory and the waiters (09 R209). -/
@[simp] theorem withdraw_u (s : State) : s.withdraw.u = s.u := by
  unfold State.withdraw
  refine foldl_inv (fun t : State => t.u = s.u) _ _ rfl fun t x _ h => ?_
  split
  · exact h
  · exact h

/-- A termination (01 R20, R21; 11 R253): the unit is ENDING and counts as abandoned; of its special registers only ERRCNT may have
moved. -/
theorem terminate_ends (s : State) : s.terminate.u.st = .ending ∧ s.terminate.u.own.abandoned = true ∧
    ∃ n, s.terminate.u.regs.sr = { s.u.regs.sr with errcnt := n } := by
  obtain ⟨n, hu⟩ := writeBlocks_u s s.u.who
  have hsr : ((s.writeBlocks s.u.who).withdraw).u.regs.sr = { s.u.regs.sr with errcnt := n } := by rw [withdraw_u, hu]; rfl
  unfold State.terminate
  dsimp only
  split <;> exact ⟨rfl, Bool.or_true _, n, hsr⟩

/-- A unit is not of the rest of its own group. -/
@[simp] theorem stopGroup_u (s : State) (nbh : Nat) : (s.stopGroup s.u.who nbh).u = s.u := by
  simp [State.stopGroup, State.stopGroupBy, State.mapStrands, Strand.sameGroup]

@[simp] theorem stopGroup_core (s : State) (w : UnitId) (nbh : Nat) : (s.stopGroup w nbh).core = s.core := rfl

theorem performRest_none {s : State} (h : s.u.accs = []) : s.performRest = ok s := by
  simp [State.performRest, h, State.performThe]

theorem performAll_none {s : State} (h : s.u.accs = []) : s.performAll = ok s := by
  simp [State.performAll, h, State.performThe]

theorem performLeft_none {s : State} (h : s.u.accs = []) : s.performLeft = s := by
  simp [State.performLeft, performRest_none h, ok, State.modU, Strand.modTrap]

/-- A checkpoint with nothing outstanding (11 R257): the strand is free, and what is saved names the unit, its cause and the resume index
of its stop. -/
theorem checkpoint_saves {s : State} (h : s.u.accs = []) (firmware : Bool) (cause : Nat) :
    (s.checkpoint firmware cause).u.st = .absent ∧ ∃ sv ∈ (s.checkpoint firmware cause).work.saved,
      sv.who = s.u.who ∧ sv.firmware = firmware ∧ sv.cause = cause ∧ sv.kept.trap.resume = s.u.trap.resume := by
  refine ⟨rfl, _, List.mem_append_right _ (List.mem_singleton_self _), ?_⟩
  obtain ⟨n, hu⟩ := writeBlocks_u s s.u.who
  rw [performLeft_none h]
  split <;> simp [savedOf, State.keptNow, hu]

end Sys2Proof.Machine
end

section
/-! SUPPORT. An exception taken with nothing in flight (11 R245 to R253), and a cause at the first bundle of a handler (11 R252). -/

namespace Sys2Proof.Machine

/-- The unit in front runs outside its handler, with no write to land, no access outstanding and no stop that waits; nothing waits at a
home. -/
structure State.NothingInFlight (s : State) : Prop where
  outside : s.u.trap.inHandler = false
  first : s.u.trap.first = false
  late : s.u.trap.late = none
  flights : s.u.flights = []
  accs : s.u.accs = []
  waiters : s.waiters = []

/-- The state with its queue of parked writes empty. -/
def State.unparked (s : State) : State := s.modU (fun u => u.modTrap (fun t => { t with ifq := [], odd := [] }))

theorem withdraw_none {s : State} (h : s.waiters = []) : s.withdraw = s := by
  simp only [State.withdraw, h, List.filter_nil, List.foldl_nil]
  rw [← h]

section
variable {s : State} (h : s.NothingInFlight)
include h

theorem State.NothingInFlight.freeze : s.freeze = s.unparked := by
  have hf : ∀ f ∈ s.u.flights, s.now < f.land := by simp [h.flights]
  rw [freeze_future h.outside hf]
  simp [State.unparked, State.modU, Strand.modTrap, Strand.delays, h.flights, sortBy]

theorem State.NothingInFlight.settleResults : s.freeze.settleResults = s.unparked := by
  have ha : s.unparked.u.accs = [] := h.accs
  have hw : s.unparked.waiters = [] := h.waiters
  rw [h.freeze, State.settleResults, performAll_none ha]
  exact withdraw_none hw

/-- A hard stop with nothing in flight is recorded and delivered as it is raised (11 R245). -/
theorem State.NothingInFlight.hardStop (t : Trap) (epc ridx : Word) :
    s.hardStop t epc ridx = (s.unparked.record s.now t epc ridx).deliver s.now t := by
  have hserved : s.servedMine = false := by simp [State.servedMine, h.waiters]
  simp [State.hardStop, h.late, h.first, hserved, h.settleResults]

/-- A cause that the handler takes: what entering it does to the recorded stop (11 R249, R250). -/
theorem State.NothingInFlight.hardStop_enters {t : Trap} (hd : delegable t.cause = true) (hh : s.u.regs.sr.handler ≠ 0)
    (epc ridx : Word) : s.hardStop t epc ridx = (s.unparked.record s.now t epc ridx).enterHandler s.now := by
  have hin : (s.unparked.record s.now t epc ridx).u.trap.inHandler = false := h.outside
  rw [h.hardStop]
  refine if_pos ?_
  rw [hd, hin, Bool.true_and, Bool.not_false, Bool.and_true]
  exact decide_eq_true hh

/-- A cause that goes to firmware (11 R253). -/
theorem State.NothingInFlight.hardStop_toFirmware {t : Trap} (hd : delegable t.cause = false ∨ s.u.regs.sr.handler = 0)
    (epc ridx : Word) : s.hardStop t epc ridx = (s.unparked.record s.now t epc ridx).toFirmware t := by
  rw [h.hardStop]
  refine if_neg ?_
  rcases hd with hd | hd <;> simp [hd, State.record, State.unparked]

end

/-- The causes for which firmware ends the unit (07 R162; 11 R253; 13 R281, R283). -/
def State.Ends (s : State) (cause : Nat) : Prop :=
  cause = cLEASE ∨ cause = cMEM_UE ∨ (cause = cPIPE_ERR ∧ s.mayRetry = false)

theorem toFirmware_terminates {s : State} {t : Trap} (h : s.Ends t.cause) :
    s.toFirmware t = (s.stopGroup s.u.who s.u.own.nbh).terminate := if_pos (by simpa [State.Ends, or_assoc] using h)

/-- Any other cause saves the unit at once where no copy of it runs and nothing is outstanding (11 R253, R256). -/
theorem toFirmware_checkpoints {s : State} {t : Trap} (h : ¬ s.Ends t.cause) (ha : s.u.accs = []) (hc : s.core.copiesOf s.u.who = []) :
    s.toFirmware t = (s.stopGroup s.u.who s.u.own.nbh).checkpoint true t.cause := by
  have hsettled : (s.stopGroup s.u.who s.u.own.nbh).settled = true := by simp [State.settled, ha, hc]
  exact (if_neg (by simpa [State.Ends, or_assoc] using h)).trans (if_pos hsettled)

/-- Causes that end the unit do not go to a handler (11 R247). -/
theorem State.Ends.not_delegable {s : State} {cause : Nat} (h : s.Ends cause) : delegable cause = false := by
  rcases h with rfl | rfl | ⟨rfl, -⟩ <;> rfl

theorem mayRetry_eq_false {s : State} : s.mayRetry = false ↔ s.u.own.copy = none ∨ s.u.own.retried = true := by
  cases h : s.u.own.copy <;> simp [State.mayRetry, h]

/-- HANDLER_FAULT (11 R252) holds both causes; a unit ends for it, and a firmware core has its die fenced. -/
theorem doubleFault_spec (s : State) (t : Trap) :
    (s.doubleFault t).u.regs.sr.ecause = 0x25 ∧
    (s.doubleFault t).u.regs.sr.einfo.toNat = s.u.regs.sr.ecause.toNat % 256 + 256 * (t.cause % 256) ∧
    (s.u.privileged = false → (s.doubleFault t).u.st = .ending) ∧ (s.u.privileged = true → (s.doubleFault t).die.fwFault = true) := by
  let info := s.u.regs.sr.ecause.toNat % 256 + 256 * (t.cause % 256)
  have hinfo : (BitVec.ofNat 64 info).toNat = info := Nat.mod_eq_of_lt (by omega)
  set s1 := s.modU (fun u => u.modSr (fun r => { r with ecause := BitVec.ofNat 64 cHANDLER_FAULT, einfo := BitVec.ofNat 64 info }))
  set s2 := s1.stopGroup s1.u.who s1.u.own.nbh
  have hu : s2.u = s1.u := stopGroup_u s1 _
  have hecause : s2.u.regs.sr.ecause = 0x25 := by rw [hu]; rfl
  have heinfo : s2.u.regs.sr.einfo.toNat = info := by rw [hu]; exact hinfo
  have hdef : s.doubleFault t = if s.u.privileged then s2.modDie (fun d => { d with fwFault := true }) else s2.terminate := rfl
  rw [hdef]
  cases hp : s.u.privileged
  case true => exact ⟨hecause, heinfo, nofun, fun _ => rfl⟩
  case false =>
    obtain ⟨hst, -, n, hregs⟩ := terminate_ends s2
    simp only [Bool.false_eq_true, if_false, hregs]
    exact ⟨hecause, heinfo, fun _ => hst, nofun⟩

/-- Settles O11: with nothing in flight the recorded stop enters the handler, ends the unit or saves it; HANDLER_FAULT is that of
`doubleFault_spec`, and the parked writes are those of `freeze_parks`. -/
theorem exceptionsDeliver : Obligations.ExceptionsDeliver := by
  unfold Obligations.ExceptionsDeliver
  refine ⟨?handler, ?firmware, ?ends, ?double, ?parks⟩
  case handler =>
    intro s t epc ridx hd hh hin hfirst hlate hf ha hw
    have h : s.NothingInFlight := ⟨hin, hfirst, hlate, hf, ha, hw⟩
    rw [h.hardStop_enters hd hh]
    have hridx : (s.unparked.record s.now t epc ridx).u.trap.ridx = ridx := if_neg (by simp [State.unparked, hin])
    exact ⟨rfl, rfl, rfl, rfl, hridx, rfl, rfl, rfl, rfl, rfl, rfl, rfl⟩
  case firmware =>
    intro s t epc ridx hd hlease hue hpipe hfirst hlate hin hf ha hw hc
    have h : s.NothingInFlight := ⟨hin, hfirst, hlate, hf, ha, hw⟩
    set r := s.unparked.record s.now t epc ridx with hr
    have hends : ¬ r.Ends t.cause := by
      rintro (h9 | h18 | ⟨h17, hretry⟩)
      · exact hlease h9
      · exact hue h18
      · obtain ⟨hcopy, hfresh⟩ := hpipe h17
        have hmay : r.mayRetry = true := by simp [hr, State.mayRetry, State.record, State.unparked, hcopy, hfresh]
        simp [hmay] at hretry
    have hsaves := checkpoint_saves (s := r.stopGroup r.u.who r.u.own.nbh) (by rw [stopGroup_u]; exact ha) true t.cause
    rw [stopGroup_u] at hsaves
    dsimp only
    rw [h.hardStop_toFirmware hd, ← hr, toFirmware_checkpoints hends ha hc]
    exact hsaves
  case ends =>
    intro s t epc ridx hcause hfirst hlate hin hf ha hw
    have h : s.NothingInFlight := ⟨hin, hfirst, hlate, hf, ha, hw⟩
    have hends : (s.unparked.record s.now t epc ridx).Ends t.cause :=
      hcause.imp_right (Or.imp_right (And.imp_right mayRetry_eq_false.mpr))
    rw [h.hardStop_toFirmware (.inl hends.not_delegable), toFirmware_terminates hends]
    obtain ⟨hst, habandoned, -⟩ := terminate_ends ((s.unparked.record s.now t epc ridx).stopGroup _ _)
    exact ⟨hst, habandoned⟩
  case double =>
    intro s t epc ridx hfirst hlate
    have hstop : s.hardStop t epc ridx = s.doubleFault t := by simp [State.hardStop, hlate, hfirst]
    dsimp only
    rw [hstop]
    exact doubleFault_spec s t
  case parks =>
    intro s hin h
    refine freeze_parks hin (fun f hf => ?_) (fun f hf => ?_) <;> obtain ⟨hland, -, -, hentry⟩ := h f hf
    · exact hland
    · exact hentry

end Sys2Proof.Machine
end

section
/-! SUPPORT. The parts of a supply event (12 R263 to R265, R270, R271, R275, R277): the stop of every unit, what raises dies, returns
allocations or sends flits leaves alone, the releases of a tick, and the work of a drain and of a boot. -/

namespace Sys2Proof.Machine

@[simp] theorem modSupply_work (s : State) (f : Supply → Supply) : (s.modSupply f).work = s.work := rfl

/-! The stop of every unit, and the message to the host (12 R263, R270; 14 R299). -/

@[simp] theorem powerfailAll_supply (s : State) : s.powerfailAll.supply = s.supply := rfl
@[simp] theorem powerfailAll_window (s : State) : s.powerfailAll.window = s.window := rfl
@[simp] theorem supplyMsi_supply (s : State) : s.supplyMsi.supply = s.supply := rfl
@[simp] theorem supplyMsi_msix (s : State) : s.supplyMsi.window.msix = s.window.msix ++ [(0, 66)] := rfl

/-- The unit in front takes POWERFAIL, if it is on its strand and has neither begun to end nor stopped already. -/
theorem powerfailAll_soft {s : State} (hon : s.u.st.onStrand = true) (hend : s.u.st ≠ .ending) (hret : s.u.trap.retained = false) :
    s.powerfailAll.u.trap.soft = s.u.trap.soft ||| 2 := by
  simp only [State.powerfailAll, State.mapStrands, hon, hend, hret, ne_eq, not_false_eq_true, decide_true, Bool.not_false,
    Bool.and_self, if_true]
  exact requestSoft_soft s.u cPOWERFAIL _

/-! Dies, cores, memory and ports (07 R158; 12 R265, R276). -/

/-- Two states that differ in memory, cores, dies and what ports have sent alone, of what a supply event asks. -/
structure SameButHardware (s t : State) : Prop where
  u : t.u = s.u
  window : t.window = s.window
  supply : t.supply = s.supply
  work : t.work = s.work
  groups : t.fabric.groups = s.fabric.groups

theorem SameButHardware.refl (s : State) : SameButHardware s s := ⟨rfl, rfl, rfl, rfl, rfl⟩

theorem SameButHardware.trans {r s t : State} (h : SameButHardware r s) (k : SameButHardware s t) : SameButHardware r t :=
  ⟨k.u.trans h.u, k.window.trans h.window, k.supply.trans h.supply, k.work.trans h.work, k.groups.trans h.groups⟩

theorem sameButHardware_mapDies (s : State) (f : Die → Die) : SameButHardware s (s.mapDies f) := ⟨rfl, rfl, rfl, rfl, rfl⟩

theorem sameButHardware_mapCores (s : State) (f : Core → Core) : SameButHardware s (s.mapCores f) := ⟨rfl, rfl, rfl, rfl, rfl⟩

theorem sameButHardware_modDieAt (s : State) (d : Nat) (f : Die → Die) : SameButHardware s (s.modDieAt d f) := by
  unfold State.modDieAt
  split <;> exact ⟨rfl, rfl, rfl, rfl, rfl⟩

theorem sameButHardware_setRetn (s : State) (d retn : Nat) : SameButHardware s (s.setRetn d retn) :=
  have hdie := sameButHardware_modDieAt s d (fun x => { x with retn := retn })
  iteInduction (fun _ => hdie.trans (sameButHardware_mapCores _ _)) (fun _ => hdie)

theorem sameButHardware_setClock (s : State) (d mhz : Nat) : SameButHardware s (s.setClock d mhz) := by
  unfold State.setClock
  split
  · exact .refl s
  · split
    · exact .refl s
    · exact (sameButHardware_setRetn ..).trans (sameButHardware_modDieAt ..)

/-- The clocks of some dies set (12 R270, R275). -/
theorem sameButHardware_setClocks (s : State) (l : List Die) (mhz : Nat) :
    SameButHardware s (l.foldl (fun s x => s.setClock x.num mhz) s) :=
  foldl_inv (SameButHardware s) l s (.refl s) fun t x _ h => h.trans (sameButHardware_setClock t x.num mhz)

theorem sameButHardware_returnAllocs (s : State) : SameButHardware s s.returnAllocs := ⟨rfl, rfl, rfl, rfl, rfl⟩

/-- HIBN to both neighbours of some groups (12 R276). -/
theorem sameButHardware_hibn (s : State) (l : List Group) :
    SameButHardware s (l.foldl (fun s x => (s.toPred x fHibn x.last).toSucc x fHibn x.last []) s) :=
  foldl_inv (SameButHardware s) l s (.refl s) fun _ _ _ h => h.trans ⟨rfl, rfl, rfl, rfl, rfl⟩

theorem rejoinAll_noGroups {s : State} (h : s.fabric.groups = []) : s.rejoinAll = s := by rw [State.rejoinAll, h]; rfl

/-! Releases and leases (10 R228, R238). -/

/-- With no phase open the releases of a tick touch launches alone. -/
theorem tickReleases_noPhases {s : State} (h : s.work.phases = []) :
    ∃ f, s.tickReleases = s.modWork (fun w => { w with launches := w.launches.map f }) := by
  unfold State.tickReleases
  rw [h]
  exact ⟨_, rfl⟩

/-- Two states that differ in their leases alone: the launches, and how often the driver has remapped. -/
def SameButLeases (s t : State) : Prop := ∃ n ls, t = s.modWork (fun w => { w with mapGen := n, launches := ls })

theorem sameButLeases_regrants (s : State) (l : List Nat) : SameButLeases s (l.foldl State.regrantLeases s) := by
  refine foldl_inv (SameButLeases s) l s ⟨s.work.mapGen, s.work.launches, rfl⟩ fun t ctx _ h => ?_
  obtain ⟨n, ls, rfl⟩ := h
  exact ⟨n + 1, _, rfl⟩

/-! Entries and returns (12 R265, R270, R275). -/

/-- The supply's records as a B2 begins, with its cause and the budget in force (12 R267, R270). -/
def Supply.enteringB2 (p : Supply) (cause : Nat) : Supply :=
  { p with b2 := true, b1 := false, warn := false, stage := 1, fromB1 := p.b1, cause := cause, entryBudget := p.budget, exitDue := false,
           returning := false }

/-- As a B2 begins, the stop of every unit and the message come last. -/
theorem enterB2_stops (s : State) (cause : Nat) : ∃ t, SameButHardware (s.modSupply (fun p => p.enteringB2 cause)) t ∧
    s.enterB2 cause = t.powerfailAll.supplyMsi := by
  refine ⟨_, .trans ?_ (sameButHardware_hibn _ _), rfl⟩
  exact iteInduction (fun _ => (sameButHardware_returnAllocs _).trans (sameButHardware_setClocks _ _ _)) (fun _ => .refl _)

/-- What a B2 that begins does to the supply's records and to the unit in front, and its message. -/
theorem enterB2_spec (s : State) (cause : Nat) :
    (s.enterB2 cause).supply.b2 = true ∧ (s.enterB2 cause).supply.b1 = false ∧ (s.enterB2 cause).supply.stage = 1 ∧
      (s.enterB2 cause).supply.cause = cause ∧ (s.enterB2 cause).supply.fromB1 = s.supply.b1 ∧
      (s.u.st.onStrand = true → s.u.st ≠ .ending → s.u.trap.retained = false →
        (s.enterB2 cause).u.trap.soft = s.u.trap.soft ||| 2) ∧
      (s.enterB2 cause).window.msix = s.window.msix ++ [(0, 66)] := by
  obtain ⟨t, h, hstops⟩ := enterB2_stops s cause
  have hu : t.u = s.u := h.u
  rw [hstops, supplyMsi_supply, powerfailAll_supply, h.supply, supplyMsi_msix, powerfailAll_window, h.window, ← hu]
  exact ⟨rfl, rfl, rfl, rfl, rfl, powerfailAll_soft, rfl⟩

/-- A saved unit's account of a warm resume: LAST = 2 (log 62). -/
def Saved.resumedWarm (v : Saved) : Saved := { v with own := { v.own with last := 2, inB1 := false } }

/-- The supply's records after a warm resume; one out of a sealed image voids what it drained (12 R275). -/
def Supply.resumedWarm (p : Supply) (sealed : Bool) : Supply :=
  { p with b2 := false, stage := 0, fromB1 := false, settled := false, returning := false, consume := p.consume || sealed,
           regions := if sealed then [] else p.regions }

/-- A warm resume is the dies back, the two accounts written, REJOIN, the releases that waited, and the message. -/
theorem resumeWarm_parts (s : State) (sealed : Bool) : ∃ t, SameButHardware s t ∧ s.resumeWarm sealed =
    ((t.modWork (fun w => { w with saved := w.saved.map Saved.resumedWarm })).modSupply
      (fun p => p.resumedWarm sealed)).rejoinAll.tickReleases.supplyMsi := by
  have hshed := sameButHardware_mapDies s (fun x => { x with shed := false })
  refine ⟨_, iteInduction (fun _ => ?_) (fun _ => hshed), rfl⟩
  exact foldl_inv (SameButHardware s) _ _ hshed fun t x _ h =>
    iteInduction (fun _ => h.trans (sameButHardware_setClock ..)) (fun _ => h)

/-- A warm resume of a module with no group and no phase. -/
theorem resumeWarm_quiet {s : State} (hgroups : s.fabric.groups = []) (hphases : s.work.phases = []) (sealed : Bool) :
    (s.resumeWarm sealed).supply.b2 = false ∧ (s.resumeWarm sealed).supply.stage = 0 ∧
      (s.resumeWarm sealed).work.saved = s.work.saved.map Saved.resumedWarm ∧
      (s.resumeWarm sealed).window.msix = s.window.msix ++ [(0, 66)] := by
  obtain ⟨t, h, heq⟩ := resumeWarm_parts s sealed
  let r := (t.modWork (fun w => { w with saved := w.saved.map Saved.resumedWarm })).modSupply (fun p => p.resumedWarm sealed)
  have hnone : r.rejoinAll = r := rejoinAll_noGroups (h.groups.trans hgroups)
  obtain ⟨f, hreleases⟩ := tickReleases_noPhases (s := r) ((congrArg Work.phases h.work).trans hphases)
  rw [heq, hnone, hreleases, ← h.work, ← h.window]
  exact ⟨rfl, rfl, rfl, rfl⟩

/-- What the end of a brown-out leaves of a strand: its unit's account (12 R265). -/
def Strand.afterB1 (u : Strand) : Strand := { u with own := u.own.afterB1 }

/-- The state at the end of a brown-out before the groups rejoin and the units wake (12 R265). -/
def State.endingB1 (s : State) : State :=
  (((((s.work.ctxs.map Ctx.id).foldl State.regrantLeases (s.mapDies (fun x => { x with shed := false }))).returnAllocs).modWork
    (fun w => { w with saved := w.saved.map (fun v => { v with own := v.own.afterB1 }) })).mapStrands Strand.afterB1).modSupply
    (fun p => { p with b1 := false, settled := false, exitDue := false, warn := false })

/-- The retained units of a state wake (12 R265). -/
def State.wakeRetained (s : State) : State :=
  ((s.allStrands.filter (fun u => u.trap.retained)).map Strand.place).foldl (fun s p => s.at p State.wakeUnit) s

theorem b1Exit_eq (s : State) :
    s.b1Exit = ((s.endingB1.rejoinAll.wakeRetained.stopRevoked (fun _ => true)).tickReleases).supplyMsi := rfl

/-- Of what the wake asks about, the end of a brown-out changes accounts and the supply's records only. -/
theorem endingB1_spec (s : State) : s.endingB1.strands = s.strands.map Strand.afterB1 ∧ s.endingB1.u = s.u.afterB1 ∧
    s.endingB1.fabric = s.fabric ∧ s.endingB1.window = s.window ∧ s.endingB1.work.phases = s.work.phases ∧
    s.endingB1.die.shed = false ∧
    s.endingB1.supply = { s.supply with b1 := false, settled := false, exitDue := false, warn := false } := by
  obtain ⟨n, ls, h⟩ := sameButLeases_regrants (s.mapDies (fun x => { x with shed := false })) (s.work.ctxs.map Ctx.id)
  rw [State.endingB1, h]
  exact ⟨rfl, rfl, rfl, rfl, rfl, rfl, rfl⟩

theorem wakeRetained_none {s : State} (h : ∀ u ∈ s.allStrands, u.trap.retained = false) : s.wakeRetained = s := by
  rw [State.wakeRetained, List.filter_eq_nil_iff.mpr fun u hu => by simp [h u hu]]
  rfl

/-- The end of a brown-out in which no unit has stopped, with no group and no phase. -/
theorem b1Exit_quiet {s : State} (hgroups : s.fabric.groups = []) (hphases : s.work.phases = [])
    (hret : ∀ u ∈ s.allStrands, u.trap.retained = false) :
    s.b1Exit.supply.b1 = false ∧ s.b1Exit.supply.settled = false ∧ s.b1Exit.die.shed = false ∧
      s.b1Exit.window.msix = s.window.msix ++ [(0, 66)] := by
  obtain ⟨hstrands, hu, hfabric, hwindow, hph, hshed, hsupply⟩ := endingB1_spec s
  have hwake : s.endingB1.wakeRetained = s.endingB1 := wakeRetained_none fun u hm => by
    rw [State.allStrands, hstrands, hu] at hm
    obtain ⟨v, hv, rfl⟩ := List.mem_map.mp (show u ∈ s.allStrands.map Strand.afterB1 from hm)
    exact hret v hv
  obtain ⟨f, hreleases⟩ := tickReleases_noPhases (s := s.endingB1.stopRevoked (fun _ => true)) (hph.trans hphases)
  rw [b1Exit_eq, rejoinAll_noGroups (hfabric ▸ hgroups), hwake, hreleases]
  refine ⟨congrArg Supply.b1 hsupply, congrArg Supply.settled hsupply, hshed, ?_⟩
  exact congrArg (fun w : Window => w.msix ++ [(0, 66)]) hwindow

/-! The drain (12 R271) and the boot (12 R277). -/

theorem planDrain_noCtxs {s : State} (h : s.work.ctxs = []) : s.planDrain = [] := by
  simp [State.planDrain, State.drainPlan, h, sortBy, systemPass, fitRegions, placeRegions]

/-- A drain that begins with no context has nothing to copy. -/
theorem drain_noCtxs {s : State} (hstage : s.supply.stage = 2) (h : s.work.ctxs = []) :
    s.drain = s.modSupply (fun p => { p with stage := 3, regions := [], drained := 0 }) := by
  rw [State.drain, planDrain_noCtxs h]
  simp [hstage, State.nextRegion, State.modSupply]

/-- The counters of the secure element stand (12 R274). -/
def SameCounters (s t : State) : Prop := t.secure.bootcnt = s.secure.bootcnt ∧ t.secure.c = s.secure.c

/-- Taking an image moves no counter (14 R312). -/
theorem sameCounters_takeFirmware {s t : State} (h : SameCounters s t) (component d : Nat) :
    SameCounters s (t.takeFirmware component d) := by
  unfold State.takeFirmware
  split <;> exact h

theorem sameCounters_takeAll (s : State) : SameCounters s s.takeAll :=
  foldl_inv (SameCounters s) [1, 2] _
    (foldl_inv (SameCounters s) dieNums s ⟨rfl, rfl⟩ fun _ d _ h => sameCounters_takeFirmware h 0 d)
    fun _ c _ h => sameCounters_takeFirmware h c 0

theorem bootUp_secure (s : State) : s.bootUp.secure = s.takeAll.secure.booted := rfl

/-- A boot counts in BOOTCNT and leaves C (12 R274). -/
theorem bootUp_counters (s : State) : s.bootUp.secure.bootcnt = s.secure.bootcnt + 1 ∧ s.bootUp.secure.c = s.secure.c := by
  obtain ⟨hboot, hc⟩ := sameCounters_takeAll s
  rw [bootUp_secure, Secure.booted, hboot, hc]
  exact ⟨rfl, rfl⟩

/-- SCM and host memory outlast the loss of power; all else reads as at reset (log 1). -/
theorem bootUp_byte {s : State} (h : s.mem.wf = true) (a : Nat) : s.bootUp.mem.byte a = if 2 ^ 66 ≤ a then s.mem.byte a else 0 := by
  have hkept := lookup_filter_key (fun k => decide (scmBase ≤ k)) h a
  exact hkept.trans (if_congr decide_eq_true_iff rfl rfl)

end Sys2Proof.Machine
end

section
/-! SUPPORT. What the supply's events come to where they are due (12 R261 to R265, R267, R270, R271, R274, R275, R277). -/

namespace Sys2Proof.Machine

section
variable {s : State}

theorem exec_warnEntry_fresh (hwarn : s.supply.warn = false) (hb1 : s.supply.b1 = false) (hb2 : s.supply.b2 = false) :
    exec .warnEntry s = .next (s.modSupply (fun p => { p with warn := true })).supplyMsi := by
  simp [exec_warnEntry, execWarnEntry, hwarn, hb1, hb2]

theorem exec_warnExit_warned (hwarn : s.supply.warn = true) (hb1 : s.supply.b1 = false) (hb2 : s.supply.b2 = false) :
    exec .warnExit s = .next (s.modSupply (fun p => { p with warn := false })).supplyMsi := by
  simp [exec_warnExit, execWarnExit, hwarn, hb1, hb2]

/-- The strand's account as B1 finds it (12 R265). -/
def Strand.metByB1 (u : Strand) : Strand := { u with own := { u.own with inB1 := u.st.onStrand } }

theorem exec_b1Entry_fresh (hb1 : s.supply.b1 = false) (hb2 : s.supply.b2 = false) (hpower : s.supply.powered = true) :
    exec .b1Entry s = .next (((s.mapStrands Strand.metByB1).modSupply
      (fun p => { p with b1 := true, settled := false, exitDue := false, warn := false })).powerfailAll).supplyMsi := by
  simp only [exec_b1Entry, execB1Entry, hb1, hb2, hpower]
  rfl

theorem exec_b2Entry_fresh (hb2 : s.supply.b2 = false) (hpower : s.supply.powered = true) (cause : BitVec 2) :
    exec (.b2Entry cause) s = .next (s.enterB2 cause.toNat) := by
  simp [exec_b2Entry, execB2Entry, hb2, hpower]

theorem exec_b2Entry_returning (hb2 : s.supply.b2 = true) (hpower : s.supply.powered = true) (hreturn : s.supply.returning = true)
    (cause : BitVec 2) : exec (.b2Entry cause) s =
      .next (s.modSupply (fun p => { p with returning := false, cause := cause.toNat, entryBudget := p.budget })) := by
  simp [exec_b2Entry, execB2Entry, hb2, hpower, hreturn]

theorem exec_hibreq_b1 (hb1 : s.supply.b1 = true) (hb2 : s.supply.b2 = false) : exec .hibreq s = .next (s.enterB2 3) := by
  simp [exec_hibreq, execHibreq, hb1, hb2]

/-- A park with every unit stopped and nothing to checkpoint or to flush is the record of the wear (12 R270). -/
theorem park_stopped (hreturn : s.supply.returning = false) (h : ∀ u ∈ s.allStrands, u.trap.retained = false ∧ foreignDirty u = []) :
    s.park = s.recordWear.modSupply (fun p => { p with stage := 2 }) := by
  have hret : s.allStrands.filter (fun u => u.trap.retained) = [] := List.filter_eq_nil_iff.mpr fun u hu => by simp [(h u hu).1]
  have hdirty : s.allStrands.filter (fun u => foreignDirty u ≠ []) = [] := List.filter_eq_nil_iff.mpr fun u hu => by simp [(h u hu).2]
  simp only [State.park, hret, List.map_nil, List.foldl_nil, hdirty]
  exact if_neg (by simp [State.modSupply, State.recordWear, hreturn])

theorem exec_park_due (hb2 : s.supply.b2 = true) (hstage : s.supply.stage = 1) (hstop : s.allStopped = true) :
    exec .park s = .next s.park := by
  simp [exec_park, execPark, hb2, hstage, hstop]

theorem exec_drain_first (hb2 : s.supply.b2 = true) (hstage : s.supply.stage = 2) (himage : s.imageUnused = false) :
    exec .drain s = .next s.drain := by
  simp [exec_drain, execDrain, hb2, hstage, himage]

theorem exec_seal_drained (hb2 : s.supply.b2 = true) (hstage : s.supply.stage = 3) (hnext : s.nextRegion = none) :
    exec .seal s = .next s.seal := by
  simp [exec_seal, execSeal, hb2, hstage, hnext]

theorem exec_powerOff_due (hb2 : s.supply.b2 = true) (hdue : s.supply.stage = 4 ∨ (s.supply.stage = 2 ∧ s.imageUnused = true)) :
    exec .powerOff s = .next s.openSwitch := by
  simp [exec_powerOff, execPowerOff, hb2, hdue]

theorem exec_coldBoot_off (hpower : s.supply.powered = false) : exec .coldBoot s = .next s.bootUp := by
  simp [exec_coldBoot, execColdBoot, hpower]

theorem exec_warmResume_stopping (hb2 : s.supply.b2 = true) (hstage : s.supply.stage = 1) :
    exec .warmResume s = .next (s.modSupply (fun p => { p with returning := true })) := by
  simp [exec_warmResume, execWarmResume, hb2, hstage]

theorem exec_warmResume_parked (hb2 : s.supply.b2 = true) (hstage : s.supply.stage = 2) :
    exec .warmResume s = .next (s.resumeWarm false) := by
  simp [exec_warmResume, execWarmResume, hb2, hstage]

theorem exec_b1Exit_settled (hb1 : s.supply.b1 = true) (hb2 : s.supply.b2 = false) (hsettled : s.supply.settled = true) :
    exec .b1Exit s = .next s.b1Exit := by
  simp [exec_b1Exit, execB1Exit, hb1, hb2, hsettled]

theorem exec_b1Exit_entering (hb1 : s.supply.b1 = true) (hb2 : s.supply.b2 = false) (hsettled : s.supply.settled = false) :
    exec .b1Exit s = .next (s.modSupply (fun p => { p with exitDue := true })) := by
  simp [exec_b1Exit, execB1Exit, hb1, hb2, hsettled]

/-- With no context the budget is all that a recomputation sets (12 R267). -/
theorem exec_budgetRecompute_noCtxs (h : s.work.ctxs = []) (budget : Nat) :
    exec (.budgetRecompute budget) s = .next (s.modSupply (fun p => { p with budget := budget })) := by
  have hwork : { s.work with ctxs := [] } = s.work := by rw [← h]
  simp only [exec_budgetRecompute, execBudgetRecompute, State.modWork, modSupply_work, h, List.map_nil, hwork]
  rfl

end

/-- Settles O49: each level of the supply by what its entry, its stages and its return do. -/
theorem supplyLevels : Obligations.SupplyLevels := by
  intro s cause budget
  refine ⟨?warnEntry, ?warnExit, ?b1Entry, ?b2Entry, ?b2Again, ?hibreq, ?park, ?drain, ?sealing, ?powerOff, ?coldBoot, ?returning,
    ?warmResume, ?b1Exit, ?exitDue, ?noCtxs⟩
  case warnEntry => exact fun hwarn hb1 hb2 => ⟨_, exec_warnEntry_fresh hwarn hb1 hb2, rfl, rfl, rfl, rfl⟩
  case warnExit => exact fun hwarn hb1 hb2 => ⟨_, exec_warnExit_warned hwarn hb1 hb2, rfl, rfl, rfl, rfl⟩
  case b1Entry => exact fun hb1 hb2 hpower => ⟨_, exec_b1Entry_fresh hb1 hb2 hpower, rfl, rfl,
    powerfailAll_soft (s := (s.mapStrands Strand.metByB1).modSupply _), rfl, rfl⟩
  case b2Entry => exact fun hb2 hpower => ⟨_, exec_b2Entry_fresh hb2 hpower cause, enterB2_spec s cause.toNat⟩
  case b2Again => exact fun hb2 hpower hreturn => exec_b2Entry_returning hb2 hpower hreturn cause
  case hibreq => exact fun hb1 hb2 => ⟨_, exec_hibreq_b1 hb1 hb2, enterB2_spec s 3⟩
  case park =>
    intro hb2 hstage hstop hreturn hidle
    rw [exec_park_due hb2 hstage hstop, park_stopped hreturn hidle]
    rfl
  case drain =>
    intro hb2 hstage himage hctxs
    rw [exec_drain_first hb2 hstage himage, drain_noCtxs hstage hctxs]
    exact ⟨_, rfl, rfl, rfl, rfl⟩
  case sealing =>
    exact fun hb2 hstage hnext =>
      ⟨_, exec_seal_drained hb2 hstage hnext, rfl, rfl, _, List.mem_append_right _ (List.mem_singleton_self _), rfl, rfl⟩
  case powerOff => exact exec_powerOff_due
  case coldBoot =>
    intro hpower hwf
    obtain ⟨hboot, hc⟩ := bootUp_counters s
    exact ⟨_, exec_coldBoot_off hpower, rfl, rfl, hboot, hc, rfl, rfl, bootUp_byte hwf⟩
  case returning => exact exec_warmResume_stopping
  case warmResume =>
    exact fun hb2 hstage hgroups hphases => ⟨_, exec_warmResume_parked hb2 hstage, resumeWarm_quiet hgroups hphases false⟩
  case b1Exit =>
    intro hb1 hb2 hsettled hgroups hphases hstrands hret
    exact ⟨_, exec_b1Exit_settled hb1 hb2 hsettled, b1Exit_quiet hgroups hphases (by simpa [State.allStrands, hstrands] using hret)⟩
  case exitDue => exact exec_b1Exit_entering
  case noCtxs => exact fun hctxs => exec_budgetRecompute_noCtxs hctxs budget

end Sys2Proof.Machine
end

section
/-! SUPPORT. What the scalar instructions compute (15 R321, R327, R333, R334; 16 R348; 06 R137): each value as the reference
says it, and the words of the compares. -/

namespace Sys2Proof.Machine

/-- A product cut to a word. -/
theorem ofNat_toNat_mul (a b : Word) : a * b = BitVec.ofNat 64 (a.toNat * b.toNat) := by
  apply BitVec.eq_of_toNat_eq
  simp [BitVec.toNat_mul]

/-- The high half of an unsigned product is its upper word (06 R137). -/
theorem mulHighU_eq (a b : Word) : mulHighU a b = (a.setWidth 128 * b.setWidth 128).extractLsb' 64 64 := by
  have ha := a.isLt
  have hb := b.isLt
  have hab : a.toNat * b.toNat < 2 ^ 128 := by
    calc a.toNat * b.toNat < 2 ^ 64 * 2 ^ 64 := Nat.mul_lt_mul'' ha hb
      _ = 2 ^ 128 := by norm_num
  apply BitVec.eq_of_toNat_eq
  simp only [mulHighU, BitVec.toNat_ofNat, BitVec.extractLsb'_toNat, BitVec.toNat_mul, BitVec.toNat_setWidth, Nat.shiftRight_eq_div_pow]
  rw [Nat.mod_eq_of_lt (by omega : a.toNat < 2 ^ 128), Nat.mod_eq_of_lt (by omega : b.toNat < 2 ^ 128), Nat.mod_eq_of_lt hab]

/-- A quotient by 2^64 taken of an integer and of its residue modulo 2^128 agree in their low words. -/
theorem ediv_emod_word (p : Int) : p % 2 ^ 128 / 2 ^ 64 % 2 ^ 64 = p / 2 ^ 64 % 2 ^ 64 := by omega

/-- The high half of a signed product is its upper word (06 R137). -/
theorem mulHighS_eq (a b : Word) : mulHighS a b = (a.signExtend 128 * b.signExtend 128).extractLsb' 64 64 := by
  apply BitVec.eq_of_toNat_eq
  have hprod : ((a.signExtend 128 * b.signExtend 128).toNat : Int) = a.toInt * b.toInt % 2 ^ 128 := by
    have h : a.signExtend 128 * b.signExtend 128 = BitVec.ofInt 128 (a.toInt * b.toInt) := by
      rw [BitVec.ofInt_mul]
      rfl
    rw [h, BitVec.toNat_ofInt]
    have : 0 ≤ a.toInt * b.toInt % 2 ^ 128 := Int.emod_nonneg _ (by norm_num)
    simpa using this
  have hnn : 0 ≤ a.toInt * b.toInt / 2 ^ 64 % 2 ^ 64 := Int.emod_nonneg _ (by norm_num)
  rw [mulHighS, BitVec.toNat_ofInt, BitVec.extractLsb'_toNat, Nat.shiftRight_eq_div_pow]
  zify
  rw [hprod, ediv_emod_word]
  simpa using hnn

/-- LIH keeps the low word of its register below the immediate (15 R321). -/
theorem append_low_eq (imm : BitVec 32) (d : Word) :
    imm ++ d.extractLsb' 0 32 = BitVec.ofNat 64 (imm.toNat * 2 ^ 32 + d.toNat % 2 ^ 32) := by
  have himm := imm.isLt
  have hd : d.toNat % 2 ^ 32 < 2 ^ 32 := Nat.mod_lt _ (by norm_num)
  apply BitVec.eq_of_toNat_eq
  rw [BitVec.toNat_append, BitVec.extractLsb'_toNat, BitVec.toNat_ofNat, Nat.shiftRight_zero,
    ← Nat.shiftLeft_add_eq_or_of_lt hd, Nat.shiftLeft_eq]
  omega

/-- A quotient and a remainder of words as numbers (06 R137). -/
theorem quotU_eq (a b : Word) : quotU a b = a / b := by
  apply BitVec.eq_of_toNat_eq
  rw [quotU, BitVec.toNat_ofNat, BitVec.toNat_udiv, Nat.mod_eq_of_lt ((Nat.div_le_self _ _).trans_lt a.isLt)]

theorem remUnsigned_eq (a b : Word) : remUnsigned a b = a % b := by
  apply BitVec.eq_of_toNat_eq
  rw [remUnsigned, BitVec.toNat_ofNat, BitVec.toNat_umod, Nat.mod_eq_of_lt ((Nat.mod_le _ _).trans_lt a.isLt)]

/-- The lesser and the greater operand, signed and unsigned (16 R348). -/
theorem toInt_minS (a b : Word) : (if a.sle b then a else b).toInt = min a.toInt b.toInt := by
  rw [BitVec.sle_eq_decide, min_def]
  split <;> simp_all

theorem toInt_maxS (a b : Word) : (if a.sle b then b else a).toInt = max a.toInt b.toInt := by
  rw [BitVec.sle_eq_decide, max_def]
  split <;> simp_all

theorem toNat_minU (a b : Word) : (if a.ule b then a else b).toNat = min a.toNat b.toNat := by
  rw [BitVec.ule_eq_decide, min_def]
  split <;> simp_all

theorem toNat_maxU (a b : Word) : (if a.ule b then b else a).toNat = max a.toNat b.toNat := by
  rw [BitVec.ule_eq_decide, max_def]
  split <;> simp_all

/-- The result of a compare, of a relation decided (15 R327). -/
theorem flagWord_decide (p : Prop) [Decidable p] : flagWord (decide p) = if p then 1 else 0 := by simp [flagWord]

theorem flagWord_eq (a b : Word) : flagWord (a == b) = if a = b then 1 else 0 := by simp [flagWord]

theorem flagWord_ne (a b : Word) : flagWord (a != b) = if a = b then 0 else 1 := by
  by_cases h : a = b <;> simp [flagWord, h]

/-- An immediate sign-extended has its own value. -/
theorem toInt_sext32 (imm : BitVec 32) : (sext32 imm).toInt = imm.toInt := BitVec.toInt_signExtend_of_le (by omega)

/-! Bits. -/

/-- Leading zeros of a value of w bits: those above its highest set bit (15 R321, 17 R388). -/
theorem leadZeros_spec {w x : Nat} (hx : x < 2 ^ w) : leadZeros w x ≤ w ∧
    (∀ k, k < leadZeros w x → x.testBit (w - 1 - k) = false) ∧
    (leadZeros w x < w → x.testBit (w - 1 - leadZeros w x) = true) := by
  unfold leadZeros
  split
  next h => simp [h]
  next h =>
    have hlog : Nat.log2 x < w := (Nat.log2_lt h).mpr hx
    refine ⟨Nat.sub_le _ _, fun k hk => ?_, fun _ => ?_⟩
    · exact Nat.testBit_lt_two_pow ((Nat.log2_lt h).mp (by omega))
    · have hplace : w - 1 - (w - (Nat.log2 x + 1)) = Nat.log2 x := by omega
      rw [hplace]
      exact Nat.testBit_log2 h

/-- Set bits counted (16 R348, 17 R388). -/
theorem popCount_eq (w x : Nat) : popCount w x = (List.range w).countP (fun k => x.testBit k) :=
  List.countP_eq_length_filter.symm

/-- The bits of a field mask are the lowest len + 1 (15 R321). -/
theorem getLsbD_fieldMask (len : BitVec 6) (k : Nat) : (fieldMask len).getLsbD k = decide (k ≤ len.toNat) := by
  have h := len.isLt
  rw [fieldMask, BitVec.getLsbD_ofNat, Nat.testBit_two_pow_sub_one, ← Bool.decide_and, decide_eq_decide]
  omega

/-- A field extracted, bit by bit. -/
theorem getLsbD_extractField (a : Word) (pos len : BitVec 6) (k : Nat) :
    (extractField a pos len).getLsbD k = (decide (k ≤ len.toNat) && a.getLsbD (pos.toNat + k)) := by
  rw [extractField, BitVec.getLsbD_and, BitVec.getLsbD_ushiftRight, getLsbD_fieldMask, Bool.and_comm]

/-- A field inserted, bit by bit. -/
theorem getLsbD_insertField (d a : Word) (pos len : BitVec 6) {k : Nat} (hk : k < 64) :
    (insertField d a pos len).getLsbD k =
      if pos.toNat ≤ k ∧ k ≤ pos.toNat + len.toNat then a.getLsbD (k - pos.toNat) else d.getLsbD k := by
  simp only [insertField, BitVec.getLsbD_or, BitVec.getLsbD_and, BitVec.getLsbD_not, BitVec.getLsbD_shiftLeft, getLsbD_fieldMask, hk]
  by_cases hpos : pos.toNat ≤ k
  · by_cases hlen : k ≤ pos.toNat + len.toNat
    · simp [hpos, hlen, show k - pos.toNat ≤ len.toNat by omega, show ¬ k < pos.toNat by omega]
    · simp [hlen, show ¬ k - pos.toNat ≤ len.toNat by omega]
  · simp [hpos, show k < pos.toNat by omega]

/-! From an instruction that passes to its result. -/

/-- An instruction that schedules a scalar lands its value, however that value is written. -/
theorem lands_as {s : State} {i : Instr} {slot lat : Nat} {d : BitVec 6} {v : State → Word} {w : Word}
    (hexec : exec i s = s.issue i (fun s => s.landS slot d (v s) lat)) (h : s.Passes i) (hv : v s = w) :
    exec i s = .next (s.landS slot d w lat) :=
  hv ▸ hexec.trans (issue_passes h _)

/-- A quotient is the last of the writes to land, and takes the divider until it does (02 R51, 15 R334). -/
theorem divide_spec (s : State) (d : BitVec 6) (v : Word) (zero : Bool) :
    (s.divide d v zero).core = { s.core with divUntil := s.now + 18 } ∧
    ∃ f, (s.divide d v zero).u.flights.getLast? = some f ∧ f.dest = .scalar d.toNat ∧ f.land = s.now + 18 ∧
      f.rows = [⟨v.setWidth 512, 0⟩] ∧ f.div = true ∧ f.fault = if zero then some ⟨0x10, d.toNat⟩ else none := by
  obtain ⟨c, rs, f, hf, hdest, hland, -, hrows⟩ := sched_flights s 0 (.scalar d.toNat) 18 [⟨v.setWidth 512, 0⟩] false 0 d.toNat
  refine ⟨rfl, { f with div := true, fault := if zero then some ⟨0x10, d.toNat⟩ else none }, ?_, hdest, hland, hrows, rfl, rfl⟩
  simp [State.divide, State.lastFlight, hf, cDIVZERO]

/-- Settles O1: each value by its lemma, the divisions by `divide_spec`. -/
theorem scalarArithmetic : Obligations.ScalarArithmetic := by
  unfold Obligations.ScalarArithmetic
  refine ⟨fun s d a b imm => ⟨?_, ?_, ?_, ?_, ?_⟩, fun s d a b => ⟨?_, ?_, ?_⟩, fun s d a b => ⟨?_, ?_, ?_, ?_, ?_, ?_, ?_, ?_⟩,
    fun s d a b => ⟨?_, ?_, ?_, ?_⟩, fun s d a b => ⟨?_, ?_, ?_, ?_, fun v zero => divide_spec s d v zero⟩⟩
  · exact fun h => lands_as (exec_add ..) h rfl
  · exact fun h => lands_as (exec_sub ..) h rfl
  · exact fun h => lands_as (exec_addi ..) h rfl
  · exact fun h => lands_as (exec_li ..) h rfl
  · exact fun h => lands_as (exec_lih ..) h (append_low_eq ..)
  · exact fun h => lands_as (exec_mul ..) h (ofNat_toNat_mul ..)
  · exact fun h => lands_as (exec_mulhiS ..) h (mulHighS_eq ..)
  · exact fun h => lands_as (exec_mulhiU ..) h (mulHighU_eq ..)
  · exact fun h => lands_as (exec_land ..) h rfl
  · exact fun h => lands_as (exec_lor ..) h rfl
  · exact fun h => lands_as (exec_lxor ..) h rfl
  · exact fun h => lands_as (exec_andn ..) h rfl
  · exact fun h => lands_as (exec_shl ..) h rfl
  · exact fun h => lands_as (exec_shr ..) h rfl
  · exact fun h => lands_as (exec_sar ..) h rfl
  · exact fun h => lands_as (exec_rotl ..) h rfl
  · exact fun h => ⟨_, lands_as (exec_minS ..) h rfl, toInt_minS ..⟩
  · exact fun h => ⟨_, lands_as (exec_minU ..) h rfl, toNat_minU ..⟩
  · exact fun h => ⟨_, lands_as (exec_maxS ..) h rfl, toInt_maxS ..⟩
  · exact fun h => ⟨_, lands_as (exec_maxU ..) h rfl, toNat_maxU ..⟩
  · exact fun h => (exec_divS ..).trans (issue_passes h _)
  · exact fun h => quotU_eq (s.S a) (s.S b) ▸ (exec_divU ..).trans (issue_passes h _)
  · exact fun h => (exec_remS ..).trans (issue_passes h _)
  · exact fun h => remUnsigned_eq (s.S a) (s.S b) ▸ (exec_remU ..).trans (issue_passes h _)

/-- Settles O2: each relation decided by `flagWord`, and the words by the layouts of 03 R71 and R72. -/
theorem scalarCompares : Obligations.ScalarCompares := by
  unfold Obligations.ScalarCompares
  refine ⟨fun s d a b => ⟨?_, ?_, ?_, ?_, ?_, ?_, rfl, rfl, rfl, rfl, rfl, rfl⟩,
    fun s d a imm => ⟨?_, ?_, ?_, ?_, ?_, ?_, rfl, rfl, rfl, rfl, rfl, rfl⟩⟩
  · exact fun h => lands_as (exec_cmpEq ..) h (flagWord_eq ..)
  · exact fun h => lands_as (exec_cmpNe ..) h (flagWord_ne ..)
  · exact fun h => lands_as (exec_cmpLt ..) h (flagWord_decide ((s.S a).toInt < (s.S b).toInt))
  · exact fun h => lands_as (exec_cmpLe ..) h (flagWord_decide ((s.S a).toInt ≤ (s.S b).toInt))
  · exact fun h => lands_as (exec_cmpLtu ..) h (flagWord_decide (s.S a < s.S b))
  · exact fun h => lands_as (exec_cmpLeu ..) h (flagWord_decide (s.S a ≤ s.S b))
  · exact fun h => lands_as (exec_cmpiEq ..) h (flagWord_eq ..)
  · exact fun h => lands_as (exec_cmpiNe ..) h (flagWord_ne ..)
  · exact fun h => lands_as (exec_cmpiLt ..) h (toInt_sext32 imm ▸ flagWord_decide ((s.S a).toInt < (sext32 imm).toInt))
  · exact fun h => lands_as (exec_cmpiLe ..) h (toInt_sext32 imm ▸ flagWord_decide ((s.S a).toInt ≤ (sext32 imm).toInt))
  · exact fun h => lands_as (exec_cmpiLtu ..) h (flagWord_decide (s.S a < imm.signExtend 64))
  · exact fun h => lands_as (exec_cmpiLeu ..) h (flagWord_decide (s.S a ≤ imm.signExtend 64))

/-- Settles O3: SEL by its condition, the others by the bits of their values. -/
theorem scalarBits : Obligations.ScalarBits := by
  unfold Obligations.ScalarBits
  intro s d a b c pos len
  refine ⟨fun h => lands_as (exec_sel ..) h ?sel, fun h => ⟨_, lands_as (exec_clz ..) h rfl, leadZeros_spec (s.S a).isLt⟩,
    fun h => lands_as (exec_popc ..) h (congrArg _ (popCount_eq ..)), fun h => ⟨_, lands_as (exec_bitrev ..) h rfl, fun k hk => ?bitrev⟩,
    fun h => lands_as (exec_crc32 ..) h rfl, fun h => ⟨_, lands_as (exec_extr ..) h rfl, fun k _ => getLsbD_extractField ..⟩,
    fun h => ⟨_, lands_as (exec_ins ..) h rfl, fun k hk => getLsbD_insertField _ _ _ _ hk⟩⟩
  case sel => by_cases hc : s.S c = 0 <;> simp [hc]
  case bitrev => rw [bitrev64, BitVec.getLsbD_reverse, BitVec.getMsbD, decide_eq_true hk, Bool.true_and]

end Sys2Proof.Machine
end

section
/-! SUPPORT. Transfers of control, the loop stack and the end of a bundle (02 R48, R49; 15 R324, R325, R344 to R346; 16 R365). -/

namespace Sys2Proof.Machine

/-- A taken branch or JMP names its target and pops the levels that do not hold it (15 R325). -/
theorem jump_eq (s : State) (t : Word) : s.jump t = { s with u := { s.u with
    target := some t,
    loops := s.u.loops.dropWhile (fun l => !(decide (l.start.toNat ≤ t.toNat) && decide (t.toNat ≤ l.start.toNat + l.len.toNat - 1))) } } := by
  rw [← popLevels_eq]
  rfl

/-- Settles O4: a transfer by `jump_eq`, CALL by the write that it schedules. -/
theorem controlTransfers : Obligations.ControlTransfers := by
  unfold Obligations.ControlTransfers
  refine ⟨fun s a off => ⟨fun h => ?_, fun h => ?_, fun h => ?_, fun h => ?_, fun h => ?_⟩, fun s off => ⟨fun h => ?_, fun h => ?_⟩⟩
  · rw [exec_brZ, execBrZ, issue_passes h, jump_eq]
    rfl
  · rw [exec_brNz, execBrNz, issue_passes h, jump_eq]
    rfl
  · rw [exec_brLtz, execBrLtz, issue_passes h, jump_eq]
    simp only [BitVec.slt, decide_eq_true_eq]
    rfl
  · rw [exec_brGez, execBrGez, issue_passes h, jump_eq]
    simp only [BitVec.slt, decide_eq_true_eq]
    rfl
  · rw [exec_jmp, execJmp, issue_passes h, jump_eq]
    rfl
  · exact ⟨_, (exec_call ..).trans (issue_passes h _), rfl, rfl, rfl⟩
  · exact (exec_ret ..).trans (issue_passes h _)

/-- The loop stack and the next bundle that a bundle without pops leaves: its transfer's, or by the back-edge rule at its own index (02
R49, 15 R345). -/
def Strand.following (u : Strand) : List Loop × Word :=
  match u.target with
  | some t => (u.loops, t)
  | none => ((backEdge u.pc.toNat u.loops (u.pc.toNat + 1)).1, BitVec.ofNat 64 (backEdge u.pc.toNat u.loops (u.pc.toNat + 1)).2)

/-- A strand at the end of a bundle issued in the cycle `now` (02 R48, R49, R52). -/
def Strand.finished (u : Strand) (now : Nat) : Strand :=
  { u with
    pc := u.following.2, target := none, loops := u.following.1,
    st := if u.st = .ready || u.st = .blocked then .running else u.st,
    time := { u.time with prevIssue := now, lastIssue := now, lastPc := u.pc, fresh := false },
    trap := { u.trap with first := false } }

/-- A bundle that pops no latch changes only its strand as it ends. -/
theorem finish_unpopped {s : State} (h : s.hdr.pop = 0) : s.finish = { s with u := s.u.finished s.now } := by
  have hnone : (List.range 8).filter (fun j => s.hdr.pop.testBit j) = [] := by simp [h]
  cases hu : s.u.target <;> simp only [State.finish, hnone, List.foldl_nil, Strand.finished, Strand.following, hu]

/-! Checks of an instruction of the S slot. -/

theorem firstTrap_last (e : Option Trap) : firstTrap [none, none, none, none, none, none, none, none, e] = e := by cases e <;> rfl

/-- Of an instruction of the S slot whose fields are sound, the only check that can fail is its entry's own, where no latch is popped and
CHK is 0 (03 R89). -/
theorem scalar_bundleTrap {s : State} {i : Instr} (hk : i.slotKind = some .S) (hslot : slotTrap s.u.privileged 0 i = none)
    (hpop : s.hdr.pop = 0) (hchk : s.u.regs.sr.chk = 0) : s.bundleTrap [(s.slotFor i, i)] = s.entryTrap 0 i := by
  obtain ⟨hsrc, hdst, hnamed, htags, hformat, hacc, hblock, hmatrix⟩ := scalar_uses hk s.u
  obtain ⟨hcollide, hshort⟩ := chkTraps_off hchk s.now [i]
  have hrest : ownerTrap s [i] = none ∧ latchTrap s.u [i] = none ∧ shapeTrap s.u [(0, i)] = none ∧ formatTrap s.u [(0, i)] = none ∧
      latchCause s.u s.hdr [i] = none := by
    simp [ownerTrap, latchTrap, shapeTrap, formatTrap, latchCause, touched, lowest, firstTrap, hsrc, hdst, hnamed, htags, hformat, hacc,
      hmatrix, hpop, List.range, List.range.loop]
  obtain ⟨howner, hlatch, hshape, htag, hcause⟩ := hrest
  rw [show s.slotFor i = 0 by simp [State.slotFor, hk], bundleTrap_of_slot_sound hslot, comboTrap_one hblock hpop, howner, hlatch,
    hcollide, hshort, hshape, htag, hcause]
  exact firstTrap_last _

/-- Such an instruction raises the cause of its entry before it issues. -/
theorem scalar_traps {s : State} {i : Instr} {t : Trap} (hk : i.slotKind = some .S) (hslot : slotTrap s.u.privileged 0 i = none)
    (hc : s.checked = false) (hpop : s.hdr.pop = 0) (hchk : s.u.regs.sr.chk = 0) (h : s.entryTrap 0 i = some t) :
    exec i s = .next (s.trapBefore t) :=
  exec_traps hk hc ((scalar_bundleTrap hk hslot hpop hchk).trans h)

/-! Loops. -/

theorem pushLoop_eq (s : State) (count : Word) (len : BitVec 16) : s.pushLoop count len =
    let last := s.u.pc.toNat + len.toNat
    let after := backEdge last s.u.loops (last + 1)
    if count = 0 then { s with u := { s.u with target := some (BitVec.ofNat 64 after.2), loops := after.1 } }
    else { s with u := { s.u with
      target := some (s.u.pc + 1), loops := ⟨(s.u.pc + 1).setWidth 52, len, count, 0⟩ :: s.u.loops } } := by
  unfold State.pushLoop
  split <;> rfl

/-- A body that leaves the innermost one is refused whatever its count (15 R344). -/
theorem loopTrap_outside {s : State} {top : Loop} {rest : List Loop} {len : BitVec 16} (hl : s.u.loops = top :: rest)
    (h : top.start.toNat + top.len.toNat - 1 < s.u.pc.toNat + len.toNat) (count : Word) :
    s.loopTrap count len = some ⟨0x01, 0x30⟩ := by
  simp [State.loopTrap, hl, h, cILLEGAL]

/-- A seventh level is refused (15 R344). -/
theorem loopTrap_overflow {s : State} {top : Loop} {rest : List Loop} {len : BitVec 16} {count : Word} (hl : s.u.loops = top :: rest)
    (h : s.u.pc.toNat + len.toNat ≤ top.start.toNat + top.len.toNat - 1) (hfull : s.u.loops.length = 6) (hcount : count ≠ 0) :
    s.loopTrap count len = some ⟨0x14, 0⟩ := by
  have hlen : rest.length + 1 = 6 := by simpa [hl] using hfull
  simp [State.loopTrap, hl, Nat.not_lt.mpr h, hlen, show ¬ count = 0#64 from hcount, cLOOP_OVF]

/-- Either form of LOOP traps by `loopTrap`. -/
theorem loop_traps {s : State} {i : Instr} {count : Word} {len : BitVec 16} {top : Loop} {rest : List Loop}
    (hk : i.slotKind = some .S) (hentry : s.entryTrap 0 i = s.loopTrap count len) (hpriv : privilegedOp i = false)
    (hsno : specialTrap i = none) (hc : s.checked = false) (hpop : s.hdr.pop = 0) (hchk : s.u.regs.sr.chk = 0)
    (hl : s.u.loops = top :: rest) (hwf : i.wellFormed = true) :
    (top.start.toNat + top.len.toNat - 1 < s.u.pc.toNat + len.toNat → exec i s = .next (s.trapBefore ⟨0x01, 0x30⟩)) ∧
    (s.u.pc.toNat + len.toNat ≤ top.start.toNat + top.len.toNat - 1 → s.u.loops.length = 6 → count ≠ 0 →
      exec i s = .next (s.trapBefore ⟨0x14, 0⟩)) := by
  have hslot := slotTrap_sound (priv := s.u.privileged) (n := 0) hwf (by simp [hpriv]) hsno
  exact ⟨fun h => scalar_traps hk hslot hc hpop hchk (hentry.trans (loopTrap_outside hl h count)),
    fun h hfull hcount => scalar_traps hk hslot hc hpop hchk (hentry.trans (loopTrap_overflow hl h hfull hcount))⟩

/-- Settles O5: LOOP and LOOPI by `pushLoop_eq` and `loop_traps`, the back-edge rule by its own branches, the end of a bundle by
`finish_unpopped`. -/
theorem loopStack : Obligations.LoopStack := by
  unfold Obligations.LoopStack
  refine ⟨fun s a imm len => ⟨fun h => ?_, fun h => ?_⟩, fun s a imm len top rest hc hpop hchk hl => ⟨?_, ?_⟩,
    fun p next top rest => ⟨rfl, fun h => ?_, fun h hmore => ?_, fun h hlast => ?_⟩, fun s hpop => ⟨fun h => ?_, fun t h => ?_⟩⟩
  · exact (exec_loop ..).trans ((issue_passes h _).trans (congrArg _ (pushLoop_eq ..)))
  · exact (exec_loopi ..).trans ((issue_passes h _).trans (congrArg _ (pushLoop_eq ..)))
  · exact loop_traps rfl rfl rfl rfl hc hpop hchk hl
  · exact loop_traps rfl rfl rfl rfl hc hpop hchk hl
  · exact if_neg h
  · rw [backEdge, if_pos h, if_pos hmore]
  · rw [backEdge, if_pos h, if_neg (Nat.not_lt.mpr hlast)]
  · rw [finish_unpopped hpop]
    simp only [Strand.finished, Strand.following, h, and_self]
  · rw [finish_unpopped hpop]
    simp only [Strand.finished, Strand.following, h, and_self]

/-- Settles O6: the innermost level by the effect of LBRK, its bundle's end by `finish_unpopped`, an empty stack by its entry's check. -/
theorem loopBreaks : Obligations.LoopBreaks := by
  unfold Obligations.LoopBreaks
  refine fun s => ⟨rfl, fun h top rest hl => ⟨_, ?breaks, rfl, fun hpop => ?ends⟩, fun hc hpop hchk hl => ?empty⟩
  case breaks =>
    rw [exec_lbrk, execLbrk, issue_passes h]
    simp only [hl]
    rfl
  case ends => rw [finish_unpopped (by exact hpop)]; exact ⟨rfl, rfl⟩
  case empty => exact scalar_traps rfl (slotTrap_sound rfl nofun rfl) hc hpop hchk (if_pos hl)

end Sys2Proof.Machine
end

section
/-! SUPPORT. The special and extent registers (05 R121; 15 R338; 16 R356, R367, R369). -/

namespace Sys2Proof.Machine

theorem clampPeriod_toNat (v : Word) : (clampPeriod v).toNat = max 256 (min 65536 v.toNat) := by
  rw [clampPeriod, BitVec.toNat_ofNat]
  omega

/-- The two halves of SLACK's immediate (16 R369). -/
theorem slack_halves (imm : BitVec 32) :
    imm.toNat / 65536 = (imm.extractLsb' 16 16).toNat ∧ imm.toNat % 65536 = (imm.extractLsb' 0 16).toNat := by
  have h := imm.isLt
  simp only [BitVec.extractLsb'_toNat, Nat.shiftRight_eq_div_pow]
  omega

/-- Settles O7: the moves by their effects, the values kept by the branches of `writeSr`. -/
theorem specialRegisters : Obligations.SpecialRegisters := by
  unfold Obligations.SpecialRegisters
  refine ⟨fun s d a n imm => ⟨fun h => ?_, fun h hn => ?mtsr, fun h => ?flush, fun h => ?slack, fun h => ?_, fun h => ?_⟩,
    fun u v => ⟨clampPeriod_toNat v, rfl, rfl, rfl, ?prom, ?ashape, rfl, rfl, rfl, rfl, rfl, rfl⟩⟩
  · exact (exec_mfsr ..).trans (issue_passes h _)
  case mtsr => rw [exec_mtsr, execMtsr, issue_passes h, if_neg hn]
  case flush => rw [exec_mtsr, execMtsr, issue_passes h, if_pos rfl]
  case slack =>
    obtain ⟨hm, hcs⟩ := slack_halves imm
    rw [exec_slack, execSlack, issue_passes h, hm, hcs]
    rfl
  · exact (exec_setx ..).trans (issue_passes h _)
  · exact (exec_getx ..).trans (issue_passes h _)
  case prom =>
    change (if 4 < v.toNat then 4 else v).toNat = min 4 v.toNat
    split
    next h => exact (Nat.min_eq_left h.le).symm
    next h => exact (Nat.min_eq_right (Nat.not_lt.mp h)).symm
  case ashape =>
    change (if v &&& 15 = 0 then u else u.modSr (fun r => { r with ashape := v &&& 15 })).regs.sr.ashape = _
    split <;> rfl

end Sys2Proof.Machine
end

section
/-! SUPPORT. TRAP, the return from a handler, END and RFT (11 R245, R251, R254, R255; 15 R335; 16 R378). -/

namespace Sys2Proof.Machine

/-- The parked writes land again relative to the cycle r, before those issued since (11 R255). -/
theorem reinjected_land (q now : List Flight) (r : Nat) :
    (reinjected q now r).map Flight.land = q.map (fun f => r + f.land) ++ now.map Flight.land := by
  have hq : (reinject q r).map Flight.land = q.map (fun f => r + f.land) := by
    apply List.ext_getElem <;> simp [reinject]
  simp [reinjected, hq]

/-- TRAP 0 in a handler returns (11 R251). -/
theorem exec_trap_returns {s : State} (h : s.Passes (.trap 0)) (hin : s.u.trap.inHandler = true) :
    exec (.trap 0) s = .next s.finish.handlerReturn := by
  rw [exec_trap, execTrap, issue_passes h]
  simp [hin]

/-- With no fault pending a return re-injects the parked queue for the cycle after it (11 R251, R255). -/
theorem handlerReturn_quiet {s : State} (h : s.u.trap.pend = none) : s.handlerReturn =
    ({ s with u := { s.u with
      pc := s.u.trap.ridx, target := none, loops := s.u.trap.parkedLoops,
      trap := { s.u.trap with inHandler := false, first := false, parkedLoops := [], pend := none, ifq := [], odd := [] } } } :
      State).reinjectAt (s.u.trap.ifq ++ s.u.trap.odd) (s.now + 1) s.u.trap.lastiss := by
  simp only [State.handlerReturn, h]

/-- Ending a bundle leaves the unit of the strand as it is (01 R21). -/
theorem finish_unit (s : State) : s.finish.u.who = s.u.who ∧ s.finish.u.own = s.u.own := by
  have hpop : ∀ l : List Nat, (l.foldl State.popLatch s).u.who = s.u.who ∧ (l.foldl State.popLatch s).u.own = s.u.own := fun l =>
    foldl_inv (fun t : State => t.u.who = s.u.who ∧ t.u.own = s.u.own) l s ⟨rfl, rfl⟩ fun t j _ h => by
      unfold State.popLatch
      dsimp only
      split
      · exact h
      · split <;> exact h
  exact hpop _

/-- The end of a unit (01 R21): it is ENDING, nothing is still to land, no latch is bound and none of its requests waits. -/
theorem endUnit_spec (s : State) (abandoned : Bool) :
    let t := s.endUnit abandoned
    t.u.st = .ending ∧ t.u.own.abandoned = (s.u.own.abandoned || abandoned) ∧ t.u.flights = [] ∧ t.u.regs.q = [] ∧
      ∀ x ∈ t.waiters, x.who ≠ s.u.who := by
  obtain ⟨n, hu⟩ := writeBlocks_u s s.u.who
  have hown : ((s.writeBlocks s.u.who).withdraw).u.own.abandoned = s.u.own.abandoned := by rw [withdraw_u, hu]; rfl
  refine ⟨rfl, congrArg (· || abandoned) hown, rfl, rfl, fun x hx => ?_⟩
  simpa using (List.mem_filter.mp hx).2

/-- Where no strand beside the one in front holds a member of a launch, no member of its groups stands elsewhere. -/
theorem groupStrands_elsewhere {s : State} {launch : Nat}
    (h : ∀ u ∈ s.strands, u.st.onStrand = true → u.who.launch ≠ launch) (d nbh : Nat) :
    (s.groupStrands d launch nbh).filter (fun u => decide (u.place ≠ s.u.place)) = [] := by
  simp only [List.filter_eq_nil_iff, decide_eq_true_eq, not_not]
  intro u hu
  obtain ⟨hmem, hin⟩ := List.mem_filter.mp hu
  rcases List.mem_cons.mp hmem with rfl | hmem
  · rfl
  · have := h u hmem
    simp_all

/-- The one unit saved, alone in its group, is resumed in place of the unit in front where it fits (11 R254). -/
theorem resumeWith_over {s : State} {sv : Saved} (hsaved : s.work.saved = [sv])
    (hcore : s.core.at s.u.place = true) (hcluster : s.u.place.cluster < 3) (hd : s.die.num = s.u.place.die)
    (hdie : sv.die = s.u.place.die) (hm : s.mayResume sv = true)
    (hl : ∀ u ∈ s.strands, u.st.onStrand = true → u.who.launch ≠ sv.who.launch) (hfit : s.memberFits (.saved sv) s.core = true)
    {pc : Word} (hseat : Seated sv.who s.u.place pc (s.takeUp sv)) :
    ∃ t, s.resumeWith sv s.u.place = some t ∧ Seated sv.who s.u.place pc t := by
  have hlink := hseat.linkPeers sv.die sv.who.launch sv.own.nbh
  refine ⟨((s.takeUp sv).linkPeers sv.die sv.who.launch sv.own.nbh).finishResume, ?_, hlink.finishResume⟩
  have hx : (s.takeUp sv).dieAt sv.die = some (s.takeUp sv).die := by
    rw [hdie, ← hseat.die]
    exact dieAt_front _
  simp only [State.resumeWith, groupStrands_elsewhere hl, focus_front hcore hd, hfit, resumeTeams_single hsaved hm,
    at_front, groupPlans_single, Option.bind_some, List.findSome?_cons, pinned_single hcluster, placeTeams_nobody hx]
  simp [hdie, State.groupResumed, Member.who, atUnit_front (hdie ▸ hlink).holds]

theorem exec_rft_resumes {s t : State} {sv : Saved} (h : s.Passes .rft) (hsaved : s.work.saved = [sv])
    (harea : sv.area = areaOf s.u.regs.pr.savebase) (ht : s.finish.resumeWith sv s.finish.u.place = some t) :
    exec .rft s = .next t := by
  change execRft s = _
  have hsv : s.savedAt (areaOf s.u.regs.pr.savebase) = sv := by simp [State.savedAt, hsaved, harea]
  rw [execRft, issue_passes h]
  simp only [hsv, ht]

/-- Settles O10: TRAP and the return by `handlerReturn_quiet`, END by `endUnit_spec`, RFT by `resumeWith_over`. -/
theorem trapsAndReturns : Obligations.TrapsAndReturns := by
  unfold Obligations.TrapsAndReturns
  refine ⟨fun s imm h hret => ?trap, fun s h hin hpend hpop => ?returns, fun s h => ?ends, ?rft, fun s hc hpriv hpop hchk hv => ?invalid⟩
  case trap =>
    rw [exec_trap, execTrap, issue_passes h]
    have : (imm = 0 && s.u.trap.inHandler) = false := by simpa using fun h0 => Bool.eq_false_iff.mpr fun hin => hret ⟨h0, hin⟩
    simp only [this]
    rfl
  case returns =>
    rw [exec_trap_returns h hin, finish_unpopped hpop, handlerReturn_quiet (by exact hpend)]
    exact ⟨_, rfl, rfl, rfl, rfl, rfl, reinjected_land .., rfl⟩
  case ends =>
    obtain ⟨hwho, hown⟩ := finish_unit s
    obtain ⟨hst, hab, hfl, hq, hw⟩ := endUnit_spec s.finish false
    exact ⟨_, (exec_endUnit s).trans (issue_passes h _), hst, by rw [hab, hown, Bool.or_false], hfl, hq, hwho ▸ hw⟩
  case rft =>
    intro s sv h hpop hsaved harea hctx hcore hcluster hd hdie hm hfit hcause hl hg hpend
    have hfin := finish_unpopped hpop
    have hseat := takeUp_seated (s := s.finish) (sv := sv) (by rw [hfin]; exact hg) (by rw [hfin]; exact hctx)
      (by rw [hfin]; exact hpend) (by rw [hfin]; simp [hsaved]) (by rw [hfin]; exact hd) hcause
    obtain ⟨t, ht, hseat⟩ := resumeWith_over (s := s.finish) (by rw [hfin]; exact hsaved) (by rw [hfin]; exact hcore)
      (by rw [hfin]; exact hcluster) (by rw [hfin]; exact hd) (by rw [hfin]; exact hdie) (by rw [hfin]; exact hm)
      (by rw [hfin]; exact hl) (by rw [hfin]; exact hfit) hseat
    refine ⟨t, exec_rft_resumes h hsaved harea ht, hseat.who, hseat.st, hseat.privileged, hseat.pc.trans ?_, hseat.saved⟩
    rw [hfin]
  case invalid =>
    exact scalar_traps rfl (slotTrap_sound rfl (fun _ => hpriv) rfl) hc hpop hchk
      (if_neg (by rw [hv]; exact Bool.false_ne_true))

end Sys2Proof.Machine
end

section
/-! SUPPORT. Vector instructions lane by lane (17 R380): from an instruction that passes to the rows that it lands, and the fields
that a well-formed one leaves zero (03 R76). -/

namespace Sys2Proof.Machine

/-! From an instruction that passes to its rows. -/

theorem vec1_gives {s : State} {i : Instr} {f : VR} {lat t : Nat} {g : Nat → Flagged}
    (hexec : exec i s = s.issue i (fun s => s.vec1 i f lat t g)) (h : s.Passes i) :
    ∃ rows fl, exec i s = .next (s.landV (s.slotFor i) f.d.toNat lat rows fl) ∧
      RowsAre rows fl f.cnt.toNat t (tagBytes f.fmt.toNat) (fun j k => g (elem (tagBytes f.fmt.toNat) (s.u.srcRow f.a j).data k)) := by
  obtain ⟨rows, fl, hland, hrows⟩ := vec1_spec s i f lat t g
  exact ⟨rows, fl, (hexec.trans (issue_passes h _)).trans (congrArg _ hland), hrows⟩

theorem vec2_gives {s : State} {i : Instr} {f : VR} {lat t : Nat} {g : Nat → Nat → Flagged}
    (hexec : exec i s = s.issue i (fun s => s.vec2 i f lat t g)) (h : s.Passes i) :
    ∃ rows fl, exec i s = .next (s.landV (s.slotFor i) f.d.toNat lat rows fl) ∧
      RowsAre rows fl f.cnt.toNat t (tagBytes f.fmt.toNat) (fun j k =>
        g (elem (tagBytes f.fmt.toNat) (s.u.srcRow f.a j).data k) (elem (tagBytes f.fmt.toNat) (s.u.srcRow f.b j).data k)) := by
  obtain ⟨rows, fl, hland, hrows⟩ := vec2_spec s i f lat t g
  exact ⟨rows, fl, (hexec.trans (issue_passes h _)).trans (congrArg _ hland), hrows⟩

theorem vec3_gives {s : State} {i : Instr} {f : VR} {lat t : Nat} {g : Nat → Nat → Nat → Flagged}
    (hexec : exec i s = s.issue i (fun s => s.vec3 i f lat t g)) (h : s.Passes i) :
    ∃ rows fl, exec i s = .next (s.landV (s.slotFor i) f.d.toNat lat rows fl) ∧
      RowsAre rows fl f.cnt.toNat t (tagBytes f.fmt.toNat) (fun j k =>
        g (elem (tagBytes f.fmt.toNat) (s.u.srcRow f.a j).data k) (elem (tagBytes f.fmt.toNat) (s.u.srcRow f.b j).data k)
          (elem (tagBytes f.fmt.toNat) (s.u.srcRow f.c j).data k)) := by
  obtain ⟨rows, fl, hland, hrows⟩ := vec3_spec s i f lat t g
  exact ⟨rows, fl, (hexec.trans (issue_passes h _)).trans (congrArg _ hland), hrows⟩

/-- Rows are what they are in lanes written in another way. -/
theorem RowsAre.of_lanes {rows : List VReg} {fl : List Nat} {cnt t e : Nat} {lane lane' : Nat → Nat → Flagged}
    (h : RowsAre rows fl cnt t e lane) (heq : ∀ j k, lane j k = lane' j k) : RowsAre rows fl cnt t e lane' := by
  rwa [show lane' = lane from funext fun j => funext fun k => (heq j k).symm]

/-- Rows of which no lane raises a flag land with none. -/
theorem RowsAre.flagless {rows : List VReg} {fl : List Nat} {cnt t e : Nat} {lane : Nat → Nat → Flagged}
    (h : RowsAre rows fl cnt t e lane) (hplain : ∀ j k, (lane j k).flags = 0) : fl = rows.map (fun _ => 0) := by
  obtain ⟨hrows, hfl, -, hbits⟩ := h
  refine List.ext_getElem (by simp [hrows, hfl]) fun j hj _ => ?_
  rw [List.getElem_map]
  refine Nat.eq_of_testBit_eq fun b => ?_
  have := hbits j fl[j] b (List.getElem?_eq_getElem hj)
  simpa [hplain] using this

/-! The fields of a V.R instruction (03 R76). -/

/-- A well-formed V.R instruction leaves zero the fields that its opcode does not use. -/
theorem vr_unused {c : VR → Instr} {f : VR} {u : VRUse} (hclean : (c f).clean = c (f.clean u)) (hrange : (c f).inRange = f.inRange u)
    (hinj : c (f.clean u) = c f → f.clean u = f) (h : (c f).wellFormed = true) :
    (u.b = false → f.b = 0) ∧ (u.c = false → f.c = 0) ∧ (u.rnd = false → f.rnd = 0) ∧ (u.sat = false → f.sat = 0) ∧
      f.sat.toNat ≤ 1 ∧ (u.fmts = [] ∨ f.fmt ∈ u.fmts) := by
  rw [Instr.wellFormed, hclean, hrange, Bool.and_eq_true, decide_eq_true_eq] at h
  obtain ⟨hc, hr⟩ := h
  have hzero := hinj hc
  simp only [VR.inRange, Bool.and_eq_true, Bool.or_eq_true, decide_eq_true_eq, List.contains_iff_mem] at hr
  refine ⟨fun hu => ?_, fun hu => ?_, fun hu => ?_, fun hu => ?_, hr.1.2, hr.2⟩
  · rw [← hzero]; simp [VR.clean, hu]
  · rw [← hzero]; simp [VR.clean, hu]
  · rw [← hzero]; simp [VR.clean, hu]
  · rw [← hzero]; simp [VR.clean, hu]

/-- The integer formats are those from 4 to 7 (05 R108). -/
theorem tagsInt_bounds {fmt : BitVec 4} (h : tagsInt = [] ∨ fmt ∈ tagsInt) : 4 ≤ fmt.toNat ∧ fmt.toNat ≤ 7 := by
  simp only [tagsInt, reduceCtorEq, List.mem_cons, List.not_mem_nil, or_false, false_or] at h
  rcases h with rfl | rfl | rfl | rfl <;> decide

end Sys2Proof.Machine
end

section
/-! SUPPORT. The floating-point vector instructions and the compares (17 R381, R382, R389, R395, R401). -/

namespace Sys2Proof.Machine

/-- Settles O13: one rounded result a lane, by `vec2_gives` and `vec3_gives`. -/
theorem vectorFloatingArithmetic : Obligations.VectorFloatingArithmetic := by
  unfold Obligations.VectorFloatingArithmetic
  exact fun s f => ⟨fun h => (vec2_gives (exec_vadd f s) h :), fun h => (vec2_gives (exec_vsub f s) h :),
    fun h => (vec2_gives (exec_vmul f s) h :), fun h => (vec2_gives (exec_vdiv f s) h :), fun h => (vec2_gives (exec_vmin f s) h :),
    fun h => (vec2_gives (exec_vmax f s) h :), fun h => (vec3_gives (exec_vfma f s) h :), fun h => (vec3_gives (exec_vfms f s) h :)⟩

/-- The rows that a range lands, one by one. -/
theorem landRows_rows (s : State) (i : Instr) (d : BitVec 11) (cnt : BitVec 4) (lat : Nat) (row : Nat → RowOut) :
    ∃ rows fl, s.landRows i d cnt lat row = s.landV (s.slotFor i) d.toNat lat rows fl ∧ rows.length = cnt.toNat + 1 ∧
      ∀ j r, rows[j]? = some r → r = (row j).row := by
  refine ⟨_, _, rfl, by simp, fun j r hr => ?_⟩
  rw [List.map_map] at hr
  exact (eq_of_getElem?_map_range hr).symm

/-- VSCAL's rows, each in its own format (17 R401). -/
theorem vscal_gives {s : State} {g : VS} (h : s.Passes (.vscal g)) :
    ∃ rows fl, exec (.vscal g) s = .next (s.landV (s.slotFor (.vscal g)) g.d.toNat 4 rows fl) ∧ rows.length = g.cnt.toNat + 1 ∧
      ∀ j v, rows[j]? = some v → v = (lanes1 (s.u.srcRow g.a j).tag (s.u.srcRow g.a j).tag
        (fun x => fpScale (s.u.srcRow g.a j).tag g.rnd.toNat (s.S g.s).toInt (readFp (s.u.srcRow g.a j).tag x)) (s.u.srcRow g.a j)).row := by
  obtain ⟨rows, fl, hland, hlen, hrow⟩ := landRows_rows s (.vscal g) g.d g.cnt 4 (fun j =>
    lanes1 (s.u.srcRow g.a j).tag (s.u.srcRow g.a j).tag
      (fun x => fpScale (s.u.srcRow g.a j).tag g.rnd.toNat (s.S g.s).toInt (readFp (s.u.srcRow g.a j).tag x)) (s.u.srcRow g.a j))
  exact ⟨rows, fl, ((exec_vscal ..).trans (issue_passes h _)).trans (congrArg _ hland), hlen, hrow⟩

/-- A lane of a row formed from one source row. -/
theorem elem_lanes1 (f t : Nat) (g : Nat → Flagged) (a : VReg) {k : Nat} (hk : k < 64 / tagBytes f) :
    elem (tagBytes f) (lanes1 f t g a).row.data k = (g (elem (tagBytes f) a.data k)).val % 2 ^ (8 * tagBytes f) :=
  (laneRow_spec f t _ (fun k => g (elem (tagBytes f) a.data k)) (fun k hk => by simp [getElem?_elems _ _ hk])
    (by simp [length_elems])).2.1 k hk

/-- Settles O14: the lanes by `vec1_gives` and `vec2_gives`, VSCAL by `vscal_gives`. -/
theorem vectorFloatingUnary : Obligations.VectorFloatingUnary := by
  unfold Obligations.VectorFloatingUnary
  refine fun s f g => ⟨fun h => (vec1_gives (exec_vabs f s) h :), fun h => (vec1_gives (exec_vneg f s) h :),
    fun h => (vec2_gives (exec_vcpsgn f s) h :), fun h => (vec1_gives (exec_vrnd f s) h :), fun h => (vec1_gives (exec_vsqrt f s) h :),
    fun h => (vec1_gives (exec_vrcp f s) h :), fun h => (vec1_gives (exec_vrsq f s) h :), fun h => (vec1_gives (exec_vexp2 f s) h :),
    fun h => (vec1_gives (exec_vlog2 f s) h :), fun h => (vec1_gives (exec_vtanh f s) h :), fun h => ?_⟩
  obtain ⟨rows, fl, hexec, hlen, hrow⟩ := vscal_gives h
  refine ⟨rows, fl, hexec, hlen, fun j v hv => ?_⟩
  rw [hrow j v hv]
  exact ⟨rfl, fun k hk => elem_lanes1 _ _ _ _ hk⟩

/-! The compares. -/

/-- The tag of a compare's masks is the integer format of the lanes' width (17 R389). -/
theorem maskTag_eq (f : Nat) : maskTag f = if tagBytes f = 4 then 4 else if tagBytes f = 2 then 5 else 6 := by
  rcases tagBytes_cases f with h | h | h <;> simp [maskTag, h]

/-- A compare uses only its two sources, its count and its format (17 R389). -/
theorem compare_unused (c : VR → Instr) {f : VR} (fmts : Tags) (hne : fmts ≠ [])
    (hclean : (c f).clean = c (f.clean ⟨true, false, false, false, fmts⟩))
    (hrange : (c f).inRange = f.inRange ⟨true, false, false, false, fmts⟩)
    (hinj : c (f.clean ⟨true, false, false, false, fmts⟩) = c f → f.clean ⟨true, false, false, false, fmts⟩ = f)
    (h : (c f).wellFormed = true) : f.rnd = 0 ∧ f.sat = 0 ∧ f.c = 0 ∧ f.fmt ∈ fmts := by
  obtain ⟨-, hc, hrnd, hsat, -, hfmt⟩ := vr_unused hclean hrange hinj h
  exact ⟨hrnd rfl, hsat rfl, hc rfl, hfmt.resolve_left hne⟩

/-- Settles O15: the lanes by `vec2_gives`, the tag by `maskTag_eq`, the fields by `compare_unused`. -/
theorem vectorCompares : Obligations.VectorCompares := by
  unfold Obligations.VectorCompares
  intro s f
  simp only [← maskTag_eq]
  refine ⟨⟨⟨rfl, compare_unused .vcmpEq tagsFp nofun rfl rfl Instr.vcmpEq.inj⟩, fun h => (vec2_gives (exec_vcmpEq f s) h :)⟩,
    ⟨⟨rfl, compare_unused .vcmpNe tagsFp nofun rfl rfl Instr.vcmpNe.inj⟩, fun h => (vec2_gives (exec_vcmpNe f s) h :)⟩,
    ⟨⟨rfl, compare_unused .vcmpLt tagsFp nofun rfl rfl Instr.vcmpLt.inj⟩, fun h => (vec2_gives (exec_vcmpLt f s) h :)⟩,
    ⟨⟨rfl, compare_unused .vcmpLe tagsFp nofun rfl rfl Instr.vcmpLe.inj⟩, fun h => (vec2_gives (exec_vcmpLe f s) h :)⟩,
    ⟨⟨rfl, compare_unused .vcmpGt tagsFp nofun rfl rfl Instr.vcmpGt.inj⟩, fun h => (vec2_gives (exec_vcmpGt f s) h :)⟩,
    ⟨⟨rfl, compare_unused .vcmpGe tagsFp nofun rfl rfl Instr.vcmpGe.inj⟩, fun h => (vec2_gives (exec_vcmpGe f s) h :)⟩,
    ⟨⟨rfl, compare_unused .vicmpEq tagsInt nofun rfl rfl Instr.vicmpEq.inj⟩, fun h => (vec2_gives (exec_vicmpEq f s) h :)⟩,
    ⟨⟨rfl, compare_unused .vicmpNe tagsInt nofun rfl rfl Instr.vicmpNe.inj⟩, fun h => (vec2_gives (exec_vicmpNe f s) h :)⟩,
    ⟨⟨rfl, compare_unused .vicmpLt tagsInt nofun rfl rfl Instr.vicmpLt.inj⟩, fun h => (vec2_gives (exec_vicmpLt f s) h :)⟩,
    ⟨⟨rfl, compare_unused .vicmpLe tagsInt nofun rfl rfl Instr.vicmpLe.inj⟩, fun h => (vec2_gives (exec_vicmpLe f s) h :)⟩,
    ⟨⟨rfl, compare_unused .vicmpLtu tagsInt nofun rfl rfl Instr.vicmpLtu.inj⟩, fun h => (vec2_gives (exec_vicmpLtu f s) h :)⟩,
    ⟨⟨rfl, compare_unused .vicmpLeu tagsInt nofun rfl rfl Instr.vicmpLeu.inj⟩, fun h => (vec2_gives (exec_vicmpLeu f s) h :)⟩⟩

end Sys2Proof.Machine
end

section
/-! SUPPORT. The vector integer arithmetic and the shifts (17 R384, R388). -/

namespace Sys2Proof.Machine

/-- A result without flags, of two sources. -/
theorem vec2_plain {s : State} {i : Instr} {f : VR} {lat t : Nat} {g : Nat → Nat → Nat}
    (hexec : exec i s = s.issue i (fun s => s.vec2 i f lat t (fun x y => plain (g x y)))) (h : s.Passes i) :
    ∃ rows, exec i s = .next (s.landV (s.slotFor i) f.d.toNat lat rows (rows.map (fun _ => 0))) ∧
      RowsAre rows (rows.map (fun _ => 0)) f.cnt.toNat t (tagBytes f.fmt.toNat) (fun j k =>
        plain (g (elem (tagBytes f.fmt.toNat) (s.u.srcRow f.a j).data k) (elem (tagBytes f.fmt.toNat) (s.u.srcRow f.b j).data k))) := by
  obtain ⟨rows, fl, hland, hrows⟩ := vec2_gives hexec h
  obtain rfl := hrows.flagless fun _ _ => rfl
  exact ⟨rows, hland, hrows⟩

theorem vec1_plain {s : State} {i : Instr} {f : VR} {lat t : Nat} {g : Nat → Nat}
    (hexec : exec i s = s.issue i (fun s => s.vec1 i f lat t (fun x => plain (g x)))) (h : s.Passes i) :
    ∃ rows, exec i s = .next (s.landV (s.slotFor i) f.d.toNat lat rows (rows.map (fun _ => 0))) ∧
      RowsAre rows (rows.map (fun _ => 0)) f.cnt.toNat t (tagBytes f.fmt.toNat) (fun j k =>
        plain (g (elem (tagBytes f.fmt.toNat) (s.u.srcRow f.a j).data k))) := by
  obtain ⟨rows, fl, hland, hrows⟩ := vec1_gives hexec h
  obtain rfl := hrows.flagless fun _ _ => rfl
  exact ⟨rows, hland, hrows⟩

theorem vec3_plain {s : State} {i : Instr} {f : VR} {lat t : Nat} {g : Nat → Nat → Nat → Nat}
    (hexec : exec i s = s.issue i (fun s => s.vec3 i f lat t (fun x y z => plain (g x y z)))) (h : s.Passes i) :
    ∃ rows, exec i s = .next (s.landV (s.slotFor i) f.d.toNat lat rows (rows.map (fun _ => 0))) ∧
      RowsAre rows (rows.map (fun _ => 0)) f.cnt.toNat t (tagBytes f.fmt.toNat) (fun j k =>
        plain (g (elem (tagBytes f.fmt.toNat) (s.u.srcRow f.a j).data k) (elem (tagBytes f.fmt.toNat) (s.u.srcRow f.b j).data k)
          (elem (tagBytes f.fmt.toNat) (s.u.srcRow f.c j).data k))) := by
  obtain ⟨rows, fl, hland, hrows⟩ := vec3_gives hexec h
  obtain rfl := hrows.flagless fun _ _ => rfl
  exact ⟨rows, hland, hrows⟩

/-- The tag and the lanes of a row that lands without flags. -/
theorem RowsAre.row {rows : List VReg} {fl : List Nat} {cnt t e j : Nat} {v : Nat → Nat → Nat} {r : VReg}
    (h : RowsAre rows fl cnt t e (fun j k => plain (v j k))) (hr : rows[j]? = some r) :
    r.tag = t ∧ ∀ k, k < 64 / e → elem e r.data k = v j k % 2 ^ (8 * e) :=
  h.2.2.1 j r hr

/-! Integer arithmetic. -/

/-- An element read in a format lies in the format's range (05 R108, 06 R136). -/
theorem readInt_bounds (m x : Nat) : intLo m ≤ readInt m x ∧ readInt m x ≤ intHi m := by
  by_cases hm : m = 4 ∨ m = 5 ∨ m = 6
  · rcases hm with rfl | rfl | rfl
    all_goals
      simp only [readInt, isSignedInt, signedAt, intLo, intHi, tagBytes]
      simp
      omega
  · have hs : isSignedInt m = false := by simpa [isSignedInt, not_or, and_assoc] using hm
    have hr : intLo m = 0 ∧ intHi m = 255 := by
      simp only [not_or] at hm
      obtain ⟨h4, h5, h6⟩ := hm
      exact ⟨by unfold intLo; split <;> simp_all, by unfold intHi; split <;> simp_all⟩
    rw [hr.1, hr.2, readInt, hs]
    simp
    omega

/-- The one wrap or clamp of an integer result, as the rule writes it (06 R136). -/
theorem fitInt_eq (m : Nat) (sat : BitVec 2) (n : Int) :
    fitInt m sat.toNat n = truncInt (8 * tagBytes m) (if sat = 1 then max (intLo m) (min (intHi m) n) else n) := by
  have : sat.toNat = 1 ↔ sat = 1 := by rw [← BitVec.toNat_inj]; rfl
  simp only [fitInt, clampInt, this]

/-- A value within the range of the format is only cut to its lane. -/
theorem fitInt_of_bounds {m : Nat} {n : Int} (h : intLo m ≤ n ∧ n ≤ intHi m) (sat : Nat) :
    fitInt m sat n = truncInt (8 * tagBytes m) n := by
  have : clampInt m n = n := by unfold clampInt; omega
  simp only [fitInt, this, ite_self]

/-- The fields of an instruction of the integer formats. -/
theorem integer_unused (c : VR → Instr) {f : VR} (useB useC useRnd useSat : Bool)
    (hclean : (c f).clean = c (f.clean ⟨useB, useC, useRnd, useSat, tagsInt⟩))
    (hrange : (c f).inRange = f.inRange ⟨useB, useC, useRnd, useSat, tagsInt⟩)
    (hinj : c (f.clean ⟨useB, useC, useRnd, useSat, tagsInt⟩) = c f → f.clean ⟨useB, useC, useRnd, useSat, tagsInt⟩ = f)
    (h : (c f).wellFormed = true) :
    (useB = false → f.b = 0) ∧ (useC = false → f.c = 0) ∧ (useRnd = false → f.rnd = 0) ∧ (useSat = false → f.sat = 0) ∧
      f.sat.toNat ≤ 1 ∧ 4 ≤ f.fmt.toNat ∧ f.fmt.toNat ≤ 7 := by
  obtain ⟨hb, hc, hrnd, hsat, hsat1, hfmt⟩ := vr_unused hclean hrange hinj h
  exact ⟨hb, hc, hrnd, hsat, hsat1, tagsInt_bounds hfmt⟩

/-- The integer arithmetic uses b and sat, and each opcode c or rnd or neither (17 R384). -/
theorem arithmetic_unused (c : VR → Instr) {f : VR} (useC useRnd : Bool)
    (hclean : (c f).clean = c (f.clean ⟨true, useC, useRnd, true, tagsInt⟩))
    (hrange : (c f).inRange = f.inRange ⟨true, useC, useRnd, true, tagsInt⟩)
    (hinj : c (f.clean ⟨true, useC, useRnd, true, tagsInt⟩) = c f → f.clean ⟨true, useC, useRnd, true, tagsInt⟩ = f)
    (h : (c f).wellFormed = true) :
    (useRnd = false → f.rnd = 0) ∧ (useC = false → f.c = 0) ∧ f.sat.toNat ≤ 1 ∧ 4 ≤ f.fmt.toNat ∧ f.fmt.toNat ≤ 7 := by
  obtain ⟨-, hc, hrnd, -, hfmt⟩ := integer_unused c true useC useRnd true hclean hrange hinj h
  exact ⟨hrnd, hc, hfmt⟩

/-- Settles O16: the lanes by `vec2_plain` and `vec3_plain`, the wrap or clamp by `fitInt_eq`, extremes by `readInt_bounds`. -/
theorem vectorIntegers : Obligations.VectorIntegers := by
  unfold Obligations.VectorIntegers
  intro s f m e x y z is gives fit
  have hfit : fit = fitInt m f.sat.toNat := funext fun n => (fitInt_eq m f.sat n).symm
  clear_value fit
  subst hfit
  refine ⟨⟨⟨rfl, arithmetic_unused .viadd false false rfl rfl Instr.viadd.inj⟩, fun h => (vec2_plain (exec_viadd f s) h :)⟩,
    ⟨⟨rfl, arithmetic_unused .visub false false rfl rfl Instr.visub.inj⟩, fun h => (vec2_plain (exec_visub f s) h :)⟩,
    ⟨⟨rfl, arithmetic_unused .vimul false false rfl rfl Instr.vimul.inj⟩, fun h => (vec2_plain (exec_vimul f s) h :)⟩,
    ⟨⟨rfl, arithmetic_unused .vimad true false rfl rfl Instr.vimad.inj⟩, fun h => (vec3_plain (exec_vimad f s) h :)⟩,
    ⟨⟨rfl, arithmetic_unused .vimin false false rfl rfl Instr.vimin.inj⟩, fun h => ?vimin⟩,
    ⟨⟨rfl, arithmetic_unused .vimax false false rfl rfl Instr.vimax.inj⟩, fun h => ?vimax⟩,
    ⟨⟨rfl, arithmetic_unused .vavg false true rfl rfl Instr.vavg.inj⟩, fun h => (vec2_plain (exec_vavg f s) h :)⟩⟩
  case vimin =>
    obtain ⟨rows, hland, hrows⟩ := vec2_plain (exec_vimin f s) h
    refine ⟨rows, hland, hrows.of_lanes fun j k => congrArg plain (fitInt_of_bounds ?_ _)⟩
    have hx := readInt_bounds f.fmt.toNat (elem (tagBytes f.fmt.toNat) (s.u.srcRow f.a j).data k)
    have hy := readInt_bounds f.fmt.toNat (elem (tagBytes f.fmt.toNat) (s.u.srcRow f.b j).data k)
    exact ⟨le_min hx.1 hy.1, (min_le_left ..).trans hx.2⟩
  case vimax =>
    obtain ⟨rows, hland, hrows⟩ := vec2_plain (exec_vimax f s) h
    refine ⟨rows, hland, hrows.of_lanes fun j k => congrArg plain (fitInt_of_bounds ?_ _)⟩
    have hx := readInt_bounds f.fmt.toNat (elem (tagBytes f.fmt.toNat) (s.u.srcRow f.a j).data k)
    have hy := readInt_bounds f.fmt.toNat (elem (tagBytes f.fmt.toNat) (s.u.srcRow f.b j).data k)
    exact ⟨hx.1.trans (le_max_left ..), max_le hx.2 hy.2⟩

/-! Shifts. -/

/-- VSHL's element, bit by bit (17 R388). -/
theorem testBit_shl {w b : Nat} (x y : Nat) (hb : b < w) :
    ((if w ≤ y then 0 else x * 2 ^ y % 2 ^ w) % 2 ^ w).testBit b = (decide (y ≤ b) && x.testBit (b - y)) := by
  split
  next h => simp [show ¬ y ≤ b by omega]
  next h => simp [Nat.testBit_mod_two_pow, Nat.testBit_mul_two_pow, hb]

/-- VSHR's element: zeros in from above (17 R388). -/
theorem testBit_shr {w b x : Nat} (hx : x < 2 ^ w) (y : Nat) (hb : b < w) :
    ((if w ≤ y then 0 else x / 2 ^ y) % 2 ^ w).testBit b = (decide (b + y < w) && x.testBit (b + y)) := by
  have hhigh (h : w ≤ b + y) : x.testBit (b + y) = false := Nat.testBit_lt_two_pow (hx.trans_le (Nat.pow_le_pow_right (by decide) h))
  split
  next h => simp [show ¬ b + y < w by omega]
  next h =>
    simp only [Nat.testBit_mod_two_pow, Nat.testBit_div_two_pow, hb, decide_true, Bool.true_and]
    by_cases hlow : b + y < w
    · simp [hlow]
    · simp [hlow, hhigh (by omega)]

/-- An element read as a signed integer is the bit vector's own reading. -/
theorem signedAt_eq {w : Nat} (hw : 0 < w) (x : Nat) : signedAt w x = (BitVec.ofNat w x).toInt := by
  have hp : 2 ^ w = 2 * 2 ^ (w - 1) := by rw [← pow_succ']; congr 1; omega
  rw [signedAt, BitVec.toInt_eq_toNat_cond, BitVec.toNat_ofNat]
  generalize x % 2 ^ w = n
  split
  next h => rw [if_pos (by omega)]
  next h => rw [if_neg (by omega)]

/-- VSAR's element is the arithmetic shift of the bit vector. -/
theorem sarNat_eq {w : Nat} (hw : 0 < w) (x y : Nat) : sarNat w x y = ((BitVec.ofNat w x).sshiftRight (min y w)).toNat := by
  rw [sarNat, truncInt, signedAt_eq hw, BitVec.sshiftRight, BitVec.toNat_ofInt, Int.shiftRight_eq_div_pow]
  rfl

/-- VSAR's element: copies of the top bit in from above (17 R388). -/
theorem testBit_sar {w b x : Nat} (y : Nat) (hb : b < w) :
    (sarNat w x y % 2 ^ w).testBit b = x.testBit (min (b + y) (w - 1)) := by
  rw [sarNat_eq (by omega), Nat.mod_eq_of_lt (BitVec.isLt _), ← BitVec.getLsbD, BitVec.getLsbD_sshiftRight]
  have hmsb : (BitVec.ofNat w x).msb = x.testBit (w - 1) := by
    rw [BitVec.msb_eq_getLsbD_last, BitVec.getLsbD_ofNat]
    simp [show w - 1 < w by omega]
  rw [hmsb, BitVec.getLsbD_ofNat]
  by_cases h : b + y < w
  · simp [hb, show min y w = y by omega, show y + b < w by omega, show min (b + y) (w - 1) = y + b by omega]
  · simp [hb, show ¬ min y w + b < w by omega, show min (b + y) (w - 1) = w - 1 by omega]

/-- The shifts and counts use no rounding, no saturation and no third source (17 R388). -/
theorem shift_unused (c : VR → Instr) {f : VR} (useB : Bool)
    (hclean : (c f).clean = c (f.clean ⟨useB, false, false, false, tagsInt⟩))
    (hrange : (c f).inRange = f.inRange ⟨useB, false, false, false, tagsInt⟩)
    (hinj : c (f.clean ⟨useB, false, false, false, tagsInt⟩) = c f → f.clean ⟨useB, false, false, false, tagsInt⟩ = f)
    (h : (c f).wellFormed = true) :
    f.rnd = 0 ∧ f.sat = 0 ∧ f.c = 0 ∧ (useB = false → f.b = 0) ∧ 4 ≤ f.fmt.toNat ∧ f.fmt.toNat ≤ 7 := by
  obtain ⟨hb, hc, hrnd, hsat, -, hfmt⟩ := integer_unused c useB false false false hclean hrange hinj h
  exact ⟨hrnd rfl, hsat rfl, hc rfl, hb, hfmt⟩

/-- Settles O17: the shifts bit by bit, the counts by `leadZeros_spec` and `popCount_eq`. -/
theorem vectorShifts : Obligations.VectorShifts := by
  unfold Obligations.VectorShifts
  intro s f
  refine ⟨⟨⟨rfl, shift_unused .vshl true rfl rfl Instr.vshl.inj⟩, fun h => ?shl⟩,
    ⟨⟨rfl, shift_unused .vshr true rfl rfl Instr.vshr.inj⟩, fun h => ?shr⟩,
    ⟨⟨rfl, shift_unused .vsar true rfl rfl Instr.vsar.inj⟩, fun h => ?sar⟩,
    ⟨⟨rfl, shift_unused .vclz false rfl rfl Instr.vclz.inj⟩, fun h => ?clz⟩,
    ⟨⟨rfl, shift_unused .vpopc false rfl rfl Instr.vpopc.inj⟩, fun h => ?popc⟩⟩
  case shl =>
    obtain ⟨rows, hland, hrows⟩ := vec2_plain (exec_vshl f s) h
    refine ⟨rows, hland, hrows.1, fun j r hr => (hrows.row hr).imp_right fun hlane k hk b hb => ?_⟩
    rw [hlane k hk, testBit_shl _ _ hb]
  case shr =>
    obtain ⟨rows, hland, hrows⟩ := vec2_plain (exec_vshr f s) h
    refine ⟨rows, hland, hrows.1, fun j r hr => (hrows.row hr).imp_right fun hlane k hk b hb => ?_⟩
    rw [hlane k hk, testBit_shr (elem_lt ..) _ hb]
  case sar =>
    obtain ⟨rows, hland, hrows⟩ := vec2_plain (exec_vsar f s) h
    refine ⟨rows, hland, hrows.1, fun j r hr => (hrows.row hr).imp_right fun hlane k hk b hb => ?_⟩
    rw [hlane k hk, testBit_sar _ hb]
  case clz =>
    obtain ⟨rows, hland, hrows⟩ := vec1_plain (exec_vclz f s) h
    refine ⟨rows, hland, hrows.1, fun j r hr => (hrows.row hr).imp_right fun hlane k hk => ?_⟩
    have hspec := leadZeros_spec (elem_lt (tagBytes f.fmt.toNat) (s.u.srcRow f.a j).data k)
    rw [hlane k hk, Nat.mod_eq_of_lt (hspec.1.trans_lt Nat.lt_two_pow_self)]
    exact hspec
  case popc =>
    obtain ⟨rows, hland, hrows⟩ := vec1_plain (exec_vpopc f s) h
    refine ⟨rows, hland, hrows.1, fun j r hr => (hrows.row hr).imp_right fun hlane k hk => ?_⟩
    rw [hlane k hk, popCount_eq, Nat.mod_eq_of_lt]
    exact (List.countP_le_length.trans_eq List.length_range).trans_lt Nat.lt_two_pow_self

end Sys2Proof.Machine
end

section
/-! SUPPORT. The logical instructions, selection and the reductions (16 R374; 17 R383, R387, R400). -/

namespace Sys2Proof.Machine

/-- A row of listed lanes, the rest of them zero. -/
theorem laneRow_padded (f t : Nat) {xs : List Flagged} {lane : Nat → Flagged}
    (h : ∀ k, k < 64 / tagBytes f → xs.getD k ⟨0, 0⟩ = lane k) (hn : xs.length ≤ 64 / tagBytes f) :
    (laneRow f t xs).row.tag = t ∧
    (∀ k, k < 64 / tagBytes f → elem (tagBytes f) (laneRow f t xs).row.data k = (lane k).val % 2 ^ (8 * tagBytes f)) ∧
    (∀ b, (laneRow f t xs).flags.testBit b = true ↔ ∃ k, k < 64 / tagBytes f ∧ (lane k).flags.testBit b = true) := by
  refine ⟨rfl, fun k hk => ?_, fun b => ?_⟩
  · rw [laneRow, elem_ofElems (tagBytes_cases f) _ hk, ← h k hk]
    congr 1
    simp only [List.getD_eq_getElem?_getD, List.getElem?_map]
    cases xs[k]? <;> rfl
  · simp only [laneRow, testBit_foldl_or, Nat.zero_testBit, Bool.false_eq_true, false_or]
    constructor
    · rintro ⟨x, hx, hb⟩
      obtain ⟨k, hk, rfl⟩ := List.getElem_of_mem hx
      exact ⟨k, by omega, by rwa [← h k (by omega), List.getD_eq_getElem _ _ hk]⟩
    · rintro ⟨k, hk64, hb⟩
      rw [← h k hk64] at hb
      by_cases hk : k < xs.length
      · rw [List.getD_eq_getElem _ _ hk] at hb
        exact ⟨_, List.getElem_mem hk, hb⟩
      · rw [List.getD_eq_default _ _ (Nat.not_lt.mp hk)] at hb
        simp at hb

/-- A row reduction: its tree in lane 0, zeros in the others (17 R400). -/
theorem reduceRows_gives {s : State} {i : Instr} {f : VR} {g : Nat → Nat → Flagged}
    (hexec : exec i s = s.issue i (fun s => s.reduceRows i f g)) (h : s.Passes i) :
    ∃ rows fl, exec i s = .next (s.landV (s.slotFor i) f.d.toNat 6 rows fl) ∧
      RowsAre rows fl f.cnt.toNat f.fmt.toNat (tagBytes f.fmt.toNat) (fun j k =>
        if k = 0 then treeReduce g 6 (elems (tagBytes f.fmt.toNat) (s.u.srcRow f.a j).data) else ⟨0, 0⟩) := by
  obtain ⟨rows, fl, hland, hrows⟩ := landRows_spec s i f.d f.cnt 6 f.fmt.toNat (tagBytes f.fmt.toNat)
    (fun j => laneRow f.fmt.toNat f.fmt.toNat [treeReduce g 6 (elems (tagBytes f.fmt.toNat) (s.u.srcRow f.a j).data)])
    (fun j k => if k = 0 then treeReduce g 6 (elems (tagBytes f.fmt.toNat) (s.u.srcRow f.a j).data) else ⟨0, 0⟩)
    fun j _ => laneRow_padded _ _ (fun k _ => by cases k <;> rfl)
      (by rcases tagBytes_cases f.fmt.toNat with he | he | he <;> simp [he])
  exact ⟨rows, fl, (hexec.trans (issue_passes h _)).trans (congrArg _ hland), hrows⟩

/-- Rows combined one after another are combined lane by lane. -/
theorem getElem?_foldl_zipWith {α β : Type} (h : α → β → α) (rows : Nat → List β) (val : Nat → β) {k : Nat}
    (hrow : ∀ j, (rows j)[k]? = some (val j)) (js : List Nat) :
    ∀ (acc : List α) (a : α), acc[k]? = some a →
      (js.foldl (fun acc j => List.zipWith h acc (rows j)) acc)[k]? = some (js.foldl (fun a j => h a (val j)) a) := by
  induction js with
  | nil => exact fun acc a ha => ha
  | cons j js ih => exact fun acc a ha => ih _ _ (by simp [List.getElem?_zipWith, ha, hrow])

/-- A column reduction: lane by lane, down the rows (16 R374). -/
theorem reduceColumns_gives {s : State} {i : Instr} {f : VR} {g : Nat → Nat → Flagged}
    (hexec : exec i s = s.issue i (fun s => s.reduceColumns i f g)) (h : s.Passes i) :
    ∃ rows fl, exec i s = .next (s.landV (s.slotFor i) f.d.toNat 6 rows fl) ∧
      RowsAre rows fl 0 f.fmt.toNat (tagBytes f.fmt.toNat) (fun _ k => (List.range f.cnt.toNat).foldl (fun (acc : Flagged) j =>
        ⟨(g acc.val (elem (tagBytes f.fmt.toNat) (s.u.srcRow f.a (j + 1)).data k)).val,
          acc.flags ||| (g acc.val (elem (tagBytes f.fmt.toNat) (s.u.srcRow f.a (j + 1)).data k)).flags⟩)
        (quieted f.fmt.toNat (elem (tagBytes f.fmt.toNat) (s.u.srcRow f.a 0).data k))) := by
  let e := tagBytes f.fmt.toNat
  let step := fun (x : Flagged) (y : Nat) => (⟨(g x.val y).val, x.flags ||| (g x.val y).flags⟩ : Flagged)
  let out := (List.range f.cnt.toNat).foldl (fun acc j => List.zipWith step acc (elems e (s.u.srcRow f.a (j + 1)).data))
    ((elems e (s.u.srcRow f.a 0).data).map (quieted f.fmt.toNat))
  have hlen : out.length ≤ 64 / e := foldl_inv (fun l : List Flagged => l.length ≤ 64 / e) _ _ (by simp [length_elems])
    fun l j _ hl => by simp [length_elems, hl]
  have hlane (k : Nat) (hk : k < 64 / e) := getElem?_foldl_zipWith step (fun j => elems e (s.u.srcRow f.a (j + 1)).data)
    (fun j => elem e (s.u.srcRow f.a (j + 1)).data k) (fun j => getElem?_elems e _ hk) (List.range f.cnt.toNat)
    ((elems e (s.u.srcRow f.a 0).data).map (quieted f.fmt.toNat)) (quieted f.fmt.toNat (elem e (s.u.srcRow f.a 0).data k))
    (by simp [getElem?_elems e _ hk])
  obtain ⟨rows, fl, hland, hrows⟩ := landRows_spec s i f.d 0 6 f.fmt.toNat e (fun _ => laneRow f.fmt.toNat f.fmt.toNat out) _
    fun _ _ => laneRow_spec f.fmt.toNat f.fmt.toNat out _ hlane hlen
  exact ⟨rows, fl, (hexec.trans (issue_passes h _)).trans (congrArg _ hland), hrows⟩

/-- Settles O18: the lanes by `vec2_gives` and `vec3_gives`, the reductions by `reduceRows_gives` and `reduceColumns_gives`. -/
theorem vectorBitsAndReductions : Obligations.VectorBitsAndReductions := by
  unfold Obligations.VectorBitsAndReductions
  refine ⟨fun s f => ⟨fun h => (vec2_gives (exec_vand f s) h :), fun h => (vec2_gives (exec_vor f s) h :),
    fun h => (vec2_gives (exec_vxor f s) h :), fun h => ?sel, fun h => (vec3_gives (exec_vclamp f s) h :)⟩,
    fun s f => ⟨fun h => (reduceRows_gives (exec_vrsum f s) h :), fun h => (reduceRows_gives (exec_vrmax f s) h :),
      fun h => (reduceRows_gives (exec_vrmin f s) h :), fun h => (reduceColumns_gives (exec_tcsum f s) h :),
      fun h => (reduceColumns_gives (exec_tcmax f s) h :)⟩⟩
  case sel =>
    obtain ⟨rows, fl, hland, hrows⟩ := vec3_gives (exec_vsel f s) h
    exact ⟨rows, fl, hland, hrows.of_lanes fun j k => congrArg plain (ite_not ..)⟩

end Sys2Proof.Machine
end

section
/-! SUPPORT. Rows byte by byte: those built of bytes, the bytes of a row, and a row shifted by bytes (05 R107; 17 R385, R386, R391,
R398, R399). -/

namespace Sys2Proof.Machine

/-! Bytes of numbers and rows. -/

theorem length_natBytes (n x : Nat) : (natBytes n x).length = n := by
  induction n generalizing x with
  | zero => rfl
  | succ n ih => simp [natBytes, ih]

/-- Byte i of a number (00 R10). -/
theorem getD_natBytes {n i : Nat} (hi : i < n) (x : Nat) : ((natBytes n x).getD i 0).toNat = x / 2 ^ (8 * i) % 256 := by
  induction n generalizing i x with
  | zero => omega
  | succ n ih =>
    cases i with
    | zero => simp [natBytes]
    | succ i =>
      rw [natBytes, List.getD_cons_succ, ih (by omega), Nat.div_div_eq_div_mul, show 8 * (i + 1) = 8 + 8 * i by omega, pow_add]
      norm_num

theorem bytesRow_eq_ofElems (bs : List Byte) : bytesRow bs = ofElems 1 (bs.map BitVec.toNat) := by
  have h : ∀ bs : List Byte, bytesNat bs = (bs.map BitVec.toNat).foldr (fun x acc => x % 2 ^ (8 * 1) + 2 ^ (8 * 1) * acc) 0 := by
    intro bs
    induction bs with
    | nil => rfl
    | cons b bs ih =>
      have hb := b.isLt
      simp only [bytesNat, ih, List.map_cons, List.foldr_cons]
      omega
  rw [bytesRow, h, ofElems]

/-- Byte k of a row built of bytes. -/
theorem elem_bytesRow (bs : List Byte) {k : Nat} (hk : k < 64) : elem 1 (bytesRow bs) k = (bs.getD k 0).toNat := by
  rw [bytesRow_eq_ofElems, elem_ofElems (by simp) _ (by omega)]
  simp only [List.getD_eq_getElem?_getD, List.getElem?_map]
  cases bs[k]? with
  | none => rfl
  | some b => exact Nat.mod_eq_of_lt b.isLt

theorem elem_byte (r : Row) (k : Nat) : elem 1 r k = r.toNat / 2 ^ (8 * k) % 256 := by
  simp [elem, bitsAt, Nat.shiftRight_eq_div_pow]

/-- Byte k of a row that repeats a pattern (17 R386). -/
theorem elem_fillRow {bs : List Byte} (hne : bs ≠ []) {k : Nat} (hk : k < 64) :
    elem 1 (fillRow bs) k = (bs.getD (k % bs.length) 0).toNat := by
  have hlen : max 1 bs.length = bs.length := Nat.max_eq_right (List.length_pos_iff.mpr hne)
  rw [fillRow, elem_bytesRow _ hk, repeatTo, hlen]
  simp [List.getD_eq_getElem?_getD, hk]

/-- Bits of a byte of a row. -/
theorem testBit_elem_byte (r : Row) (k b : Nat) : (elem 1 r k).testBit b = (decide (b < 8) && r.getLsbD (8 * k + b)) := by
  rw [elem, bitsAt, Nat.testBit_mod_two_pow, Nat.testBit_shiftRight, BitVec.getLsbD, Nat.mul_one]

/-- A row moved down by n bytes, zeros in from above (17 R398). -/
theorem elem_shiftRight (r : Row) (n : Nat) {k : Nat} : elem 1 (r >>> (8 * n)) k = if k + n < 64 then elem 1 r (k + n) else 0 := by
  refine Nat.eq_of_testBit_eq fun b => ?_
  have hat : 8 * n + (8 * k + b) = 8 * (k + n) + b := by omega
  rw [testBit_elem_byte, BitVec.getLsbD_ushiftRight, hat]
  split
  next => rw [testBit_elem_byte]
  next h => rw [BitVec.getLsbD_of_ge _ _ (by omega), Bool.and_false, Nat.zero_testBit]

/-- A row moved up by n bytes, zeros in from below (17 R398). -/
theorem elem_shiftLeft (r : Row) (n : Nat) {k : Nat} (hk : k < 64) :
    elem 1 (r <<< (8 * n)) k = if n ≤ k then elem 1 r (k - n) else 0 := by
  refine Nat.eq_of_testBit_eq fun b => ?_
  rw [testBit_elem_byte, BitVec.getLsbD_shiftLeft]
  by_cases hb : b < 8
  · split
    next h =>
      rw [testBit_elem_byte, show 8 * k + b - 8 * n = 8 * (k - n) + b by omega]
      simp [hb, show 8 * k + b < 512 by omega, show ¬ 8 * k + b < 8 * n by omega]
    next h => simp [show 8 * k + b < 8 * n by omega]
  · split
    next h => simp [testBit_elem_byte, hb]
    next h => simp [hb]

/-! The moves. -/

/-- Rows that land without flags, one by one. -/
theorem rows_give {s : State} {i : Instr} {d : BitVec 11} {cnt : BitVec 4} {lat : Nat} {row : State → Nat → VReg} {P : Nat → VReg → Prop}
    (hexec : exec i s = s.issue i (fun s => s.landRows i d cnt lat (fun j => ⟨row s j, 0⟩))) (h : s.Passes i)
    (hrow : ∀ j, P j (row s j)) : ∃ rows, exec i s = .next (s.landV (s.slotFor i) d.toNat lat rows (rows.map (fun _ => 0))) ∧
      rows.length = cnt.toNat + 1 ∧ ∀ j r, rows[j]? = some r → P j r := by
  refine ⟨(List.range (cnt.toNat + 1)).map (row s), hexec.trans ((issue_passes h _).trans ?_), by simp, fun j r hr => ?_⟩
  · simp [State.landRows, Function.comp_def]
  · exact eq_of_getElem?_map_range hr ▸ hrow j

/-- A row built lane by lane of elements of rows holds them. -/
theorem elem_ofElems_range {e : Nat} (he : e = 1 ∨ e = 2 ∨ e = 4) (v : Nat → Nat) (hv : ∀ k, v k < 2 ^ (8 * e)) {k : Nat}
    (hk : k < 64 / e) : elem e (ofElems e ((List.range (64 / e)).map v)) k = v k := by
  rw [elem_ofElems he _ hk]
  simp [List.getD_eq_getElem?_getD, hk, Nat.mod_eq_of_lt (hv k)]

theorem fillWidth_bounds (t : Nat) : 0 < fillWidth t ∧ fillWidth t ≤ 8 := by
  unfold fillWidth
  split
  next => rcases tagBytes_cases t with h | h | h <;> simp [h]
  next => simp

/-- The row of VFILL, byte by byte (17 R386). -/
theorem elem_fill (v : Word) (t : Nat) {k : Nat} (hk : k < 64) :
    elem 1 (fillRow ((wordBytes v).take (fillWidth t))) k = v.toNat / 2 ^ (8 * (k % fillWidth t)) % 256 := by
  obtain ⟨hpos, hle⟩ := fillWidth_bounds t
  have hlen : ((wordBytes v).take (fillWidth t)).length = fillWidth t := by simp [wordBytes, length_natBytes, hle]
  have hlt := Nat.mod_lt k hpos
  rw [elem_fillRow (List.length_pos_iff.mp (by omega)) hk, hlen, List.getD_eq_getElem?_getD, List.getElem?_take_of_lt hlt,
    ← List.getD_eq_getElem?_getD]
  exact getD_natBytes (hlt.trans_le hle) _

/-- The row of VBCS, byte by byte (17 R386). -/
theorem elem_broadcast (r : Row) {p w : Nat} (hw : 0 < w) (hfit : (p + 1) * w ≤ 64) {k : Nat} (hk : k < 64) :
    elem 1 (fillRow (((rowBytes r).drop (p * w)).take w)) k = elem 1 r (p * w + k % w) := by
  have hsum : p * w + w ≤ 64 := by rwa [← Nat.succ_mul]
  have hlen : (((rowBytes r).drop (p * w)).take w).length = w := by
    simp only [rowBytes, List.length_take, List.length_drop, length_natBytes]
    omega
  have hlt := Nat.mod_lt k hw
  rw [elem_fillRow (List.length_pos_iff.mp (by omega)) hk, hlen, List.getD_eq_getElem?_getD, List.getElem?_take_of_lt hlt,
    List.getElem?_drop, ← List.getD_eq_getElem?_getD, elem_byte]
  exact getD_natBytes (by omega) _

/-- Settles O19: each row byte by byte or lane by lane. -/
theorem vectorMoves : Obligations.VectorMoves := by
  unfold Obligations.VectorMoves
  intro s f g
  refine ⟨fun h => rows_give (exec_vmov f s) h fun j => rfl, fun h => rows_give (exec_vperm f s) h fun j => ⟨rfl, fun k hk => ?perm⟩,
    fun h => rows_give (exec_vzip f s) h fun j => ⟨rfl, fun k hk => ?zip⟩,
    fun h => rows_give (exec_vunz f s) h fun j => ⟨rfl, fun k hk => ?unz⟩, fun h => rows_give (exec_vcrc f s) h fun j => rfl,
    fun h => rows_give (exec_vfill g s) h fun j => ⟨rfl, fun k hk => elem_fill _ _ hk⟩,
    fun h hfit => rows_give (exec_vbcs g s) h fun j => ⟨rfl, fun k hk => elem_broadcast _ (by positivity) hfit hk⟩,
    fun h => rows_give (exec_vsld g s) h fun j => ⟨rfl, fun k hk => ?sld⟩⟩
  case perm =>
    rw [elem_ofElems (by simp) _ (by omega)]
    simp only [List.getD_eq_getElem?_getD, List.getElem?_map, getElem?_elems 1 _ (show k < 64 / 1 by omega), Option.map_some,
      Option.getD_some]
    refine Nat.mod_eq_of_lt ?_
    split
    · decide
    · exact elem_lt ..
  case zip =>
    rw [elem_ofElems_range (tagBytes_cases _) _ (fun k => by split <;> exact elem_lt ..) hk]
    exact (apply_ite (fun r => elem _ r _) ..).symm
  case unz => exact elem_ofElems_range (tagBytes_cases _) _ (fun k => by split <;> exact elem_lt ..) hk
  case sld =>
    dsimp only
    split
    next => exact elem_shiftRight ..
    next => exact elem_shiftLeft _ _ hk

end Sys2Proof.Machine
end

section
/-! SUPPORT. Conversions, quantisation and compression of rows (17 R390, R392 to R394). -/

namespace Sys2Proof.Machine

/-- A V.R instruction of latency lat whose rows are listed lanes, the rest of them zero. -/
theorem padded_gives {s : State} {i : Instr} {f : VR} {lat : Nat} {xs : State → Nat → List Flagged} {lane : Nat → Nat → Flagged}
    (hexec : exec i s = s.issue i (fun s => s.landRows i f.d f.cnt lat (fun j => laneRow f.fmt.toNat f.fmt.toNat (xs s j))))
    (h : s.Passes i) (hlane : ∀ j k, k < 64 / tagBytes f.fmt.toNat → (xs s j).getD k ⟨0, 0⟩ = lane j k)
    (hlen : ∀ j, (xs s j).length ≤ 64 / tagBytes f.fmt.toNat) :
    ∃ rows fl, exec i s = .next (s.landV (s.slotFor i) f.d.toNat lat rows fl) ∧
      RowsAre rows fl f.cnt.toNat f.fmt.toNat (tagBytes f.fmt.toNat) lane := by
  obtain ⟨rows, fl, hland, hrows⟩ := landRows_spec s i f.d f.cnt lat f.fmt.toNat (tagBytes f.fmt.toNat) _ lane
    fun j _ => laneRow_padded f.fmt.toNat f.fmt.toNat (hlane j) (hlen j)
  exact ⟨rows, fl, (hexec.trans (issue_passes h _)).trans (congrArg _ hland), hrows⟩

/-- The values of a list cut to the lanes of a format, and mapped. -/
theorem getD_map_take {α : Type} (g : α → Flagged) (vs : List α) {k n : Nat} (hk : k < n) :
    ((vs.take n).map g).getD k ⟨0, 0⟩ = (vs[k]?.map g).getD ⟨0, 0⟩ := by
  rw [List.getD_eq_getElem?_getD, List.getElem?_map, List.getElem?_take_of_lt hk]

/-- The elements of a row, converted, as far as both formats have lanes (17 R392). -/
theorem getD_converted (g : Nat → Flagged) (e e' : Nat) (r : Row) {k : Nat} (hk : k < 64 / e') :
    (((elems e r).take (min (64 / e) (64 / e'))).map g).getD k ⟨0, 0⟩ = if k < 64 / e then g (elem e r k) else ⟨0, 0⟩ := by
  split
  next h => rw [getD_map_take _ _ (lt_min h hk), getElem?_elems e r h, Option.map_some, Option.getD_some]
  next h => exact List.getD_eq_default _ _ (by simp [length_elems]; omega)

theorem overtake_rows (c : Nat) (rs : List Nat) (f : Flight) : (f.overtake c rs).rows = f.rows :=
  (congrArg Flight.rows (unmarked_overtake c rs f) :)

/-- A change of the write scheduled last, by what is to land. -/
theorem lastFlight_flights {s : State} {l : List Flight} {f : Flight} (h : s.u.flights = l ++ [f]) (g : Flight → Flight) :
    (s.lastFlight g).u.flights = l ++ [g f] := by
  simp only [State.lastFlight, State.modU, h, List.dropLast_concat, List.length_append, List.length_singleton, Nat.add_sub_cancel,
    List.drop_left, List.map_cons, List.map_nil]

/-- The write of a range is the last to land, with its destination, cycle and rows (02 R51). -/
theorem landV_flights (s : State) (slot d lat : Nat) (rows : List VReg) (fl : List Nat) :
    ∃ c rs f, (s.landV slot d lat rows fl).u.flights = s.u.flights.map (Flight.overtake c rs) ++ [f] ∧
      f.dest = .vector d ∧ f.land = s.now + lat ∧ f.rows = rows := by
  obtain ⟨c, rs, f, hf, hdest, hland, -, hrows⟩ := sched_flights s slot (.vector d) lat rows false (orAll fl) d
  exact ⟨c, rs, _, lastFlight_flights hf _, hdest, hland, hrows⟩

/-- Two writes of a range, one behind the other, are the last two writes to land. -/
theorem landV_landV_flights (s : State) (slot lat d b : Nat) (rows masks : List VReg) (fl fl' : List Nat) :
    ∃ pre g h, ((s.landV slot d lat rows fl).landV slot b lat masks fl').u.flights = pre ++ [g, h] ∧
      g.dest = .vector d ∧ h.dest = .vector b ∧ g.land = s.now + lat ∧ h.land = s.now + lat ∧ g.rows = rows ∧ h.rows = masks := by
  obtain ⟨c, rs, g, hfirst, hgd, hgl, hgr⟩ := landV_flights s slot d lat rows fl
  obtain ⟨c', rs', h, hsecond, hhd, hhl, hhr⟩ := landV_flights (s.landV slot d lat rows fl) slot b lat masks fl'
  refine ⟨(s.u.flights.map (Flight.overtake c rs)).map (Flight.overtake c' rs'), g.overtake c' rs', h, ?_,
    (overtake_dest ..).trans hgd, hhd, (overtake_land ..).trans hgl, hhl, (overtake_rows ..).trans hgr, hhr⟩
  rw [hsecond, hfirst, List.map_append, List.append_assoc]
  rfl

/-- VCMPR's rows of kept values and of masks are its last two writes, the masks marked as the pair of the values (17 R390). -/
theorem exec_vcmpr_passes {s : State} {f : VR} (h : s.Passes (.vcmpr f)) : exec (.vcmpr f) s =
    let out := (List.range (f.cnt.toNat + 1)).map (fun j =>
      compressRow f.fmt.toNat (s.u.rowb (f.a.toNat + j)) (s.u.srcRow f.a j).data)
    .next (((s.landV (s.slotFor (.vcmpr f)) f.d.toNat 6 (out.map (fun x => x.1.row)) (out.map (fun x => x.1.flags))).landV
      (s.slotFor (.vcmpr f)) f.b.toNat 6 (out.map Prod.snd) []).lastFlight (fun x => { x with pair := true })) :=
  (exec_vcmpr ..).trans (issue_passes h _)

/-- Settles O20: VCVT and VDQN lane by lane, VQNT's rows and trailer, VCMPR's two writes. -/
theorem vectorConversions : Obligations.VectorConversions := by
  unfold Obligations.VectorConversions
  intro s f
  refine ⟨fun h => padded_gives (exec_vcvt f s) h (fun j k hk => getD_converted _ _ _ _ hk) (fun j => ?cvtLen),
    fun h => padded_gives (exec_vdqn f s) h (fun j k hk => ?dqn) (fun j => ?dqnLen), fun h => ?qnt, fun h => ?cmpr⟩
  case cvtLen => simp [length_elems]
  case dqn =>
    rw [getD_map_take _ _ hk]
    split
    next v hv => rw [hv]; rfl
    next hv => rw [hv]; rfl
  case dqnLen => simp
  case qnt =>
    refine ⟨_, _, _, (exec_vqnt ..).trans (issue_passes h _), ?_, ?_⟩
    · simp [Function.comp_def]
    · simp [Function.comp_def, List.flatMap_def]
  case cmpr =>
    obtain ⟨pre, g, m, hf, hgd, hmd, hgl, hml, hgr, hmr⟩ := landV_landV_flights s (s.slotFor (.vcmpr f)) 6 f.d.toNat f.b.toNat _ _ _ _
    rw [List.append_cons] at hf
    refine ⟨_, pre, g, _, exec_vcmpr_passes h, (lastFlight_flights hf _).trans (List.append_cons ..).symm, hgd, hmd, hgl, hml, rfl, ?_, ?_⟩
    · exact hgr.trans (List.map_map ..)
    · exact hmr.trans (List.map_map ..)

end Sys2Proof.Machine
end

section
/-! SUPPORT. Loads of the L slot (15 R342, R343; 16 R359, R360, R375, R377; 17 R396, R397): what lands from sound granules of the
unit's own scratchpad, and the access that another space leaves outstanding. -/

namespace Sys2Proof.Machine

/-! A load that finds its granules sound. -/

/-- A change that the write scheduled last does not notice. -/
theorem lastFlight_same {s : State} {l : List Flight} {f : Flight} {g : Flight → Flight} (h : s.u.flights = l ++ [f]) (hg : g f = f) :
    s.lastFlight g = s := by
  have hlast : s.u.flights.dropLast ++ (s.u.flights.drop (s.u.flights.length - 1)).map g = s.u.flights := by simp [h, hg]
  rw [State.lastFlight, State.modU, hlast]

/-- Bytes of sound granules are marked sound. -/
theorem readMarked_clean (s : State) (bl homes : List Nat) (h : ∀ a ∈ homes, s.mem.eccOf a = .clean) :
    s.readMarked bl homes = homes.map (fun a => (s.loadByte bl a, false)) := by
  unfold State.readMarked
  apply List.map_congr_left
  intro a ha
  simp [h a ha, Memory.bad]

/-- A load that names no block reads memory. -/
theorem loadByte_none (s : State) (a : Nat) : s.loadByte [] a = s.mem.byte a := by
  rw [State.loadByte, State.blockOf, List.find?_eq_none.mpr (by simp)]

/-- The bytes that such a load finds in sound granules. -/
theorem zeroBad_sound {s : State} {homes : List Nat} (h : ∀ a ∈ homes, s.mem.eccOf a = .clean) :
    zeroBad (s.readMarked [] homes) = homes.map s.mem.byte := by
  rw [zeroBad_clean s [] homes h, funext (loadByte_none s)]

/-- A result read from sound granules lands as it was scheduled: no error, no fault (13 R283). -/
theorem locLands_clean {s : State} {l : List Flight} {f : Flight} (sps : List Span) (rowFmt : Nat) (hf : s.u.flights = l ++ [f])
    (hfault : f.fault = none) (herrs : f.errs = 0) (h : ∀ a ∈ sps.flatMap Span.homes, s.mem.eccOf a = .clean) :
    s.locLands sps rowFmt 0 = s := by
  have hnone : sps.findSome? (fun sp => s.readFault [] sp (rowHomes rowFmt sp.homes) 4) = none := by
    rw [List.findSome?_eq_none_iff]
    refine fun sp hsp => readFault_clean _ _ _ _ _ fun a ha => h a (List.mem_flatMap.mpr ⟨sp, hsp, ?_⟩)
    unfold rowHomes at ha
    split at ha
    next => exact List.mem_of_mem_take ha
    next => exact ha
  simp only [State.locLands, hnone, Option.isSome_none, Bool.false_eq_true, if_false]
  rw [lastFlight_same hf (by rw [← hfault, ← herrs]), noteRead_clean _ _ h]

theorem landS_locLands {s : State} {sps : List Span} (h : ∀ a ∈ sps.flatMap Span.homes, s.mem.eccOf a = .clean) (slot : Nat)
    (d : BitVec 6) (v : Word) (lat : Nat) : (s.landS slot d v lat).locLands sps 0 0 = s.landS slot d v lat :=
  locLands_clean (l := (s.u.overtake 0 [d.toNat]).flights) sps 0 rfl rfl rfl h

theorem landV_locLands {s : State} {sps : List Span} (h : ∀ a ∈ sps.flatMap Span.homes, s.mem.eccOf a = .clean) (slot d lat : Nat)
    (rows : List VReg) (fl : List Nat) (rowFmt : Nat) : (s.landV slot d lat rows fl).locLands sps rowFmt 0 = s.landV slot d lat rows fl :=
  locLands_clean (l := (s.u.overtake 1 (List.range' d rows.length)).flights) sps rowFmt (by simp [State.landV, State.lastFlight, State.sched, State.modU, Dest.regs]; rfl) rfl rfl h

/-! Rows of BSE blocks. -/

/-- Bytes without a bad one are read as they are. -/
theorem zeroBad_of_sound (bs : List Byte) : zeroBad (bs.map (fun b => (b, false))) = bs := by
  rw [zeroBad, List.map_map]
  exact List.map_id bs

theorem flatten_pieces {α : Type} (n k : Nat) (l : List α) : (pieces n k l).flatten = l.take (n * k) := by
  induction k generalizing l with
  | zero => simp [pieces]
  | succ k ih => rw [pieces, List.flatten_cons, ih, Nat.mul_succ, Nat.add_comm, List.take_add]

theorem mem_of_mem_pieces {α : Type} {n k : Nat} {l p : List α} {a : α} (hp : p ∈ pieces n k l) (ha : a ∈ p) : a ∈ l := by
  have : a ∈ (pieces n k l).flatten := List.mem_flatten.mpr ⟨p, hp, ha⟩
  rw [flatten_pieces] at this
  exact List.mem_of_mem_take this

/-- Blocks without a bad byte are read as they are. -/
theorem zeroBadBlocks_sound {size : Nat} (hsize : 0 < size) (bs : List Byte) :
    zeroBadBlocks size (bs.map (fun b => (b, false))) = (bs, 0) := by
  have hsound : ∀ p ∈ pieces size ((bs.length + size - 1) / size) (bs.map (fun b => (b, false))), p.any (fun x => x.2) = false := by
    refine fun p hp => List.any_eq_false.mpr fun x hx => ?_
    obtain ⟨b, -, rfl⟩ := List.mem_map.mp (mem_of_mem_pieces hp hx)
    simp
  have hall : bs.length ≤ size * ((bs.length + size - 1) / size) := by
    have := Nat.div_add_mod (bs.length + size - 1) size
    have := Nat.mod_lt (bs.length + size - 1) hsize
    omega
  rw [zeroBadBlocks, List.length_map]
  refine Prod.ext ?_ ?_
  · refine (List.flatMap_congr (g := fun p => p.map (fun x => x.1)) fun p hp => by simp [hsound p hp]).trans ?_
    rw [List.flatMap_def, ← List.map_flatten, flatten_pieces, List.take_of_length_le (by simpa using hall), List.map_map]
    exact List.map_id bs
  · exact (congrArg List.length (List.filter_eq_nil_iff.mpr fun p hp => by simp [hsound p hp])).trans rfl

/-- A BSE row without a bad byte: its whole blocks, and zeros after the last one (05 R113). -/
theorem readBseRow_sound (f : Nat) (bs : List Byte) :
    readBseRow f (bs.map (fun b => (b, false))) = (takePad 0 bs.length (bs.take (wholeBytes f bs.length)), 0) := by
  have hsize : 0 < bseBlock f := by unfold bseBlock; split <;> decide
  rw [readBseRow, List.length_map, ← List.map_take, zeroBadBlocks_sound hsize]

end Sys2Proof.Machine
end

section
/-! SUPPORT. The loads: from an instruction that passes to what it lands, or to the access it leaves outstanding. -/

namespace Sys2Proof.Machine

/-- A MEM instruction that adds an access leaves it behind the others; memory and the registers stay. -/
theorem pends_of_memAcc {s : State} {i : Instr} {f : MemF} {slot : Nat} {a : Act} {sps : List Span}
    (h : exec i s = .next (s.memAcc slot f a sps)) : ∃ t, exec i s = .next t ∧ t.u.regs = s.u.regs ∧ t.mem = s.mem ∧
      t.u.accs = s.u.accs ++ [⟨a, f.oc.toNat, sps, slot, s.u.pc, f.svc.toNat, s.now, s.deadlineLeft, false,
        s.blocksAt (sps.flatMap Span.homes), []⟩] := ⟨_, h, rfl, rfl, rfl⟩

theorem flatMap_homes_one (sp : Span) : [sp].flatMap Span.homes = sp.homes := List.append_nil _

/-- So does one over a single span. -/
theorem pends_one {s : State} {i : Instr} {f : MemF} {slot : Nat} {a : Act} {sp : Span}
    (h : exec i s = .next (s.memAcc slot f a [sp])) : ∃ t, exec i s = .next t ∧ t.u.regs = s.u.regs ∧ t.mem = s.mem ∧
      t.u.accs = s.u.accs ++ [⟨a, f.oc.toNat, [sp], slot, s.u.pc, f.svc.toNat, s.now, s.deadlineLeft, false,
        s.blocksAt sp.homes, []⟩] := flatMap_homes_one sp ▸ pends_of_memAcc h

section
variable {s : State} {f : MemF} {sp : Span} {log : Nat}

/-- A scalar load from sound granules of the unit's own scratchpad (15 R342, R343). -/
theorem loadScalar_lands (h : s.memSpan 4 f log kRead true = .ok sp) (hsp : sp.space = 0)
    (hclean : ∀ a ∈ sp.homes, s.mem.eccOf a = .clean) (sg : Bool) :
    s.loadScalar f log sg = s.landS 4 (f.r.setWidth 6)
      (if sg then BitVec.ofInt 64 (signedAt (8 * 2 ^ log) (bytesNat (sp.homes.map s.mem.byte)))
        else BitVec.ofNat 64 (bytesNat (sp.homes.map s.mem.byte))) 6 := by
  have e : State.loadScalar = State.loadScalar := rfl
  conv at e => rhs; delta State.loadScalar
  simp only [e, h, hsp, if_true, zeroBad_sound hclean, badOf_clean s [] sp.homes hclean, List.length_nil]
  exact landS_locLands (by rwa [flatMap_homes_one]) ..

/-- A scalar load from another space (15 R343). -/
theorem loadScalar_pends (h : s.memSpan 4 f log kRead true = .ok sp) (hsp : sp.space ≠ 0) (sg : Bool) :
    s.loadScalar f log sg = s.memAcc 4 f (.load (memR f) (2 ^ log) sg) [sp] := by
  obtain ⟨_, _, hload⟩ := loadScalar_ok h sg
  rw [hload, if_neg hsp]

theorem exec_scalarLoad_lands {i : Instr} {sg : Bool} (hexec : exec i s = s.issue i (fun s => s.loadScalar f log sg)) (hp : s.Passes i)
    (sp : Span) (h : s.memSpan 4 f log kRead true = .ok sp) (hsp : sp.space = 0) (hclean : ∀ a ∈ sp.homes, s.mem.eccOf a = .clean) :
    exec i s = .next (s.landS 4 (f.r.setWidth 6)
      (if sg then BitVec.ofInt 64 (signedAt (8 * 2 ^ log) (bytesNat (sp.homes.map s.mem.byte)))
        else BitVec.ofNat 64 (bytesNat (sp.homes.map s.mem.byte))) 6) :=
  (hexec.trans (issue_passes hp _)).trans (congrArg _ (loadScalar_lands h hsp hclean sg))

theorem exec_scalarLoad_pends {i : Instr} {sg : Bool} (hexec : exec i s = s.issue i (fun s => s.loadScalar f log sg)) (hp : s.Passes i)
    (sp : Span) (h : s.memSpan 4 f log kRead true = .ok sp) (hsp : sp.space ≠ 0) :
    ∃ t, exec i s = .next t ∧ t.u.regs = s.u.regs ∧ t.mem = s.mem ∧
      t.u.accs = s.u.accs ++ [⟨.load (memR f) (2 ^ log) sg, f.oc.toNat, [sp], 4, s.u.pc, f.svc.toNat, s.now, s.deadlineLeft, false,
        s.blocksAt sp.homes, []⟩] :=
  pends_one ((hexec.trans (issue_passes hp _)).trans (congrArg _ (loadScalar_pends h hsp sg)))

end

/-- Settles O24: each form by `loadScalar_lands` or `loadScalar_pends`. -/
theorem scalarLoads : Obligations.ScalarLoads := by
  unfold Obligations.ScalarLoads
  exact ⟨fun s f => ⟨exec_scalarLoad_lands (exec_ldB f s), exec_scalarLoad_lands (exec_ldBu f s), exec_scalarLoad_lands (exec_ldH f s),
      exec_scalarLoad_lands (exec_ldHu f s), exec_scalarLoad_lands (exec_ldW f s), exec_scalarLoad_lands (exec_ldWu f s),
      exec_scalarLoad_lands (exec_ldD f s)⟩,
    fun s f => ⟨exec_scalarLoad_pends (exec_ldB f s), exec_scalarLoad_pends (exec_ldBu f s), exec_scalarLoad_pends (exec_ldH f s),
      exec_scalarLoad_pends (exec_ldHu f s), exec_scalarLoad_pends (exec_ldW f s), exec_scalarLoad_pends (exec_ldWu f s),
      exec_scalarLoad_pends (exec_ldD f s)⟩⟩

section
variable {s : State} {f : MemF} {sps : List Span} {mode : Nat}

/-- A row load from sound granules of the unit's own scratchpad (17 R397, 05 R113). -/
theorem loadRow_lands (h : s.rowSpans 4 f mode false = .ok sps) (hsp : f.sp = 0)
    (hclean : ∀ a ∈ sps.flatMap Span.homes, s.mem.eccOf a = .clean) :
    let sh := s.u.rowShape f.r.toNat
    let raw := (sps.flatMap Span.homes).map s.mem.byte
    let bs := if isBse sh.fmt then takePad 0 raw.length (raw.take (wholeBytes sh.fmt raw.length)) else raw
    s.loadRow f mode = s.landV 4 f.r.toNat 6
      [⟨bytesRow ((if mode = 2 then repeatTo (sh.k * sh.u) bs else bs).take sh.width), sh.fmt⟩] [] := by
  have hmarked : s.readMarked [] (sps.flatMap Span.homes) = ((sps.flatMap Span.homes).map s.mem.byte).map (fun b => (b, false)) := by
    rw [readMarked_clean s [] _ hclean, List.map_map, funext (loadByte_none s)]
    rfl
  have e : State.loadRow = State.loadRow := rfl
  conv at e => rhs; delta State.loadRow
  simp only [e, h, hsp, if_true, hmarked, zeroBad_of_sound, badOf_clean s [] _ hclean, List.length_nil, readBseRow_sound,
    apply_ite Prod.fst, apply_ite Prod.snd, ite_self]
  exact landV_locLands hclean ..

/-- A row load from another space (17 R397). -/
theorem loadRow_pends (h : s.rowSpans 4 f mode false = .ok sps) (hsp : f.sp ≠ 0) :
    s.loadRow f mode = s.memAcc 4 f
      (.vload f.r.toNat (s.u.rowShape f.r.toNat).width (s.u.rowShape f.r.toNat).fmt (mode = 2)) sps := by
  have e : State.loadRow = State.loadRow := rfl
  conv at e => rhs; delta State.loadRow
  simp only [e, h, hsp, if_false]

theorem exec_rowLoad {i : Instr} (hexec : exec i s = s.issue i (fun s => s.loadRow f mode)) (hp : s.Passes i) (sps : List Span)
    (h : s.rowSpans 4 f mode false = .ok sps) :
    let sh := s.u.rowShape f.r.toNat
    let homes := sps.flatMap Span.homes
    let raw := homes.map s.mem.byte
    let bs := if isBse sh.fmt then takePad 0 raw.length (raw.take (wholeBytes sh.fmt raw.length)) else raw
    (f.sp = 0 → (∀ a ∈ homes, s.mem.eccOf a = .clean) → exec i s = .next (s.landV 4 f.r.toNat 6
      [⟨bytesRow ((if mode = 2 then repeatTo (sh.k * sh.u) bs else bs).take sh.width), sh.fmt⟩] [])) ∧
    (f.sp ≠ 0 → ∃ t, exec i s = .next t ∧ t.u.regs = s.u.regs ∧ t.mem = s.mem ∧ t.u.accs = s.u.accs ++
      [⟨.vload f.r.toNat sh.width sh.fmt (mode = 2), f.oc.toNat, sps, 4, s.u.pc, f.svc.toNat, s.now, s.deadlineLeft, false,
        s.blocksAt homes, []⟩]) :=
  have hissue := hexec.trans (issue_passes hp _)
  ⟨fun hsp hclean => hissue.trans (congrArg _ (loadRow_lands h hsp hclean)),
    fun hsp => pends_of_memAcc (hissue.trans (congrArg _ (loadRow_pends h hsp)))⟩

end

theorem exec_tld_passes {s : State} {g : MemT} {sps : List Span} (h : s.Passes (.tld g)) (hp : s.tilePlan 4 g false = .ok sps) :
    exec (.tld g) s = .next (s.addAcc 4 (.tld g.t.toNat (readHandle (s.u.handle g.h.toNat)).fmt (readHandle (s.u.handle g.h.toNat)).rows
      (readHandle (s.u.handle g.h.toNat)).rowb g.h.toNat (readHandle (s.u.handle g.h.toNat)).trl) g.oc.toNat sps g.svc.toNat
        s.deadlineLeft) := by
  refine ((exec_tld ..).trans (issue_passes h _)).trans ?_
  simp only [hp]

/-- PLD asks for the line of its address (16 R360). -/
theorem exec_pld_passes {s : State} {f : MemF} {sp : Span} (h : s.Passes (.pld f))
    (hsp : s.check 4 (s.effAddr f) 1 kRead 0 = .ok sp) :
    exec (.pld f) s = .next (s.addAcc 4 .pld 16
      [{ sp with homes := List.range' (sp.homes.headD 0 / 64 * 64) 64, size := 64 }] f.svc.toNat s.deadlineLeft) := by
  refine ((exec_pld ..).trans (issue_passes h _)).trans ?_
  simp only [hsp]

/-- Settles O25: row loads by `loadRow_lands` and `loadRow_pends`, the others by the access they add. -/
theorem vectorAndTileLoads : Obligations.VectorAndTileLoads := by
  unfold Obligations.VectorAndTileLoads
  refine ⟨fun s f => ⟨exec_rowLoad (exec_vld f s), exec_rowLoad (exec_vlds f s), exec_rowLoad (exec_vldb f s)⟩, fun s f g => ⟨fun h sps hsps => ⟨_, exec_tld_passes h hsps, rfl, rfl, rfl⟩, fun h sp hsp => ?thdl,
    fun h sp hsp => ?peek, fun h sp hsp => ?pld, fun h t ht => ?drop⟩⟩
  case thdl => 
    refine pends_one (((exec_thdl ..).trans (issue_passes h _)).trans ?_)
    simp only [hsp]
  case peek => 
    refine pends_one (((exec_peek ..).trans (issue_passes h _)).trans ?_)
    simp only [hsp]
    rfl
  case pld => exact ⟨_, _, exec_pld_passes h hsp, rfl, rfl, rfl, rfl, rfl, flatMap_homes_one _⟩
  case drop =>
    refine ((exec_pld ..).trans (issue_passes h _)).trans ?_
    simp only [ht]

end Sys2Proof.Machine
end

section
/-! SUPPORT. Blocks, stores and atomics (15 R318 to R320, R341; 16 R371, R377; 17 R397; 07 R165). -/

namespace Sys2Proof.Machine

/-! LDB. -/

/-- A count out of range is answered code 4 (15 R341). -/
theorem exec_ldb_range {s : State} {f : MemF} (h : s.Passes (.ldb f)) (hn : (s.S f.o).toNat = 0 ∨ 64 < (s.S f.o).toNat) :
    exec (.ldb f) s = .next (s.memAcc 4 f (.value (memR f) 4) []) := by
  refine ((exec_ldb ..).trans (issue_passes h _)).trans (congrArg _ (if_pos ?_))
  simpa using hn

/-- A block of 1 to 64 lines is granted, or answered the first code that applies (15 R341, 07 R165). -/
theorem exec_ldb_checked {s : State} {f : MemF} {sp : Span} (h : s.Passes (.ldb f)) (hlow : 1 ≤ (s.S f.o).toNat)
    (hhigh : (s.S f.o).toNat ≤ 64) (hsp : s.check 4 (s.effAddr f) (64 * (s.S f.o).toNat) kRead 6 = .ok sp) :
    exec (.ldb f) s = .next (
      let n := (s.S f.o).toNat
      let base := sp.homes.headD 0
      if 16 ≤ s.core.liveBlocks.length then s.memAcc 4 f (.value (memR f) 1) []
      else if 1024 < s.core.linesUsed + n then s.memAcc 4 f (.value (memR f) 2) []
      else if s.core.liveBlocks.any (fun b => decide (b.who = s.u.who) && b.meets base n) then s.memAcc 4 f (.value (memR f) 3) []
      else (s.memAcc 4 f (.ldb (memR f) n base s.core.nextBlock) [sp]).modCore (fun c =>
        { c with blocks := c.blocks ++ [⟨s.u.who, base, n, 0, zeros (64 * n), [], sp.cover, s.core.nextBlock, false⟩],
                 nextBlock := c.nextBlock + 1 })) := by
  refine ((exec_ldb ..).trans (issue_passes h _)).trans (congrArg _ ((if_neg ?_).trans ?_))
  · simpa using ⟨by omega, hhigh⟩
  · simp only [hsp]
    rfl

/-- Settles O26: each outcome by the branch of `exec_ldb_checked`. -/
theorem blockLoads : Obligations.BlockLoads := by
  unfold Obligations.BlockLoads
  intro s f n r live used asks h
  refine ⟨fun hn => ⟨_, exec_ldb_range h hn, ⟨rfl, rfl, rfl⟩, rfl⟩, fun hlow hhigh sp hsp => ⟨fun htags => ?_, fun htags hlines => ?_,
    fun htags hlines hmeets => ?_, fun htags hlines hmeets => ?_⟩⟩
  · refine ⟨_, (exec_ldb_checked h hlow hhigh hsp).trans (congrArg _ (if_pos htags)), ⟨rfl, rfl, rfl⟩, rfl⟩
  · refine ⟨_, (exec_ldb_checked h hlow hhigh hsp).trans (congrArg _ ((if_neg (Nat.not_le.mpr htags)).trans (if_pos hlines))),
      ⟨rfl, rfl, rfl⟩, rfl⟩
  · refine ⟨_, (exec_ldb_checked h hlow hhigh hsp).trans (congrArg _ ((if_neg (Nat.not_le.mpr htags)).trans
      ((if_neg (Nat.not_lt.mpr hlines)).trans (if_pos hmeets)))), ⟨rfl, rfl, rfl⟩, rfl⟩
  · refine ⟨_, _, (exec_ldb_checked h hlow hhigh hsp).trans (congrArg _ ((if_neg (Nat.not_le.mpr htags)).trans
      ((if_neg (Nat.not_lt.mpr hlines)).trans (if_neg (Bool.eq_false_iff.mp hmeets))))), ⟨rfl, rfl, rfl⟩, rfl, rfl, rfl, rfl, rfl, rfl,
      rfl, rfl⟩

/-! Stores and atomics. -/

section
variable {s : State} {f : MemF}

theorem exec_scalarStore_pends {i : Instr} {log : Nat} (hexec : exec i s = s.issue i (fun s => s.storeScalar f log)) (h : s.Passes i)
    (sp : Span) (hsp : s.memSpan 5 f log kWrite false = .ok sp) :
    exec i s = .next (s.memAcc 5 f (.store [(wordBytes (s.u.scalar (memR f))).take (2 ^ log)]) [sp]) :=
  (hexec.trans (issue_passes h _)).trans (congrArg _ (storeScalar_ok hsp))

theorem exec_vst_passes {sps : List Span} (h : s.Passes (.vst f)) (hsp : s.rowSpans 5 f 0 true = .ok sps) :
    exec (.vst f) s = .next (s.memAcc 5 f
      (.store [(rowBytes (s.u.vreg f.r.toNat).data).take (s.u.rowShape f.r.toNat).width]) sps) := by
  refine ((exec_vst ..).trans (issue_passes h _)).trans ?_
  simp only [hsp]

theorem exec_vsts_passes {sps : List Span} (h : s.Passes (.vsts f)) (hsp : s.rowSpans 5 f 1 true = .ok sps) :
    exec (.vsts f) s = .next (s.memAcc 5 f (.store (pieces (s.u.rowShape f.r.toNat).u (s.u.rowShape f.r.toNat).k
      (rowBytes (s.u.vreg f.r.toNat).data))) sps) := by
  refine ((exec_vsts ..).trans (issue_passes h _)).trans ?_
  simp only [hsp]

theorem exec_tst_passes {g : MemT} {sps : List Span} (h : s.Passes (.tst g)) (hsp : s.tilePlan 5 g true = .ok sps) :
    exec (.tst g) s = .next (
      let h := readHandle (s.u.handle g.h.toNat)
      let regs := (rowsOf g.t.toNat h.rows).map s.u.vreg
      let rows := regs.map (fun r => (rowBytes r.data).take h.rowb)
      s.addAcc 5 (.store (rows ++ if h.trl then [trailerBytes (amaxBits (regs.flatMap (fun r =>
        (rowBlocks h.fmt h.rowb r.data).flatMap (bseValues h.fmt)))) 0 rows.flatten h.fmt h.rows h.rowb] else []))
        g.oc.toNat sps g.svc.toNat s.deadlineLeft) := by
  refine ((exec_tst ..).trans (issue_passes h _)).trans ?_
  simp only [hsp]

/-- The base that LBF names: where the extent of its address begins, and its offset in it. -/
def State.lbfBase (s : State) (f : MemF) : Nat := extBase (s.u.ext (pXi (s.effAddr f))) + pOff (s.effAddr f)

/-- LBF of no block of the unit (15 R341). -/
theorem exec_lbf_none (h : s.Passes (.lbf f))
    (hb : s.core.liveBlocks.find? (fun b => decide (b.who = s.u.who) && b.base = s.lbfBase f) = none) :
    exec (.lbf f) s = .next s := by
  refine ((exec_lbf ..).trans (issue_passes h _)).trans ?_
  unfold State.lbfBase at hb
  simp only [hb]

/-- LBF of a block: one access over its bytes, and the block is leaving (log 42). -/
theorem exec_lbf_some {b : Block} (h : s.Passes (.lbf f))
    (hb : s.core.liveBlocks.find? (fun b => decide (b.who = s.u.who) && b.base = s.lbfBase f) = some b) :
    exec (.lbf f) s = .next ((s.memAcc 5 f (.lbf b.id) [⟨3, pXi (s.effAddr f), pOff (s.effAddr f), 64 * b.lines,
      List.range' b.base (64 * b.lines), none, b.cover.tol, b.cover.fmap, b.cover.base⟩]).modCore
        (fun c => c.modBlock b.id (fun b => { b with leaving := true }))) := by
  refine ((exec_lbf ..).trans (issue_passes h _)).trans ?_
  unfold State.lbfBase at hb
  simp only [hb]

theorem exec_atomic_pends {i : Instr} {op : AtomOp} {cmp : State → Word}
    (hexec : exec i s = s.issue i (fun s => s.atomic f op (cmp s))) (h : s.Passes i)
    (sp : Span) (hsp : s.memSpan 5 f 3 kBoth true = .ok sp) :
    ∃ t, exec i s = .next t ∧ t.u.regs = s.u.regs ∧ t.mem = s.mem ∧
      t.u.accs = s.u.accs ++ [⟨.atomic op (s.S f.o) (cmp s) (memR f), f.oc.toNat, [sp], 5, s.u.pc, f.svc.toNat, s.now, s.deadlineLeft,
        false, s.blocksAt sp.homes, []⟩] :=
  pends_one ((hexec.trans (issue_passes h _)).trans (congrArg _ (atomic_ok hsp op (cmp s))))

end

/-- Settles O27: each instruction by the access that it adds. -/
theorem storesAndAtomicsPend : Obligations.StoresAndAtomicsPend := by
  unfold Obligations.StoresAndAtomicsPend
  refine ⟨fun s f g => ⟨fun h sp hsp => pends_of_memAcc (exec_scalarStore_pends (exec_stB f s) h sp hsp),
      fun h sp hsp => pends_of_memAcc (exec_scalarStore_pends (exec_stH f s) h sp hsp),
      fun h sp hsp => pends_of_memAcc (exec_scalarStore_pends (exec_stW f s) h sp hsp),
      fun h sp hsp => pends_of_memAcc (exec_scalarStore_pends (exec_stD f s) h sp hsp),
      fun h sps hsps => pends_of_memAcc (exec_vst_passes h hsps), fun h sps hsps => pends_of_memAcc (exec_vsts_passes h hsps),
      fun h sps hsps => ⟨_, exec_tst_passes h hsps, rfl, rfl, rfl⟩, fun h hb => exec_lbf_none h hb,
      fun h b hb => ⟨_, _, exec_lbf_some h hb, rfl, rfl, rfl, (addAcc_last ..).trans (by rw [flatMap_homes_one]), rfl⟩⟩,
    fun s f => ⟨exec_atomic_pends (exec_aadd f s), exec_atomic_pends (exec_aminS f s), exec_atomic_pends (exec_aminU f s),
      exec_atomic_pends (exec_amaxS f s), exec_atomic_pends (exec_amaxU f s), exec_atomic_pends (exec_aand f s),
      exec_atomic_pends (exec_aor f s), exec_atomic_pends (exec_axor f s), exec_atomic_pends (exec_aswp f s),
      exec_atomic_pends (cmp := fun s => s.u.scalar (memR f)) (exec_acas f s), exec_atomic_pends (exec_afadd f s),
      exec_atomic_pends (exec_afmin f s), exec_atomic_pends (exec_afmax f s)⟩⟩

end Sys2Proof.Machine
end

section
/-! SUPPORT. Commands enter their buffers, and are cancelled out of them (15 R326, R331; 16 R350, R351, R355; 08 R187, R189). -/

namespace Sys2Proof.Machine

/-- Marks of being overtaken apart, an overtaken write is the write it was (02 R55). -/
theorem overtake_plain (fs : List Flight) (c : Nat) (rs : List Nat) :
    (fs.map (Flight.overtake c rs)).map Flight.unmarked = fs.map Flight.unmarked := by
  simp [unmarked_overtake]

/-- A matrix command that passes enters the M buffer (16 R350). -/
theorem issueM_enters {s : State} {i : Instr} {f : MA} (hexec : exec i s = s.issue i (fun s => s.issueM i f)) (h : s.Passes i) :
    ∃ t c, exec i s = .next t ∧ t.core = { s.core with matrix := { s.core.matrix with buf := s.core.matrix.buf ++ [c] } } ∧
      c.who = s.u.who ∧ c.word = encode i ∧ c.sav = s.S f.sa ∧ c.snv = s.S f.sn ∧ c.hnd = s.u.handle f.h.toNat ∧
      c.mask = s.u.regs.sr.ashape.toNat % 16 ∧ c.prom = s.u.regs.sr.prom.toNat % 8 ∧ c.epc = s.u.pc ∧ c.entered = s.now ∧
      c.running = false ∧ c.next = 0 ∧ t.mem = s.mem ∧ t.u.regs = s.u.regs ∧
      t.u.flights.map Flight.unmarked = s.u.flights.map Flight.unmarked ∧
      t.u.accs = s.u.accs ++ [⟨.start true, mOc (encode i), [], 3, s.u.pc, 0, s.now, 0, false, [], []⟩] ∧
      t.u.cfg = if mOp (encode i) = 1 then s.S f.sn &&& 1 else s.u.cfg := by
  obtain ⟨c, rows, hcore, hwho, hword, hsav, hsnv, hhnd, hmask, hprom, hepc, hent, hrun, hnext, hmem, hu⟩ :=
    enterM_spec s (encode i) (s.S f.sa) (s.S f.sn) (s.u.handle f.h.toNat) s.u.pc
  refine ⟨_, c, hexec.trans (issue_passes h _), hcore, hwho, hword, hsav, hsnv, hhnd, hmask, hprom, hepc, hent, hrun, hnext, hmem,
    ?_, ?_, ?_, ?_⟩
  · exact (congrArg Strand.regs hu :)
  · exact (congrArg (fun u => u.flights.map Flight.unmarked) hu).trans (overtake_plain ..)
  · exact (congrArg Strand.accs hu :)
  · exact (congrArg Strand.cfg hu :)

/-- A copy command that passes enters the C buffer (15 R331, 08 R187). -/
theorem issueC_enters {s : State} {i : Instr} {op : Nat} {f : CC} (hexec : exec i s = s.issue i (fun s => s.issueC op f))
    (h : s.Passes i) : ∃ t c, exec i s = .next t ∧ t.core = { s.core with cbuf := s.core.cbuf ++ [c] } ∧
      c.who = s.u.who ∧ c.op = op ∧ c.tok = f.tok.toNat ∧ c.sa = s.S f.sa ∧ c.sd = s.S f.sd ∧ c.sl = s.S f.sl ∧
      c.oc = f.oc.toNat ∧ c.epc = s.u.pc ∧ c.entered = s.now ∧ c.running = false ∧ c.moved = 0 ∧
      t.mem = s.mem ∧ t.u.flights.map Flight.unmarked = s.u.flights.map Flight.unmarked ∧
      t.u.accs = s.u.accs ++
        [⟨.start false, if op = 0x10 ∨ op = 0x11 then 16 else f.oc.toNat, [], 6, s.u.pc, 0, s.now, 0, false, [], []⟩] ∧
      t.u.regs = if op = 3 ∧ (s.S f.sl).getLsbD 63 = false then (s.u.setMask (f.md.toNat % 8) 0).regs else s.u.regs := by
  obtain ⟨c, rs, hcore, hwho, hop, htok, hsa, hsd, hsl, hoc, hepc, hent, hrun, hmoved, hmem, hu⟩ := issueC_spec s op f
  refine ⟨_, c, hexec.trans (issue_passes h _), hcore, hwho, hop, htok, hsa, hsd, hsl, hoc, hepc, hent, hrun, hmoved, hmem, ?_, ?_, ?_⟩
  · refine (congrArg (fun u => u.flights.map Flight.unmarked) hu).trans ((overtake_plain ..).trans ?_)
    split <;> rfl
  · refine (congrArg Strand.accs hu).trans ?_
    simp only [Bool.or_eq_true, decide_eq_true_eq]
    rfl
  · refine (congrArg Strand.regs hu).trans ?_
    simp only [Strand.overtake]
    split <;> rfl

/-- Settles O22: each command by `issueM_enters` or `issueC_enters`. -/
theorem commandsEnter : Obligations.CommandsEnter := by
  unfold Obligations.CommandsEnter
  exact ⟨fun s f => ⟨issueM_enters (exec_mcfg f s), issueM_enters (exec_mscl f s), issueM_enters (exec_mlds f s),
      issueM_enters (exec_mldsT f s), issueM_enters (exec_mldsh f s), issueM_enters (exec_mldsp f s), issueM_enters (exec_mswp f s),
      issueM_enters (exec_mstr f s), issueM_enters (exec_mstrT f s), issueM_enters (exec_mstrh f s), issueM_enters (exec_mgrp f s),
      issueM_enters (exec_msps f s), issueM_enters (exec_mza f s), issueM_enters (exec_mwra f s), issueM_enters (exec_mrda f s),
      issueM_enters (exec_mrds f s)⟩,
    fun s f => ⟨issueC_enters (exec_cpy f s), issueC_enters (exec_cpy2 f s), issueC_enters (exec_cpyt f s), issueC_enters (exec_cpym f s),
      issueC_enters (exec_cpyk f s), issueC_enters (exec_cpyc f s), issueC_enters (exec_cpya f s), issueC_enters (exec_cpyg f s),
      issueC_enters (exec_cpys f s), issueC_enters (exec_cpyf f s), issueC_enters (exec_pref f s), issueC_enters (exec_collRs f s),
      issueC_enters (exec_collAg f s), issueC_enters (exec_collAr f s), issueC_enters (exec_collBc f s), issueC_enters (exec_spill f s),
      issueC_enters (exec_fill f s), issueC_enters (exec_zfill f s)⟩⟩

/-! Cancelling. -/

/-- A plane that a cancelled load was filling is dropped (16 R355). -/
theorem cancelMatrix_shadow {c : Core} {w : UnitId}
    (hload : c.matrix.buf.any (fun x => decide (x.who = w) && x.running && isLoadOp (mOp x.word)) = true)
    (hst : c.matrix.shadow.st = .loading) : (c.cancelMatrix w).matrix.shadow.st = .invalid := by
  simp only [Core.cancelMatrix, hload, hst, decide_true, Bool.and_self, if_true]
  rfl

/-- CCAN of a pending copy that is no collective ends it with code 6 (15 R326, 08 R189). -/
theorem exec_ccan_some {s : State} {g : CC} {c : CCmd} (h : s.Passes (.ccan g))
    (hc : s.core.cbuf.find? (fun c => decide (c.who = s.u.who) && c.tok = g.tok.toNat) = some c) (hcoll : c.coll = false) :
    exec (.ccan g) s = .next (s.copyDone { c with xi := 0, wr := false } 6) := by
  refine ((exec_ccan ..).trans (issue_passes h _)).trans ?_
  simp only [hc, State.cancelCopy, hcoll, Bool.false_and, Bool.false_eq_true, if_false]

/-- Settles O23: MCAN by `cancelMatrix`, CCAN by `exec_ccan_some` and `scalar_copyDone`. -/
theorem cancelsTakeCommandsOut : Obligations.CancelsTakeCommandsOut := by
  unfold Obligations.CancelsTakeCommandsOut
  refine fun s f g => ⟨fun h => ⟨_, (exec_mcan ..).trans (issue_passes h _), rfl, cancelMatrix_shadow, rfl, rfl⟩,
    fun h c hc hcoll htok hm hs => ⟨_, exec_ccan_some h hc hcoll, ?_, rfl, rfl⟩, fun h hc => ?_⟩
  · obtain ⟨-, hct⟩ : c.who = s.u.who ∧ c.tok = g.tok.toNat := by simpa using List.find?_some hc
    have hne : c.tok ≠ 0 := hct ▸ fun h0 => htok (BitVec.eq_of_toNat_eq h0)
    rw [← hct]
    exact (scalar_copyDone (c := { c with xi := 0, wr := false }) hs hne hm 6).trans (copyStatus_cancelled c.moved)
  · refine ((exec_ccan ..).trans (issue_passes h _)).trans ?_
    simp only [hc]

end Sys2Proof.Machine
end

section
/-! SUPPORT. Instructions that wait: WCHK, WENG, YIELD, TICKW and bundles without an instruction (02 R48, R49, R52; 16 R376; 17 R402, R403,
R406). -/

namespace Sys2Proof.Machine

/-- An instruction that waits, and leaves no request, is BLOCKED (01 R20). -/
theorem blocking_idle {s : State} (hw : s.waiters = []) {i : Instr} (htry : s.tryFresh i = .wait none)
    (home land : Word → State → State) : s.blocking i home land = { s with u := { s.u with st := .blocked } } := by
  simp only [State.blocking, tryBlock_fresh hw, htry]
  rfl

/-- TICKW goes on once TICK has reached its target (16 R376). -/
theorem exec_tickw_reached {s : State} {sv : BitVec 6} (h : s.Passes (.tickw sv)) (hw : s.waiters = [])
    (hle : (s.S sv).toNat ≤ s.window.tick) (hlt : s.window.tick < 2 ^ 64) : exec (.tickw sv) s = .next s := by
  have hcond : ¬ BitVec.ofNat 64 s.window.tick < s.S sv := by
    rw [BitVec.lt_def, BitVec.toNat_ofNat, Nat.mod_eq_of_lt hlt]
    omega
  have htry : s.tryBlock (.tickw sv) = .go 0 false := (tryBlock_fresh hw _).trans (if_neg hcond)
  refine ((exec_tickw ..).trans (issue_passes h _)).trans ?_
  simp only [State.blocking, htry, Bool.false_eq_true, if_false]
  rw [show s.blockHomes (.tickw sv) = [] from rfl, noteRead_clean s [] (by simp), dropRequest_nil hw]

/-- Before that its unit is BLOCKED. -/
theorem exec_tickw_waits {s : State} {sv : BitVec 6} (h : s.Passes (.tickw sv)) (hw : s.waiters = [])
    (hlt : s.window.tick < (s.S sv).toNat) : exec (.tickw sv) s = .next { s with u := { s.u with st := .blocked } } := by
  have hcond : BitVec.ofNat 64 s.window.tick < s.S sv := by
    rw [BitVec.lt_def, BitVec.toNat_ofNat, Nat.mod_eq_of_lt (hlt.trans (BitVec.isLt _))]
    exact hlt
  exact ((exec_tickw ..).trans (issue_passes h _)).trans (congrArg _ (blocking_idle (i := .tickw sv) hw (if_pos hcond) ..))

/-- A bundle without an instruction that pops no latch passes its checks (03 R89). -/
theorem bundleTrap_nil {s : State} (hpop : s.hdr.pop = 0) : s.bundleTrap [] = none := by
  have hcause : latchCause s.u s.hdr [] = none := by simp [latchCause, hpop, firstTrap, List.range, List.range.loop]
  simp [State.bundleTrap, firstTrap, comboTrap, ownerTrap, latchTrap, collideTrap, shortTrap, shapeTrap, formatTrap, regTrap, least,
    sharedOf, lowest, hpop, hcause]

/-- It takes effect and ends (02 R48). -/
theorem exec_emptyBundle_ends (s : State) (p : Bool) (wait : BitVec 5) : exec (.emptyBundle p wait 0) s =
    .next { (({ s with hdr := ⟨p, wait.toNat, 0⟩ } : State).beginClause ⟨p, wait.toNat, 0⟩).finish with hdr := Header.none } := by
  rw [exec_emptyBundle, execEmptyBundle]
  simp only [show ((0 : BitVec 8).toNat) = 0 from rfl, bundleTrap_nil]

/-- Settles O30: TICKW by its two lemmas, a bundle without instructions by `finish_unpopped`. -/
theorem waitsComplete : Obligations.WaitsComplete := by
  unfold Obligations.WaitsComplete
  refine ⟨fun s m sm eng => ⟨fun h => (exec_wchk ..).trans (issue_passes h _), fun h => (exec_weng ..).trans (issue_passes h _),
      fun h => (exec_yield ..).trans (issue_passes h _), ?_, ?_⟩,
    fun s sv h hw => ⟨exec_tickw_reached h hw, exec_tickw_waits h hw⟩, fun s p wait ht hl => ⟨_, exec_emptyBundle_ends s p wait, ?_⟩⟩
  · simp [State.waitsEngine]
  · simp [State.waitsEngine]
  · have hbody : backEdge s.u.pc.toNat [] (s.u.pc.toNat + 1) = ([], s.u.pc.toNat + 1) := rfl
    have hnext : BitVec.ofNat 64 (s.u.pc.toNat + 1) = s.u.pc + 1 := by rw [BitVec.ofNat_add]; simp
    cases p with
    | false =>
      rw [State.beginClause, if_neg Bool.false_ne_true, finish_unpopped rfl]
      simp [Strand.finished, Strand.following, State.now, ht, hl, hbody, hnext]
    | true =>
      rw [State.beginClause, if_pos rfl, finish_unpopped rfl]
      simp [Strand.finished, Strand.following, Strand.modTime, State.modU, State.now, ht, hl, hbody, hnext]

end Sys2Proof.Machine
end

section
/-! SUPPORT. Signals and barriers at a word that they reach (09 R205, R206, R211; 15 R323; 17 R404). -/

namespace Sys2Proof.Machine

/-- The condition of WSIG's modes (03 R85). -/
def SigHolds (mode : Nat) (v x : Word) : Prop :=
  match mode with | 0 => x.toNat ≤ v.toNat | 1 => v = x | 2 => v ≠ x | 3 => v &&& x = x | _ => v &&& x ≠ 0

theorem sigMode_iff {mode : Nat} (h : mode ≤ 4) (v x : Word) : sigMode mode v x = true ↔ SigHolds mode v x := by
  match mode, h with
  | 0, _ | 1, _ | 2, _ | 3, _ | 4, _ => simp [sigMode, SigHolds, BitVec.ule]

/-- A member that arrives at a barrier is BLOCKED, its request at the home and counted there (09 R211). -/
theorem blocked_bar {s : State} {w : UnitId} {h gen n : Nat} (hc : s.mem.eccOf h = .clean) :
    s.blocked (some ⟨w, h, .bar gen n, none⟩) =
      ({ s with u := { s.u with st := .blocked }, waiters := s.waiters ++ [⟨w, h, .bar gen n, none⟩] } : State).writeWord h
        (s.mem.word h + 1) (s.mem.modeOf h) := by
  have hread := noteRead_clean { s with u := { s.u with st := .blocked }, waiters := s.waiters ++ [⟨w, h, .bar gen n, none⟩] } [h]
    fun _ hb => List.mem_singleton.mp hb ▸ hc
  exact congrArg (fun t : State => t.writeWord h (s.mem.word h + 1) (s.mem.modeOf h)) hread

/-! The three below unfold a function and not its value at s, as `blockHomes_ok` does. -/

theorem blockHomes_wsig {s : State} {sa sv d : BitVec 6} {oc mode : BitVec 4} {sp : Span} (h : s.sigSpan (s.S sa) kRead = .ok sp) :
    s.blockHomes (.wsig sa sv oc d mode) = s.spanHomes sp ∧ s.blockHomes (.wsiga sa sv oc d mode) = s.spanHomes sp := by
  have e : State.blockHomes = State.blockHomes := rfl
  conv at e => rhs; delta State.blockHomes
  obtain ⟨span, hspan⟩ : ∃ g, g = State.sigSpan := ⟨_, rfl⟩
  rw [← hspan] at e h
  exact ⟨by simp only [e, h], by simp only [e, h]⟩

theorem blockHomes_bar {s : State} {sa sn : BitVec 6} {oc : BitVec 4} {sp : Span} (h : s.sigSpan (s.S sa) kBoth = .ok sp) :
    s.blockHomes (.bar sa sn oc) = s.spanHomes sp ∧ s.blockHomes (.barc sa sn oc) = s.spanHomes sp := by
  have e : State.blockHomes = State.blockHomes := rfl
  conv at e => rhs; delta State.blockHomes
  obtain ⟨span, hspan⟩ : ∃ g, g = State.sigSpan := ⟨_, rfl⟩
  rw [← hspan] at e h
  exact ⟨by simp only [e, h], by simp only [e, h]⟩

theorem sigHome_ok {s : State} {sa : BitVec 6} {sp : Span} (h : s.sigSpan (s.S sa) kBoth = .ok sp) :
    s.sigHome sa = (s.spanHomes sp).headD 0 := by
  have e : State.sigHome = State.sigHome := rfl
  conv at e => rhs; delta State.sigHome
  simp only [e, h]

section
variable {s : State} {sp : Span} {h : Nat} (hr : s.Reaches sp h)
include hr

/-! Signals. -/

section
variable {sa sv : BitVec 6} {oc mode : BitVec 4} (hsp : s.sigSpan (s.S sa) kRead = .ok sp)
include hsp

theorem State.Reaches.sigTry_holds (hv : sigMode mode.toNat (s.mem.word h) (s.S sv) = true) :
    sigTry s sa sv oc mode = .go (s.mem.word h) false := by
  rw [sigTry, hsp, hr.atHome, if_pos hv]

theorem State.Reaches.sigTry_waits (hv : ¬ sigMode mode.toNat (s.mem.word h) (s.S sv) = true) : sigTry s sa sv oc mode = .wait none := by
  rw [sigTry, hsp, hr.atHome, if_neg hv]

end

/-- An instruction that waits for a signal which is there gives its value to its register (09 R206). -/
theorem exec_signal_holds {i : Instr} {d : BitVec 6}
    (hexec : exec i s = s.issue i (fun s => s.blocking i (fun _ s => s) (fun v s => s.landSoon 7 d.toNat v))) (hp : s.Passes i)
    (htry : s.tryFresh i = .go (s.mem.word h) false) (hhomes : s.blockHomes i = s.spanHomes sp) :
    exec i s = .next (s.landSoon 7 d.toNat (s.mem.word h)) := by
  rw [hexec, issue_passes hp, hr.blocking_go htry (hhomes.trans hr.spanHomes)]

theorem exec_signal_waits {i : Instr} {d : BitVec 6}
    (hexec : exec i s = s.issue i (fun s => s.blocking i (fun _ s => s) (fun v s => s.landSoon 7 d.toNat v))) (hp : s.Passes i)
    (htry : s.tryFresh i = .wait none) : exec i s = .next { s with u := { s.u with st := .blocked } } := by
  rw [hexec, issue_passes hp, blocking_idle hr.waiters htry]

/-! Barriers. -/

section
variable {sa sn : BitVec 6} {oc : BitVec 4} (hsp : s.sigSpan (s.S sa) kBoth = .ok sp)
include hsp

/-- The members that a barrier's word counts, and its generation (09 R211). -/
theorem State.Reaches.barTry (allCls : Bool) : Machine.barTry s sa sn oc allCls =
    if max 1 ((s.S sn).toNat % 2 ^ 32) ≤ (s.mem.word h).toNat % 2 ^ 32 + 1 then .go 0 false
    else .wait (some ⟨s.u.who, h, .bar ((s.mem.word h).toNat / 2 ^ 32) (max 1 ((s.S sn).toNat % 2 ^ 32)), none⟩) := by
  have hmine : s.myRequest h = none := by simp [State.myRequest, hr.waiters]
  rw [Machine.barTry, hsp, hr.atHome, hmine]
  simp only [leave_nil hr.waiters]

theorem State.Reaches.sigHome : s.sigHome sa = h := by
  rw [sigHome_ok hsp, hr.spanHomes]
  rfl

/-- The last member goes on, and the barrier's word takes the next generation. -/
theorem exec_bar_last {i : Instr} (hexec : exec i s = s.issue i (fun s => s.blocking i (fun _ s => s.releaseBar sa) (fun _ s => s)))
    (hp : s.Passes i) (htry : s.tryFresh i = .go 0 false) (hhomes : s.blockHomes i = s.spanHomes sp) :
    exec i s = .next (s.writeWord h (nextGen (s.mem.word h)) (s.mem.modeOf h)) := by
  rw [hexec, issue_passes hp, hr.blocking_go htry (hhomes.trans hr.spanHomes), State.releaseBar, hr.sigHome hsp]

end

/-- An earlier member counts itself at the word and leaves its request there. -/
theorem exec_bar_early {i : Instr} {sa : BitVec 6} {gen n : Nat}
    (hexec : exec i s = s.issue i (fun s => s.blocking i (fun _ s => s.releaseBar sa) (fun _ s => s))) (hp : s.Passes i)
    (htry : s.tryFresh i = .wait (some ⟨s.u.who, h, .bar gen n, none⟩)) :
    exec i s = .next (({ s with u := { s.u with st := .blocked }, waiters := [⟨s.u.who, h, .bar gen n, none⟩] } : State).writeWord h
      (s.mem.word h + 1) (s.mem.modeOf h)) := by
  rw [hexec, issue_passes hp]
  simp only [State.blocking, tryBlock_fresh hr.waiters, htry, blocked_bar hr.clean, hr.waiters, List.nil_append]

end

/-- The next generation of a barrier's word, its count back at zero (09 R211). -/
theorem toNat_nextGen (w : Word) : (nextGen w).toNat = (w.toNat / 2 ^ 32 + 1) % 2 ^ 32 * 2 ^ 32 := by
  rw [nextGen, BitVec.toNat_ofNat]
  omega

/-- Settles O34: a signal or a barrier at a word that it reaches, its condition there or not. -/
theorem signalsAndBarriers : Obligations.SignalsAndBarriers := by
  unfold Obligations.SignalsAndBarriers
  refine ⟨fun s sa sv d oc mode sp h hw hacc hadd hheld hpeer hhomes ha hc hsp hmode => ?_,
    fun s sa sn oc sp h hw hacc hadd hheld hpeer hhomes ha hc hwf hsp => ?_⟩
  · have hr : s.Reaches sp h := ⟨hw, hacc, hadd, hheld, hpeer, hhomes, ha, hc⟩
    obtain ⟨hhomes, hhomesA⟩ := blockHomes_wsig (sv := sv) (d := d) (oc := oc) (mode := mode) hsp
    refine ⟨fun hv => ?_, fun hv => ?_⟩
    · have htry := hr.sigTry_holds (oc := oc) hsp ((sigMode_iff hmode ..).mpr hv)
      exact ⟨fun hp => exec_signal_holds hr (exec_wsig ..) hp htry hhomes, fun hp => exec_signal_holds hr (exec_wsiga ..) hp htry hhomesA⟩
    · have htry := hr.sigTry_waits (oc := oc) hsp (mt (sigMode_iff hmode ..).mp hv)
      exact ⟨fun hp => exec_signal_waits hr (exec_wsig ..) hp htry, fun hp => exec_signal_waits hr (exec_wsiga ..) hp htry⟩
  · have hr : s.Reaches sp h := ⟨hw, hacc, hadd, hheld, hpeer, hhomes, ha, hc⟩
    obtain ⟨hhomes, hhomesC⟩ := blockHomes_bar (sn := sn) (oc := oc) hsp
    have hgen : ((s.writeWord h (nextGen (s.mem.word h)) (s.mem.modeOf h)).mem.word h).toNat =
        ((s.mem.word h).toNat / 2 ^ 32 + 1) % 2 ^ 32 * 2 ^ 32 := by rw [writeWord_mem, word_writeWord hwf ha hc, toNat_nextGen]
    refine ⟨fun hp => ⟨fun hn => ?_, fun hn => ?_⟩, fun hp => ⟨fun hn => ?_, fun hn => ?_⟩⟩
    · exact ⟨_, exec_bar_last hr hsp (exec_bar ..) hp ((hr.barTry hsp false).trans (if_pos hn)) hhomes, hgen, hw, rfl⟩
    · exact ⟨_, exec_bar_early hr (exec_bar ..) hp ((hr.barTry hsp false).trans (if_neg (Nat.not_le.mpr hn))), rfl, rfl,
        word_writeWord hwf ha hc⟩
    · exact ⟨_, exec_bar_last hr hsp (exec_barc ..) hp ((hr.barTry hsp true).trans (if_pos hn)) hhomesC, hgen, hw, rfl⟩
    · exact ⟨_, exec_bar_early hr (exec_barc ..) hp ((hr.barTry hsp true).trans (if_neg (Nat.not_le.mpr hn))), rfl, rfl,
        word_writeWord hwf ha hc⟩

end Sys2Proof.Machine
end

section
/-! SUPPORT. Allocations (07 R155, R159, R160; 15 R322, R337; 16 R364). -/

namespace Sys2Proof.Machine

/-! ALLOC. -/

section
variable {s : State} {z life : Nat} {h st k : Bool}

theorem grant_badSize (hz : z = 0 ∨ 320 < z) : s.grant z life h st k = (s, allocFail 1) := if_pos (by simpa using hz)

/-- A size that is there passes its check. -/
theorem size_sound (hlow : 1 ≤ z) (hhigh : z ≤ 320) : ¬ ((decide (z = 0) || decide (320 < z)) = true) := by
  simp
  omega

section
variable (hlow : 1 ≤ z) (hhigh : z ≤ 320)
include hlow hhigh

theorem grant_noLife (hlife : life = 0) : s.grant z life h st k = (s, allocFail 2) :=
  (if_neg (size_sound hlow hhigh)).trans (if_pos hlife)

section
variable (hlife : life ≠ 0)
include hlife

theorem grant_noRecord (hfull : 64 ≤ s.core.allocs.length) : s.grant z life h st k = (s, allocFail 3) :=
  (if_neg (size_sound hlow hhigh)).trans ((if_neg hlife).trans (if_pos hfull))

section
variable (hroom : s.core.allocs.length < 64)
include hroom

theorem grant_noChunk (hfree : s.core.freeFor s.u.who < 2 * z) : s.grant z life h st k = (s, allocFail 4) :=
  (if_neg (size_sound hlow hhigh)).trans ((if_neg hlife).trans ((if_neg (Nat.not_le.mpr hroom)).trans (if_pos hfree)))

variable (hfree : 2 * z ≤ s.core.freeFor s.u.who)
include hfree

theorem grant_noBase (hbase : s.core.lowestBase s.u.who z = none) : s.grant z life h st k = (s, allocFail 5) := by
  refine (if_neg (size_sound hlow hhigh)).trans ((if_neg hlife).trans ((if_neg (Nat.not_le.mpr hroom)).trans
    ((if_neg (Nat.not_lt.mpr hfree)).trans ?_)))
  simp only [hbase]

/-- A grant at the lowest base, of the lowest free chunks (log 40). -/
theorem grant_ok {g : Nat} (hbase : s.core.lowestBase s.u.who z = some g) : s.grant z life h st k =
    ((s.freshChunks s.core.index (s.core.freeChunks.take (2 * z))).modCore (fun c => { c with allocs := c.allocs ++
      [{ who := s.u.who, base := g, size := z, h := h, stg := st, k := k, expired := false, life := life,
         expiry := s.now + min life s.die.retn, lastren := s.now, chunks := s.core.freeChunks.take (2 * z) }] }),
      BitVec.ofNat 64 (g * 1024)) := by
  refine (if_neg (size_sound hlow hhigh)).trans ((if_neg hlife).trans ((if_neg (Nat.not_le.mpr hroom)).trans
    ((if_neg (Nat.not_lt.mpr hfree)).trans ?_)))
  simp only [hbase]

end
end
end
end

/-- ALLOC leaves its answer as an access to no home. -/
theorem exec_alloc_answers {s t : State} {d sz lf : BitVec 6} {h st k : Bool} {v : Word} (hp : s.Passes (.alloc d sz lf h st k))
    (hg : s.grant (s.S sz).toNat (s.S lf).toNat h st k = (t, v)) :
    exec (.alloc d sz lf h st k) s = .next (t.addAcc 7 (.granted d.toNat v) 16 [] 1 0) := by
  refine ((exec_alloc ..).trans (issue_passes hp _)).trans ?_
  rw [hg]

theorem addAcc_nowhere (s : State) (slot : Nat) (a : Act) (cls svc dl : Nat) : (s.addAcc slot a cls [] svc dl).u.accs =
    s.u.accs ++ [⟨a, cls, [], slot, s.u.pc, svc, s.now, dl, false, [], []⟩] := by
  rw [addAcc_last, List.flatMap_nil, State.blocksAt]
  simp

/-- A failure grants nothing. -/
theorem exec_alloc_fails {s : State} {d sz lf : BitVec 6} {h st k : Bool} {n : Nat} (hp : s.Passes (.alloc d sz lf h st k))
    (hn : allocFail n = BitVec.ofNat 64 (0x3C00000000000000 + n))
    (hg : s.grant (s.S sz).toNat (s.S lf).toNat h st k = (s, allocFail n)) :
    ∃ t, exec (.alloc d sz lf h st k) s = .next t ∧
      (∃ pre, t.u.accs = pre ++ [⟨.granted d.toNat (BitVec.ofNat 64 (0x3C00000000000000 + n)), 16, [], 7, s.u.pc, 1, s.now, 0, false, [],
        []⟩]) ∧ t.core = s.core ∧ t.mem = s.mem :=
  ⟨_, exec_alloc_answers hp hg, ⟨_, (addAcc_nowhere ..).trans (by rw [hn])⟩, rfl, rfl⟩

/-! FREE and RENEW. -/

theorem exec_free_some {s : State} {sa : BitVec 6} {a : Alloc} (hp : s.Passes (.free sa))
    (ha : s.core.allocBase s.u.who (s.S sa) = some a) :
    exec (.free sa) s = .next (
      let cs := a.chunks.map (fun k => s.core.index * 1024 + k)
      ((s.performIn cs).st.modU (fun u => u.hold (s.performIn cs).fault)).modCore (fun c => { c with
        allocs := dropFirst (fun b => decide (b = a)) c.allocs, pinned := c.pinned.filter (fun k => !cs.contains k) })) := by
  refine ((exec_free ..).trans (issue_passes hp _)).trans ?_
  simp only [ha]

/-- With nothing outstanding there is nothing to perform. -/
theorem performIn_idle {s : State} (h : s.u.accs = []) (cs : List Nat) : s.performIn cs = ⟨s, none⟩ := by
  rw [State.performIn, h]
  rfl

theorem exec_renew_some {s : State} {sa : BitVec 6} {a : Alloc} (hp : s.Passes (.renew sa))
    (ha : s.core.allocBase s.u.who (s.S sa) = some a) :
    exec (.renew sa) s = .next (s.modCore (fun c => { c with allocs := updFirst (fun b => decide (b = a)) (fun b =>
      { b with lastren := s.now, expiry := s.now + min b.life s.die.retn }) c.allocs })) := by
  refine ((exec_renew ..).trans (issue_passes hp _)).trans ?_
  simp only [ha]

theorem mem_of_allocBase {c : Core} {w : UnitId} {pa : Word} {a : Alloc} (h : c.allocBase w pa = some a) : a ∈ c.allocs := by
  unfold Core.allocBase at h
  split at h
  · exact List.mem_of_find?_eq_some h
  · cases h

/-- A change of the first item equal to one that is there is found in its place. -/
theorem mem_updFirst_eq {α : Type} [DecidableEq α] (f : α → α) {a : α} {l : List α} (h : a ∈ l) :
    f a ∈ updFirst (fun b => decide (b = a)) f l := by
  induction l with
  | nil => cases h
  | cons b r ih =>
    by_cases hb : b = a
    · simp [updFirst, hb]
    · simp [updFirst, hb, ih ((List.mem_cons.mp h).resolve_left (Ne.symm hb))]

theorem not_mem_filter_contains {cs : List Nat} {k : Nat} (h : k ∈ cs) (l : List Nat) : k ∉ l.filter (fun k => !cs.contains k) := by
  simp [h]

/-- Settles O31: ALLOC by the branches of `grant`, FREE and RENEW by the allocation that they name. -/
theorem allocations : Obligations.Allocations := by
  unfold Obligations.Allocations
  refine ⟨fun s d sz lf h st k => ?_, fun s sa a ha => ⟨fun hp => ?_, fun hp => ?_⟩⟩
  · intro z life i answers fails hp
    refine ⟨fun hz => exec_alloc_fails hp rfl (grant_badSize hz), fun hl hh hlife => exec_alloc_fails hp rfl (grant_noLife hl hh hlife),
      fun hl hh hlife hfull => exec_alloc_fails hp rfl (grant_noRecord hl hh hlife hfull),
      fun hl hh hlife hroom hfree => exec_alloc_fails hp rfl (grant_noChunk hl hh hlife hroom hfree),
      fun hl hh hlife hroom hfree => ⟨fun hb => exec_alloc_fails hp rfl (grant_noBase hl hh hlife hroom hfree hb), fun g hb => ?_⟩⟩
    exact ⟨_, _, exec_alloc_answers hp (grant_ok hl hh hlife hroom hfree hb), ⟨_, addAcc_nowhere ..⟩, rfl, rfl, rfl, rfl, rfl, rfl, rfl,
      rfl, rfl, rfl, rfl⟩
  · refine ⟨_, exec_free_some hp ha, fun c hc => ?_, fun hacc => ?_⟩
    · exact not_mem_filter_contains (List.mem_map_of_mem hc) _
    · simp only [performIn_idle hacc]
      exact ⟨rfl, rfl, rfl⟩
  · exact ⟨_, exec_renew_some hp ha, rfl, rfl, mem_updFirst_eq _ (mem_of_allocBase ha)⟩

end Sys2Proof.Machine
end

section
/-! SUPPORT. Queue latches (02 R64; 16 R363). -/

namespace Sys2Proof.Machine

theorem latch_setLatch {u : Strand} (h : wfTab Latch.none u.regs.q = true) (q : Nat) (l : Latch) : (u.setLatch q l).latch q = l :=
  lookup_put_self h

theorem setLatch_wf {u : Strand} (h : wfTab Latch.none u.regs.q = true) (q : Nat) (l : Latch) :
    wfTab Latch.none (u.setLatch q l).regs.q = true := put_wf h

/-! Reading a channel leaves the latches as they are. -/

theorem engineFetch_u (s : State) (slot : Nat) (l : List (Word × Nat × Nat)) : (s.engineFetch slot l).st.u = s.u := by
  induction l generalizing s with
  | nil => rfl
  | cons x r ih =>
    obtain ⟨a, n, blk⟩ := x
    rw [State.engineFetch]
    split
    next => rfl
    next sp _ =>
      split
      next => exact (sameButErrors_noteRead s sp.homes).u
      next => exact (ih _).trans (sameButErrors_noteRead s sp.homes).u

theorem engineReads_latches (s : State) (slot : Nat) (l : List (Word × Nat × Nat)) :
    (s.engineReads slot l).st.u.regs.q = s.u.regs.q := by
  change (s.engineFetch slot l).st.u.regs.q = s.u.regs.q
  rw [engineFetch_u]

/-! QBIND and the fetch of a head. -/

theorem exec_qbind_s0 {s : State} {q : BitVec 3} {fmt : BitVec 4} (h : s.Passes (.qbind q 0 fmt)) :
    ∃ t, exec (.qbind q 0 fmt) s = .next t ∧ t.mem = s.mem ∧ t.u.regs = (s.u.setLatch q.toNat Latch.none).regs :=
  ⟨_, ((exec_qbind ..).trans (issue_passes h _)).trans (congrArg _ (if_pos rfl)), rfl, rfl⟩

theorem exec_qbind_binds {s : State} {q : BitVec 3} {sc : BitVec 6} {fmt : BitVec 4} (h : s.Passes (.qbind q sc fmt)) (hsc : sc ≠ 0) :
    ∃ t a, exec (.qbind q sc fmt) s = .next t ∧ t.mem = s.mem ∧
      t.u.regs = ((s.u.setLatch q.toNat Latch.none).setLatch q.toNat ⟨true, s.S sc, fmt.toNat, 0, none, none, none⟩).regs ∧
      t.u.accs.getLast? = some a ∧ a.act = .qhead q.toNat ∧ a.cls = 0 :=
  ⟨_, _, ((exec_qbind ..).trans (issue_passes h _)).trans (congrArg _ (if_neg hsc)), rfl, rfl,
    (congrArg List.getLast? (addAcc_last ..)).trans List.getLast?_concat, rfl, rfl⟩

/-- The items pushed into a channel, as its header counts them (16 R363). -/
theorem channelHeader_pushed (bs : List Byte) : (channelHeader bs).1 = bytesNat bs % 2 ^ 64 := by
  rw [channelHeader, bitsAt, Nat.shiftRight_zero]

/-- What is made of a read that gave its bytes. -/
theorem engineRead_ok {α : Type} {r : EngineRead} {bs : List (List Byte)} (h : r.data = .ok bs) (f : Trap → α) (g : List (List Byte) → α) :
    (match r.data with | .error t => f t | .ok x => g x) = g bs := by
  rw [h]

/-- A latch that is bound, empty and without a cause, its channel's header known, and asked for nothing. -/
structure State.Fetches (s : State) (q n : Nat) : Prop where
  bound : (s.u.latch q).bound = true
  head : (s.u.latch q).head = none
  cause : (s.u.latch q).cause = none
  logn : (s.u.latch q).logn = some n
  asked : s.u.accs.any (fun a => match a.act with | .qhead p => p = q | _ => false) = false

section
variable {s : State} {q n : Nat} (h : s.Fetches q n)
include h

/-! The three below unfold `latchStep` and not its value at s, and rewrite the number of items with a named equation: Lean's kernel
would otherwise evaluate the read of an item. -/

/-- Such a latch goes on to read its channel. -/
theorem State.Fetches.goes_on : ¬ ((!(s.u.latch q).bound || (s.u.latch q).head.isSome || (s.u.latch q).cause.isSome ||
    s.u.accs.any (fun a => match a.act with | .qhead p => p = q | _ => false)) = true) := by
  rw [h.bound, h.head, h.cause, h.asked]
  decide

theorem latchStep_fails {c : Trap} (hr : (s.engineReads 7 [((s.u.latch q).chan, 64, 0)]).data = .error c) :
    s.latchStep q = some ((s.engineReads 7 [((s.u.latch q).chan, 64, 0)]).st.latchFails q c) := by
  have e : State.latchStep = State.latchStep := rfl
  conv at e => rhs; delta State.latchStep
  rw [e]
  refine (if_neg h.goes_on).trans ?_
  simp only [hr]

section
variable {hs : List (List Byte)} (hr : (s.engineReads 7 [((s.u.latch q).chan, 64, 0)]).data = .ok hs)
include hr

theorem latchStep_empty (hp : bytesNat hs.flatten % 2 ^ 64 ≤ (s.u.latch q).pos.toNat) : s.latchStep q = none := by
  have e : State.latchStep = State.latchStep := rfl
  conv at e => rhs; delta State.latchStep
  have hpushed : (channelHeader hs.flatten).1 ≤ (s.u.latch q).pos.toNat := (channelHeader_pushed _).trans_le hp
  rw [e]
  refine (if_neg h.goes_on).trans ((engineRead_ok hr _ _).trans ((if_neg ?_).trans (if_pos hpushed)))
  rw [h.logn]
  exact Bool.false_ne_true

theorem latchStep_head (hp : (s.u.latch q).pos.toNat < bytesNat hs.flatten % 2 ^ 64) {bs : List (List Byte)}
    (hi : ((s.engineReads 7 [((s.u.latch q).chan, 64, 0)]).st.engineReads 7
      [(addOff (s.u.latch q).chan (64 + 64 * ((s.u.latch q).pos.toNat % 2 ^ n)), 64, 0)]).data = .ok bs) :
    s.latchStep q = some (((s.engineReads 7 [((s.u.latch q).chan, 64, 0)]).st.engineReads 7
      [(addOff (s.u.latch q).chan (64 + 64 * ((s.u.latch q).pos.toNat % 2 ^ n)), 64, 0)]).st.modU (fun u =>
        u.setLatch q { s.u.latch q with logn := some n, head := some (bytesRow bs.flatten) })) := by
  have e : State.latchStep = State.latchStep := rfl
  conv at e => rhs; delta State.latchStep
  have hpushed : ¬ (channelHeader hs.flatten).1 ≤ (s.u.latch q).pos.toNat :=
    fun hle => absurd ((channelHeader_pushed _).symm.trans_le hle) (Nat.not_le.mpr hp)
  rw [e]
  refine (if_neg h.goes_on).trans ((engineRead_ok hr _ _).trans ((if_neg ?_).trans ((if_neg hpushed).trans ?_)))
  · rw [h.logn]
    exact Bool.false_ne_true
  · have hn : (s.u.latch q).logn.getD (bitsAt (bytesNat hs.flatten) 128 4) = n := by rw [h.logn, Option.getD_some]
    rw [hn]
    simp only [hi]
end
end

/-- Settles O32: QBIND by its two forms, the fetch by the branches of `latchStep`. -/
theorem queueLatches : Obligations.QueueLatches := by
  unfold Obligations.QueueLatches
  refine ⟨fun s q sc fmt h hwf => ?_, ?_⟩
  · by_cases hsc : sc = 0
    · subst hsc
      obtain ⟨t, hexec, hmem, hregs⟩ := exec_qbind_s0 h
      exact ⟨t, hexec, hmem, fun _ => by rw [Strand.latch, hregs]; exact latch_setLatch hwf .., fun h => absurd rfl h⟩
    · obtain ⟨t, a, hexec, hmem, hregs, hlast⟩ := exec_qbind_binds h hsc
      refine ⟨t, hexec, hmem, fun h => absurd h hsc, fun _ => ⟨?_, a, hlast⟩⟩
      rw [Strand.latch, hregs]
      exact latch_setLatch (setLatch_wf hwf ..) ..
  · intro s q n hs bs l r x i hb hh hc hl hwf hasked
    have hf : s.Fetches q.toNat n := ⟨hb, hh, hc, hl, hasked⟩
    have hr : r.st.u.regs.q = s.u.regs.q := engineReads_latches ..
    have hi : i.st.u.regs.q = s.u.regs.q := (engineReads_latches ..).trans hr
    refine ⟨fun c hdata => ⟨_, congrArg (fun o => Host.Outcome.next (Option.getD o s)) (latchStep_fails hf hdata), ?_⟩,
      fun hdata hp => congrArg (fun o => Host.Outcome.next (Option.getD o s)) (latchStep_empty hf hdata hp),
      fun hdata hp hitem => ⟨_, congrArg (fun o => Host.Outcome.next (Option.getD o s)) (latchStep_head hf hdata hp hitem), ?_⟩⟩
    · refine (latch_setLatch (by rw [hr]; exact hwf) ..).trans ?_
      rw [Strand.latch, hr]
      rfl
    · refine (latch_setLatch (by rw [hi]; exact hwf) ..).trans ?_
      rw [← hl]

end Sys2Proof.Machine
end

section
/-! SUPPORT. Words that the spec prints (03; 16 R363; 17 R397), and the state right after reset (14 R306, R315, R316). -/

namespace Sys2Proof.Machine

/-- The word of a well-formed instruction is read back as it (`encodingsRoundTrip`). -/
theorem decode_of_encode {i : Instr} {k : SlotKind} {w : BitVec 64} (hw : encode i = w) (hk : i.slotKind = some k)
    (hwf : i.wellFormed = true) : decode k w = .ok i := hw ▸ encodingsRoundTrip i k hk hwf

/-- Settles O54: each printed word is the word of its instruction, which is well-formed. -/
theorem wordsDecode : Obligations.WordsDecode := by
  unfold Obligations.WordsDecode
  refine ⟨decode_of_encode ?_ rfl ?_, decode_of_encode ?_ rfl ?_, decode_of_encode ?_ rfl ?_, decode_of_encode ?_ rfl ?_,
    decode_of_encode ?_ rfl ?_, decode_of_encode ?_ rfl ?_, decode_of_encode ?_ rfl ?_, ?_⟩
  all_goals decide +kernel

/-! Reset: every strand, core and die is that of its place. -/

theorem mem_reset_strands {u : Strand} (h : u ∈ State.reset.allStrands) : ∃ p, u = Strand.boot 0 p := by
  have hall : u ∈ dieNums.flatMap (fun d => [0, 1, 2].flatMap (fun c => [0, 1, 2, 3].flatMap (fun k => strandsOf d c k))) := h
  simp only [List.mem_flatMap, strandsOf, List.mem_map] at hall
  obtain ⟨d, -, c, -, k, -, n, -, rfl⟩ := hall
  exact ⟨_, rfl⟩

theorem mem_reset_cores {c : Core} (h : c ∈ State.reset.allCores) : ∃ d l k, c = Core.reset d l k := by
  have hall : c ∈ dieNums.flatMap coresOf := h
  simp only [List.mem_flatMap, coresOf, List.mem_map] at hall
  obtain ⟨d, -, l, -, k, -, rfl⟩ := hall
  exact ⟨_, _, _, rfl⟩

theorem mem_reset_dies {x : Die} (h : x ∈ State.reset.allDies) : ∃ d, x = Die.reset d := by
  have hall : x ∈ dieNums.map Die.reset := h
  obtain ⟨d, -, rfl⟩ := List.mem_map.mp hall
  exact ⟨_, rfl⟩

/-- Settles O56, from the strand, the core and the die at reset. -/
theorem resetLeaves : Obligations.ResetLeaves := by
  unfold Obligations.ResetLeaves
  refine ⟨fun u hu => ?_, fun c hc => ?_, fun d hd => ?_, by decide +kernel, by decide +kernel, rfl, rfl, rfl, rfl, rfl⟩
  · obtain ⟨p, rfl⟩ := mem_reset_strands hu
    exact ⟨rfl, rfl, rfl, rfl, rfl, rfl, rfl, rfl, rfl, rfl, rfl⟩
  · obtain ⟨d, l, k, rfl⟩ := mem_reset_cores hc
    exact ⟨rfl, rfl, rfl, rfl, rfl, rfl, rfl⟩
  · obtain ⟨n, rfl⟩ := mem_reset_dies hd
    exact ⟨rfl, rfl, rfl, rfl, rfl⟩

end Sys2Proof.Machine
end

section
/-! SUPPORT. Scrubs, ways, pages and dies (13 R286 to R294; 14 R310). -/

namespace Sys2Proof.Machine

/-! Entries in the error log. -/

/-- An entry in the log changes the log and the window's counters alone. -/
theorem logTagged_frame (s : State) (addr kind tag d : Nat) :
    ∃ e w, s.logTagged addr kind tag d = { s with errs := { s.errs with queue := e }, window := w } := by
  rw [State.logTagged, State.logEntry]
  exact iteInduction (motive := fun t => ∃ e w, t = ({ s with errs := { s.errs with queue := e }, window := w } : State))
    (fun _ => ⟨s.errs.queue, _, rfl⟩) (fun _ => ⟨_, _, rfl⟩)

theorem logTagged_queue {s : State} (h : s.errs.queue.length < 256) (addr kind tag d : Nat) :
    (s.logTagged addr kind tag d).errs.queue =
      s.errs.queue ++ [⟨addr, kind, tag, placeWord s.u.place, s.cycleOf d % 2 ^ 32⟩] := by
  rw [State.logTagged, State.logEntry, if_neg (Nat.not_le.mpr h)]

/-! Scrubs. -/

/-- A scrub of a corrected granule that is asked for. -/
theorem scrub_asked {s : State} {a : Nat} (h : ∃ x ∈ s.errs.scrubs, x.1 = granOf a) (hc : s.mem.eccOf (granOf a) = .correctable) :
    s.scrub a = { s.modMem (fun m => m.setEcc (granOf a) .clean) with
      errs := { s.errs with scrubs := s.errs.scrubs.filter (fun x => x.1 ≠ granOf a) } } := by
  have hany : s.errs.scrubs.any (fun x => x.1 = granOf a) = true := by simpa using h
  exact (if_pos hany).trans (by rw [if_pos hc]; rfl)

theorem eccOf_setEcc_self {m : Memory} (hw : wfTab Code.clean m.ecc = true) (a : Nat) (c : Code) :
    (m.setEcc a c).eccOf a = c.read (isGlobal a) (m.modeOf a) (granOf a) := by
  rw [Memory.eccOf, Memory.setEcc, lookup_put_self hw]
  rfl

/-- A fresh code word reads back sound. -/
theorem eccOf_setEcc_clean {m : Memory} (hw : wfTab Code.clean m.ecc = true) (a : Nat) : (m.setEcc a .clean).eccOf a = .clean := by
  rw [eccOf_setEcc_self hw]
  cases isGlobal a <;> rfl

/-! The last-level cache. -/

section
variable {s : State} {line slice way : Nat} (h : (slice, way) ∉ s.errs.ways)
include h

theorem way_open : ¬ (s.errs.ways.contains (slice, way) = true) := by simpa using h

theorem exec_llcLineError_clean : exec (.llcLineError line slice way false) s =
    .next (s.logTagged (64 * line) 5 (s.mem.tagOf (64 * line) - 1) (stackOf (64 * line))) :=
  congrArg Host.Outcome.next (if_neg (way_open h))

/-- A dirty line that no writer owns (13 R290). -/
theorem exec_llcLineError_dirty (hown : s.mem.tagOf (64 * line) = 0) : ∃ e w, exec (.llcLineError line slice way true) s =
    .next { s with errs := { s.errs with queue := e, ways := s.errs.ways ++ [(slice, way)] }, window := w,
                   mem := (s.mem.setEcc (64 * line) .poisoned).setEcc (64 * line + 32) .poisoned } := by
  obtain ⟨e, w, hlog⟩ := logTagged_frame s (64 * line) 4 (s.mem.tagOf (64 * line) - 1) (stackOf (64 * line))
  refine ⟨e, w, (congrArg Host.Outcome.next ((if_neg (way_open h)).trans (if_pos hown))).trans ?_⟩
  rw [hlog]
  rfl

end

/-- The two granules of a line are poisoned. -/
theorem line_poisoned {m : Memory} (hw : wfTab Code.clean m.ecc = true) {line : Nat} (hl : line < 2 ^ 58) :
    ((m.setEcc (64 * line) .poisoned).setEcc (64 * line + 32) .poisoned).eccOf (64 * line) = .poisoned ∧
      ((m.setEcc (64 * line) .poisoned).setEcc (64 * line + 32) .poisoned).eccOf (64 * line + 32) = .poisoned := by
  have hne : granOf (64 * line) ≠ granOf (64 * line + 32) := by
    have hlow : isGlobal (64 * line) = true := decide_eq_true (by omega)
    have hhigh : isGlobal (64 * line + 32) = true := decide_eq_true (by omega)
    simp only [granOf, granBytes, hlow, hhigh, if_true]
    omega
  refine ⟨eccOf_poisoned ?_, eccOf_poisoned (lookup_put_self (put_wf hw))⟩
  exact (lookup_put_ne hne (put_wf hw)).trans (lookup_put_self hw)

/-! Pages. -/

theorem logFault_secure (s : State) (a kind : Nat) : (s.logFault a kind).secure = s.secure := by
  rw [State.logFault, State.logEntry]
  exact iteInduction (motive := fun t : State => t.secure = s.secure) (fun _ => rfl) (fun _ => rfl)

theorem logCorrected_secure (s : State) (g : Nat) : (s.logCorrected g).secure = s.secure :=
  iteInduction (motive := fun t : State => t.secure = s.secure) (fun _ => rfl) (fun _ => logFault_secure _ _ _)

theorem noteRead_secure (s : State) (homes : List Nat) : (s.noteRead homes).secure = s.secure := by
  refine foldl_inv (fun t : State => t.secure = s.secure) (Memory.granules homes) s rfl fun t g _ h => ?_
  split
  · have hlog : (if isGlobal g then t.logCorrected g else t).secure = s.secure := by
      split
      · exact (logCorrected_secure t g).trans h
      · exact h
    exact iteInduction (motive := fun r : State => r.secure = s.secure) (fun _ => hlog) (fun _ => hlog)
  · exact (logFault_secure ..).trans h
  · exact h

/-- What reading a page and logging its bad granules leaves: the bytes of memory and the secure element's records. -/
def SameRecords (s t : State) : Prop := t.mem.bytes = s.mem.bytes ∧ t.secure = s.secure

theorem sameRecords_noteRead (s : State) (homes : List Nat) : SameRecords s (s.noteRead homes) :=
  ⟨(sameButErrors_noteRead s homes).bytes, noteRead_secure s homes⟩

theorem sameRecords_logTagged (s : State) (addr kind tag d : Nat) : SameRecords s (s.logTagged addr kind tag d) := by
  obtain ⟨e, w, h⟩ := logTagged_frame s addr kind tag d
  rw [h]
  exact ⟨rfl, rfl⟩

theorem SameRecords.trans {r s t : State} (h : SameRecords r s) (k : SameRecords s t) : SameRecords r t :=
  ⟨k.1.trans h.1, k.2.trans h.2⟩

/-- A page's copy is a copy of its bytes, once it is read and logged. -/
theorem copyPage_frame (s : State) (src dst : Nat) : ∃ t, SameRecords s t ∧ s.copyPage src dst = t.modMem (fun m => m.copyPage src dst) := by
  refine ⟨_, SameRecords.trans (s := (List.range 2048).foldl (fun s i => s.noteRead [src + 32 * i]) s) ?_ ?_, rfl⟩
  · exact foldl_inv (SameRecords s) _ s ⟨rfl, rfl⟩ fun t i _ h => h.trans (sameRecords_noteRead t _)
  · refine foldl_inv (SameRecords _) _ _ ⟨rfl, rfl⟩ fun t i _ h => ?_
    split
    · exact h.trans (sameRecords_logTagged ..)
    · exact h

/-- The bytes of a page are those of the range copied: what is done granule by granule changes none. -/
theorem byte_copyPage (m : Memory) (src dst a : Nat) : (m.copyPage src dst).byte a = (m.copyRange src dst 65536).byte a := by
  refine foldl_inv (fun k : Memory => k.byte a = (m.copyRange src dst 65536).byte a) _ _ rfl fun k i _ h => ?_
  refine foldl_inv (fun k : Memory => k.byte a = (m.copyRange src dst 65536).byte a) _ _ h fun k j _ h => ?_
  split
  · exact h
  · exact h

/-- A page copied to its spare and remapped by the driver (13 R289 steps 2, 3). -/
def State.moved (s : State) (page spare : Nat) : State :=
  (s.copyPage (65536 * page) (65536 * spare)).modWork (fun w => { w with maps := w.maps.flatMap (fun x => x.moved page spare) })

/-- Then leases are granted again. -/
def State.remapped (s : State) (page spare : Nat) : State :=
  ((s.moved page spare).work.ctxs.map Ctx.id).foldl State.regrantLeases (s.moved page spare)

/-- The list takes the page, or this boot alone when it is full (13 R289 step 4). -/
def Secure.retires (c : Secure) (list : List (Nat × Nat)) (page spare : Nat) : Secure :=
  if list.length < 4096 then { c with records := { c.records with badpage := store c.records.badpage (list ++ [(page, spare)]) } }
  else { c with listfull := true, retiredNow := c.retiredNow ++ [page] }

theorem exec_pageRetirement_remapped (s : State) (page spare : Nat) : exec (.pageRetirement page spare) s =
    .next { s.remapped page spare with secure := (s.remapped page spare).secure.retires (s.remapped page spare).badList page spare } := by
  unfold State.remapped State.moved
  rw [exec_pageRetirement, execPageRetirement]
  generalize s.copyPage (65536 * page) (65536 * spare) = t
  rfl

theorem remapped_spec {s : State} (hw : s.mem.wf = true) (page spare : Nat) :
    (∀ i, i < 65536 → (s.remapped page spare).mem.byte (65536 * spare + i) = s.mem.byte (65536 * page + i)) ∧
      (s.remapped page spare).secure = s.secure := by
  obtain ⟨r, ⟨hbytes, hsecure⟩, hcopy⟩ := copyPage_frame s (65536 * page) (65536 * spare)
  obtain ⟨n, ls, hr⟩ : SameButLeases (s.moved page spare) (s.remapped page spare) := sameButLeases_regrants _ _
  rw [State.moved, hcopy] at hr
  refine ⟨fun i hi => ?_, by rw [hr, modWork_secure, modWork_secure, modMem_secure, hsecure]⟩
  have hwr : r.mem.wf = true := (congrArg (wfTab Memory.default) hbytes).trans hw
  rw [hr, modWork_mem, modWork_mem, modMem_mem, byte_copyPage, byte_copyRange hwr hi, Memory.byte, hbytes, Memory.byte]

/-- The secure element's records replaced: the bytes of memory stand. -/
theorem withSecure_bytes {r s : State} {page spare : Nat}
    (h : ∀ i, i < 65536 → r.mem.byte (65536 * spare + i) = s.mem.byte (65536 * page + i)) (c : Secure) :
    ∃ t, (Host.Outcome.next { r with secure := c } : Host.Outcome State Fault Refusal) = .next t ∧
      (∀ i, i < 65536 → t.mem.byte (65536 * spare + i) = s.mem.byte (65536 * page + i)) ∧ t.secure = c := ⟨_, rfl, h, rfl⟩

theorem pageRetirement_spec {s : State} (hw : s.mem.wf = true) (page spare : Nat) : ∃ t, exec (.pageRetirement page spare) s = .next t ∧
    (∀ i, i < 65536 → t.mem.byte (65536 * spare + i) = s.mem.byte (65536 * page + i)) ∧
      t.secure = s.secure.retires s.badList page spare := by
  obtain ⟨hbytes, hsecure⟩ := remapped_spec hw page spare
  rw [exec_pageRetirement_remapped, State.badList, hsecure, ← State.badList]
  exact withSecure_bytes hbytes _

section
variable (c : Secure) (page spare : Nat) {list : List (Nat × Nat)}

/-- A list with room takes the page. -/
theorem retires_listed (h : list.length < 4096) : (newest (c.retires list page spare).records.badpage).getD [] = list ++ [(page, spare)] := by
  rw [Secure.retires, if_pos h, newest_store]
  rfl

/-- A full one stands: this boot alone leaves the page out. -/
theorem retires_unlisted (h : 4096 ≤ list.length) :
    c.retires list page spare = { c with listfull := true, retiredNow := c.retiredNow ++ [page] } := if_neg (Nat.not_lt.mpr h)

end

/-! Dies. -/

/-- The die looked for, when the one of its number was changed and kept its number. -/
theorem dieAt_modDieAt {f : Die → Die} (hf : ∀ x, (f x).num = x.num) (s : State) (d : Nat) :
    (s.modDieAt d f).dieAt d = (s.dieAt d).map f := by
  unfold State.modDieAt
  split
  next h => simp [State.dieAt, State.allDies, hf, h]
  next h =>
    simp only [State.dieAt, State.allDies, List.find?_cons, h, decide_false]
    exact find?_updFirst (fun a => by rw [hf]) s.dies

theorem getLsbD_setMapBit (s : State) {d : Nat} (hd : d < 16) (on : Bool) : (s.setMapBit d on).work.pendLive.getLsbD d = on := by
  have hbit : (BitVec.ofNat 16 (2 ^ d)).getLsbD d = true := by rw [BitVec.getLsbD_ofNat, Nat.testBit_two_pow_self, decide_eq_true hd]; rfl
  cases on
  · exact (BitVec.getLsbD_and ..).trans (by rw [BitVec.getLsbD_not, hbit, Bool.not_true, Bool.and_false, Bool.and_false])
  · exact (BitVec.getLsbD_or ..).trans (by rw [hbit, Bool.or_true])

theorem takeFirmware_frame (s : State) (component d : Nat) :
    ∃ a r, s.takeFirmware component d = { s with secure := { s.secure with active := a, running := r } } := by
  unfold State.takeFirmware
  split
  · exact ⟨s.secure.active, s.secure.running, rfl⟩
  · exact ⟨_, _, rfl⟩

theorem modDieAt_frame (s : State) (d : Nat) (f : Die → Die) : ∃ x l, s.modDieAt d f = { s with die := x, dies := l } := by
  unfold State.modDieAt
  split
  · exact ⟨_, s.dies, rfl⟩
  · exact ⟨s.die, _, rfl⟩

theorem modDieAt_secure (s : State) (d : Nat) (f : Die → Die) : (s.modDieAt d f).secure = s.secure := by
  obtain ⟨x, l, h⟩ := modDieAt_frame s d f
  rw [h]

/-- The reset of a die that holds no unit. -/
theorem resetDie_empty {s : State} {d : Nat} {y : Die} (hy : s.dieAt d = some y)
    (hoff : ∀ u ∈ s.allStrands, u.place.die = d → u.st.onStrand = false) :
    (s.resetDie d).mem = s.mem ∧ (s.resetDie d).work = s.work ∧ (s.resetDie d).secure = s.secure ∧
      (s.resetDie d).dieAt d = some (y.rebooted s.window.started) := by
  have hnone : s.allStrands.filter (fun u => u.place.die = d && u.st.onStrand) = [] := by
    refine List.filter_eq_nil_iff.mpr fun u hu hon => ?_
    simp only [Bool.and_eq_true, decide_eq_true_eq] at hon
    exact Bool.false_ne_true ((hoff u hu hon.1).symm.trans hon.2)
  have hreset : ∃ t : State, t.mem = s.mem ∧ t.work = s.work ∧ t.secure = s.secure ∧ t.dieAt d = some y ∧
      s.resetDie d = t.modDieAt d (Die.rebooted s.window.started) := by
    unfold State.resetDie
    rw [hnone]
    refine ⟨_, ?_, ?_, ?_, ?_, rfl⟩
    exacts [rfl, rfl, rfl, hy]
  obtain ⟨t, hmem, hwork, hsecure, hdie, h⟩ := hreset
  rw [h, modDieAt_mem, modDieAt_work, modDieAt_secure, dieAt_modDieAt (f := Die.rebooted _) (fun _ => rfl), hdie]
  exact ⟨hmem, hwork, hsecure, rfl⟩

/-- The memory, the contexts' work and the strands of two states are the same, but for the units saved. -/
structure SameButSaved (s t : State) : Prop where
  mem : t.mem = s.mem
  work : ∃ l, t.work = { s.work with saved := l }
  strands : t.allStrands = s.allStrands

theorem SameButSaved.trans {r s t : State} (h : SameButSaved r s) (k : SameButSaved s t) : SameButSaved r t := by
  obtain ⟨hmem, ⟨l, hwork⟩, hstrands⟩ := h
  obtain ⟨kmem, ⟨m, kwork⟩, kstrands⟩ := k
  exact ⟨kmem.trans hmem, ⟨m, by rw [kwork, hwork]⟩, kstrands.trans hstrands⟩

theorem sameButSaved_modDieAt (s : State) (d : Nat) (f : Die → Die) : SameButSaved s (s.modDieAt d f) := by
  obtain ⟨x, l, h⟩ := modDieAt_frame s d f
  rw [h]
  exact ⟨rfl, ⟨s.work.saved, rfl⟩, rfl⟩

theorem sameButSaved_modSaved (s : State) (f : List Saved → List Saved) :
    SameButSaved s (s.modWork (fun w => { w with saved := f w.saved })) := ⟨rfl, ⟨_, rfl⟩, rfl⟩

theorem sameButSaved_takeFirmware (s : State) (component d : Nat) : SameButSaved s (s.takeFirmware component d) := by
  obtain ⟨a, r, h⟩ := takeFirmware_frame s component d
  rw [h]
  exact ⟨rfl, ⟨s.work.saved, rfl⟩, rfl⟩

/-- A die marked fenced, and the units saved of it dropped (13 R292). -/
def State.fenceMarked (s : State) (d : Nat) : State :=
  (s.modDieAt d (fun x => { x with fenced := true, fwFault := false })).modWork (fun w =>
    { w with saved := w.saved.filter (fun v => v.die ≠ d) })

/-- A die that is fenced, before its reset: its firmware's image is taken again, and where the fault lies in its core firmware moves. -/
def State.fenceStarted (s : State) (d : Nat) (located : Bool) : State :=
  if located then ((s.fenceMarked d).takeFirmware 0 d).moveFirmware d else (s.fenceMarked d).takeFirmware 0 d

theorem sameButSaved_fenceMarked (s : State) (d : Nat) : SameButSaved s ((s.fenceMarked d).takeFirmware 0 d) :=
  ((sameButSaved_modDieAt ..).trans (sameButSaved_modSaved ..)).trans (sameButSaved_takeFirmware ..)

theorem fenceMarked_fwRecord (s : State) (d : Nat) : ((s.fenceMarked d).takeFirmware 0 d).fwRecord = s.fwRecord := by
  obtain ⟨a, r, h⟩ := takeFirmware_frame (s.fenceMarked d) 0 d
  have hsecure : (s.fenceMarked d).secure = s.secure := modDieAt_secure ..
  rw [h, State.fwRecord, hsecure, State.fwRecord]

theorem dieAt_fenceMarked {s : State} {d : Nat} {x : Die} (h : s.dieAt d = some x) :
    ((s.fenceMarked d).takeFirmware 0 d).dieAt d = some { x with fenced := true, fwFault := false } := by
  obtain ⟨a, r, hfw⟩ := takeFirmware_frame (s.fenceMarked d) 0 d
  rw [hfw]
  exact (dieAt_modDieAt (f := fun x : Die => { x with fenced := true, fwFault := false }) (fun _ => rfl) s d).trans (by rw [h]; rfl)

/-- The core that firmware moves to (log 3). -/
def State.newFwcore (s : State) (x : Die) : Nat :=
  let left := (List.range 12).filter (fun k => k ≠ x.fwcore && !x.retired.contains k)
  left.getD (Config.freeNat s.freeCount % max 1 left.length) x.fwcore

theorem moveFirmware_some {s : State} {d : Nat} {x : Die} (h : s.dieAt d = some x) : s.moveFirmware d =
    { s.modDieAt d (fun y => { y with fwcore := s.newFwcore x, retired := y.fwcore :: y.retired }) with
      freeCount := s.freeCount + 1, secure := { s.secure with records := { s.secure.records with
        fwcore := store s.secure.records.fwcore (put 0 s.fwRecord d (s.newFwcore x)) } } } := by
  rw [State.moveFirmware, h]
  simp only [State.fwRecord, modDieAt_secure, State.newFwcore]

theorem sameButSaved_moveFirmware {s : State} {d : Nat} {x : Die} (h : s.dieAt d = some x) : SameButSaved s (s.moveFirmware d) := by
  rw [moveFirmware_some h]
  obtain ⟨mem, work, strands⟩ := sameButSaved_modDieAt s d (fun y => { y with fwcore := s.newFwcore x, retired := y.fwcore :: y.retired })
  exact ⟨mem, work, strands⟩

theorem dieAt_moveFirmware {s : State} {d : Nat} {x : Die} (h : s.dieAt d = some x) :
    (s.moveFirmware d).dieAt d = some { x with fwcore := s.newFwcore x, retired := x.fwcore :: x.retired } := by
  rw [moveFirmware_some h]
  exact (dieAt_modDieAt (f := fun y : Die => { y with fwcore := s.newFwcore x, retired := y.fwcore :: y.retired })
    (fun _ => rfl) s d).trans (by rw [h]; rfl)

theorem fwRecord_moveFirmware {s : State} {d : Nat} {x : Die} (h : s.dieAt d = some x) (hw : wfTab 0 s.fwRecord = true) :
    lookup 0 (s.moveFirmware d).fwRecord d = s.newFwcore x := by
  rw [moveFirmware_some h, State.fwRecord]
  exact (congrArg (fun o : Option (Tab Nat) => lookup 0 (o.getD []) d) (newest_store _ _)).trans (lookup_put_self hw)

/-- With no core retired, firmware moves to another core of the twelve. -/
theorem newFwcore_other (s : State) {x : Die} (hret : x.retired = []) :
    s.newFwcore x ≠ x.fwcore ∧ s.newFwcore x < 12 := by
  rw [State.newFwcore, hret]
  generalize hleft : (List.range 12).filter (fun k => k ≠ x.fwcore && !([] : List Nat).contains k) = left
  have hmem : ∀ k, k ∈ left ↔ k < 12 ∧ k ≠ x.fwcore := fun k => by simp [← hleft]
  have hother : (if x.fwcore = 0 then 1 else 0) ∈ left := (hmem _).mpr (by split <;> omega)
  have hlt : Config.freeNat s.freeCount % max 1 left.length < left.length := by
    rw [max_eq_right (List.length_pos_of_mem hother)]
    exact Nat.mod_lt _ (List.length_pos_of_mem hother)
  rw [List.getD_eq_getElem _ _ hlt]
  exact ((hmem _).mp (List.getElem_mem hlt)).symm

/-! A fence. -/

section
variable {s : State} {d : Nat} {x : Die} (hx : s.dieAt d = some x) (located : Bool)
include hx

theorem sameButSaved_fenceStarted : SameButSaved s (s.fenceStarted d located) := by
  cases located
  · exact sameButSaved_fenceMarked s d
  · exact (sameButSaved_fenceMarked s d).trans (sameButSaved_moveFirmware (dieAt_fenceMarked hx))

theorem dieAt_fenceStarted : ∃ y, (s.fenceStarted d located).dieAt d = some y ∧
    (located = true → y.retired = x.fwcore :: x.retired ∧
      (x.retired = [] → y.fwcore ≠ x.fwcore ∧ y.fwcore < 12) ∧
      (wfTab 0 s.fwRecord = true → lookup 0 (s.fenceStarted d located).fwRecord d = y.fwcore)) := by
  cases located
  · exact ⟨_, dieAt_fenceMarked hx, fun h => absurd h Bool.false_ne_true⟩
  · have hmarked := dieAt_fenceMarked hx
    exact ⟨_, dieAt_moveFirmware hmarked, fun _ => ⟨rfl, newFwcore_other _, fun hw =>
      fwRecord_moveFirmware hmarked (by rw [fenceMarked_fwRecord]; exact hw)⟩⟩

variable (hctx : ∀ c ∈ s.work.ctxs, c.dieset.getLsbD d = false)
  (hoff : ∀ u ∈ s.allStrands, u.place.die = d → u.st.onStrand = false) (hf : x.fenced = false)
include hctx hf

/-- A fence of a die that no context includes. -/
theorem fence_unused : s.fence d located = ((s.fenceStarted d located).resetDie d).setMapBit d false := by
  have hnone : s.work.ctxs.filter (fun c => c.dieset.getLsbD d) = [] :=
    List.filter_eq_nil_iff.mpr fun c hc => by rw [hctx c hc]; exact Bool.false_ne_true
  rw [State.fence, hx]
  simp only [hf, Bool.false_eq_true, if_false, hnone]
  rfl

include hoff

/-- What it leaves (13 R292). -/
theorem fence_spec (hd : d < 16) : (s.fence d located).mem = s.mem ∧ (s.fence d located).work.pendLive.getLsbD d = false ∧
    (s.fence d located).work.epoch = (s.work.epoch + 1) % 2 ^ 32 ∧ ∃ y, (s.fence d located).dieAt d = some y ∧ y.fenced = true ∧
      (located = true → y.retired = x.fwcore :: x.retired ∧
        (x.retired = [] → y.fwcore ≠ x.fwcore ∧ y.fwcore < 12) ∧
        (wfTab 0 s.fwRecord = true → lookup 0 (s.fence d located).fwRecord d = y.fwcore)) := by
  obtain ⟨hmem, ⟨l, hwork⟩, hstrands⟩ := sameButSaved_fenceStarted hx located
  obtain ⟨y, hy, hloc⟩ := dieAt_fenceStarted hx located
  obtain ⟨rmem, rwork, rsecure, rdie⟩ := resetDie_empty hy (by rw [hstrands]; exact hoff)
  rw [fence_unused hx located hctx hf]
  refine ⟨rmem.trans hmem, getLsbD_setMapBit _ hd false, ?_, _, rdie, rfl, fun h => ?_⟩
  · have hepoch : ((s.fenceStarted d located).resetDie d).work.epoch = s.work.epoch := by rw [rwork, hwork]
    exact congrArg (fun n => (n + 1) % 2 ^ 32) hepoch
  · obtain ⟨hretired, hcore, hrecord⟩ := hloc h
    refine ⟨hretired, hcore, fun hw => (congrArg (lookup 0 · d) ?_).trans (hrecord hw)⟩
    exact congrArg (fun c : Secure => (newest c.records.fwcore).getD []) rsecure
end

/-! The events that fence a die. -/

/-- DIE_FENCE fences, after a checker's error is logged or not (13 R287). -/
theorem exec_dieFence_logs (s : State) (d : Nat) (why : FenceKind) (located : Bool) : ∃ r, exec (.dieFence ⟨d, why, located⟩) s = .next (r.fence d located) ∧
    ∃ e w, r = { s with errs := { s.errs with queue := e }, window := w } := by
  refine ⟨_, rfl, ?_⟩
  split
  · exact logTagged_frame ..
  · exact ⟨s.errs.queue, s.window, rfl⟩

section
variable {s : State} {d : Nat} {x : Die} (hd : d < 16) (hx : s.dieAt d = some x)
  (hctx : ∀ c ∈ s.work.ctxs, c.dieset.getLsbD d = false)
  (hoff : ∀ u ∈ s.allStrands, u.place.die = d → u.st.onStrand = false) (hf : x.fenced = false)
include hd hx hctx hoff hf

/-- A fence after an entry in the log leaves what a fence leaves. -/
theorem fence_logged (located : Bool) {r : State} (hr : ∃ e w, r = { s with errs := { s.errs with queue := e }, window := w }) :
    (r.fence d located).mem = s.mem ∧ (r.fence d located).work.pendLive.getLsbD d = false ∧
      (r.fence d located).work.epoch = (s.work.epoch + 1) % 2 ^ 32 ∧ ∃ y, (r.fence d located).dieAt d = some y ∧ y.fenced = true ∧
        (located = true → y.retired = x.fwcore :: x.retired ∧ (x.retired = [] → y.fwcore ≠ x.fwcore ∧ y.fwcore < 12) ∧
          (wfTab 0 s.fwRecord = true → lookup 0 (r.fence d located).fwRecord d = y.fwcore)) := by
  obtain ⟨e, w, rfl⟩ := hr
  exact fence_spec (s := { s with errs := { s.errs with queue := e }, window := w }) hx located hctx hoff hf hd

end

/-! A die that rejoins, a base die, and clusters. -/

section
variable {s : State} {d : Nat} {x : Die} (hx : s.dieAt d = some x)
include hx

theorem exec_dieRejoin_fenced (hf : x.fenced = true) : exec (.dieRejoin d) s =
    .next (if s.window.dies.getLsbD d && (2 ≤ s.window.level || d = 0) then
      (s.modDieAt d (fun x => { x with fenced := false })).setMapBit d true else s.modDieAt d (fun x => { x with fenced := false })) := by
  rw [exec_dieRejoin, execDieRejoin, hx]
  simp only [hf, if_true]

/-- A die changed by an event, its number kept, is found changed. -/
theorem dieAt_changed {f : Die → Die} (hf : ∀ x, (f x).num = x.num) : (s.modDieAt d f).dieAt d = some (f x) :=
  (dieAt_modDieAt hf s d).trans (by rw [hx]; rfl)

theorem dieRejoin_spec (hd : d < 16) (hf : x.fenced = true) : ∃ t, exec (.dieRejoin d) s = .next t ∧
    t.dieAt d = some { x with fenced := false } ∧
    (s.window.dies.getLsbD d = true → 2 ≤ s.window.level →
      t.work.pendLive.getLsbD d = true ∧ t.work.epoch = (s.work.epoch + 1) % 2 ^ 32) ∧
    (s.window.dies.getLsbD d = false → t.work = s.work) := by
  have hback := dieAt_changed hx (f := fun x => { x with fenced := false }) (fun _ => rfl)
  by_cases hserves : (s.window.dies.getLsbD d && (2 ≤ s.window.level || d = 0)) = true
  · refine ⟨_, (exec_dieRejoin_fenced hx hf).trans (congrArg _ (if_pos hserves)), hback, fun _ _ => ⟨getLsbD_setMapBit _ hd true, ?_⟩, fun h => ?_⟩
    · exact congrArg (fun w : Work => (w.epoch + 1) % 2 ^ 32) (modDieAt_work ..)
    · rw [h, Bool.false_and] at hserves
      exact absurd hserves Bool.false_ne_true
  · refine ⟨_, (exec_dieRejoin_fenced hx hf).trans (congrArg _ (if_neg hserves)), hback, fun hon hlevel => ?_, fun _ => modDieAt_work ..⟩
    exact absurd (by simp [hon, hlevel]) hserves

end

/-- With no launch open no context holds a lease on a base die that faults. -/
theorem exec_baseDieFault_idle {s : State} (h : s.work.launches = []) (d : Nat) : exec (.baseDieFault d) s =
    .next { s with errs := { s.errs with
      badStacks := if s.errs.badStacks.contains d then s.errs.badStacks else s.errs.badStacks ++ [d] } } := by
  rw [exec_baseDieFault, execBaseDieFault, h]
  rfl

theorem mem_badStacks (l : List Nat) (d : Nat) : d ∈ (if l.contains d then l else l ++ [d]) := by
  split
  next h => exact List.contains_iff_mem.mp h
  next => exact List.mem_append_right _ (List.mem_singleton_self _)

/-- Settles O43: each event by the branch of its function that the hypotheses choose, the fences by `fence_spec`. -/
theorem errorsAndDies : Obligations.ErrorsAndDies := by
  unfold Obligations.ErrorsAndDies
  refine ⟨fun s a line slice way page spare channel => ⟨fun hasked hc hw => ?_, fun h => ?_, fun h => ?_, fun h hown hl hw => ?_, ?_,
    fun hw _ => ?_, fun hw => ?_⟩, fun s d k x why silent => ?_⟩
  · refine ⟨_, congrArg Host.Outcome.next (scrub_asked hasked hc), ?_, fun _ => rfl, fun y hy => ?_⟩
    · exact eccOf_setEcc_clean hw (granOf a)
    · exact of_decide_eq_true (List.mem_filter.mp hy).2
  · obtain ⟨e, w, hlog⟩ := logTagged_frame s (64 * line) 5 (s.mem.tagOf (64 * line) - 1) (stackOf (64 * line))
    refine ⟨_, exec_llcLineError_clean h, ?_, ?_, ?_, fun hroom => ⟨_, logTagged_queue hroom .., rfl, rfl⟩⟩
    all_goals rw [hlog]
  · exact congrArg Host.Outcome.next (if_pos (List.contains_iff_mem.mpr h))
  · obtain ⟨e, w, hexec⟩ := exec_llcLineError_dirty h hown
    obtain ⟨hlow, hhigh⟩ := line_poisoned hw hl
    exact ⟨_, hexec, hlow, hhigh, List.mem_append_right _ (List.mem_singleton_self _), fun _ => rfl⟩
  · refine ⟨_, rfl, fun h => ?_, rfl, rfl⟩
    exact absurd rfl (of_decide_eq_true (List.mem_filter.mp h).2)
  · obtain ⟨t, hexec, hbytes, hsecure⟩ := pageRetirement_spec hw page spare
    refine ⟨t, hexec, hbytes, fun hroom => ?_, fun hfull => ?_⟩
    · rw [State.badList, hsecure, retires_listed _ _ _ hroom]
    · rw [retires_unlisted _ _ _ hfull] at hsecure
      rw [State.driverStatus, State.badPages, State.badList, State.badList, hsecure]
      exact ⟨rfl, List.mem_append_right _ (List.mem_append_right _ (List.mem_singleton_self _)), rfl⟩
  · exact ⟨_, rfl, lookup_put_self hw, rfl, rfl⟩
  · refine fun hd hx => ⟨fun hctx hoff hf => ?_, fun h => ?_, fun h => ?_, fun h => ?_, fun h => ?_, fun h => ?_, fun h => ?_, ?_⟩
    · have fenced := fun {r : State} => fence_logged hd hx hctx hoff hf false (r := r)
      refine ⟨?_, fun h => ?_, ?_, ?_⟩
      · obtain ⟨r, hexec, hr⟩ := exec_dieFence_logs s d why false
        obtain ⟨hmem, hlive, hepoch, y, hy, hyf, -⟩ := fenced hr
        exact ⟨_, hexec, hmem, ⟨y, hy, hyf⟩, hlive, hepoch⟩
      · obtain ⟨hmem, hlive, hepoch, y, hy, hyf, -⟩ := fenced ⟨s.errs.queue, s.window, rfl⟩
        exact ⟨_, congrArg Host.Outcome.next (if_pos h), hmem, ⟨y, hy, hyf⟩, hlive, hepoch⟩
      · obtain ⟨hmem, hlive, hepoch, y, hy, hyf, -⟩ := fenced (logTagged_frame s 0 7 (1024 + d % 16) d)
        exact ⟨_, rfl, hmem, ⟨y, hy, hyf⟩, hlive, hepoch⟩
      · obtain ⟨r, hexec, hr⟩ := exec_dieFence_logs s d why true
        obtain ⟨hmem, hlive, -, y, hy, hyf, hloc⟩ := fence_logged hd hx hctx hoff hf true hr
        obtain ⟨hretired, hcore, hrecord⟩ := hloc rfl
        refine ⟨_, y, hexec, hy, hyf, hmem, hlive, fun hnone _ hw => ?_⟩
        exact ⟨hretired.trans (by rw [hnone]), (hcore hnone).1, (hcore hnone).2, hrecord hw⟩
    · exact congrArg Host.Outcome.next (if_neg (Nat.not_le.mpr h))
    · exact dieRejoin_spec hx hd h
    · exact ⟨_, exec_baseDieFault_idle h d, mem_badStacks _ d, rfl, rfl⟩
    · exact congrArg Host.Outcome.next (if_pos h)
    · exact ⟨_, congrArg Host.Outcome.next (if_neg (by rw [h]; exact Bool.false_ne_true)), dieAt_changed hx (fun _ => rfl)⟩
    · refine ⟨_, rfl, (dieAt_changed hx fun y => ?_).trans (congrArg some (if_pos h))⟩
      split <;> rfl
    · exact ⟨_, rfl, dieAt_changed hx (fun _ => rfl)⟩

end Sys2Proof.Machine
end

section
/-! SUPPORT. A context entry made VALID (14 R300; 07 R161) over an error table out of order: zeroing the windows brings a poisoned
granule of the job's counter to light, and the counter's zero is not merged. -/

namespace Sys2Proof.Machine

theorem jobAddr_lt (k : Nat) : jobAddr k < 2 ^ 64 := by
  have h := Nat.mod_lt (Config.jobWord k) (y := Config.hbmBytes / 8) (by decide)
  have hb : Config.hbmBytes / 8 = 103079215104 := by decide
  rw [jobAddr]
  omega

theorem jobAddr_aligned (k : Nat) : jobAddr k % 8 = 0 := Nat.mul_mod_right ..

/-- What a context made VALID leaves in memory. -/
theorem createContext_mem {s : State} {id e : Nat} (hnone : s.ctxOf id = none)
    (hok : (!bitOf e 16 || bitsAt e 0 16 = 0 || 64 < bitsAt e 18 7 || 1024 ≤ id) = false) :
    ∃ c tag, (s.createContext id e).mem = ((s.mem.zeroWindows (BitVec.ofNat 16 (bitsAt e 0 16)) (64 * bitsAt e 192 24)
      (min (64 * bitsAt e 216 24) (Config.dieSpadBytes - 64 * bitsAt e 192 24))).write (List.range' (jobAddr id) 8) (wordBytes 0) c tag).1 := by
  rw [State.createContext, hnone]
  simp only [hok, Bool.false_eq_true, if_false]
  exact ⟨_, _, updateWord_mem ..⟩

/-- A word 1 at j, whose poisoned granule stands in the error table behind one of a higher address. -/
def shadowedMemory (j : Nat) : Memory :=
  { Memory.reset with bytes := [(j, 1)], ecc := [(2 ^ 64, .poisoned), (granOf j, .poisoned)] }

/-- The same word, its granule's poison in the open. -/
def poisonedMemory (j : Nat) : Memory := { Memory.reset with bytes := [(j, 1)], ecc := [(granOf j, .poisoned)] }

section
variable {j : Nat} (hj : j < 2 ^ 64)
include hj

theorem granOf_lt : granOf j < 2 ^ 64 := lt_of_le_of_lt (Nat.sub_le _ _) hj

theorem shadowedMemory_sound : Memory.bad ((shadowedMemory j).eccOf j) = false := by
  have h : lookup Code.clean [(2 ^ 64, .poisoned), (granOf j, .poisoned)] (granOf j) = .clean := if_pos (granOf_lt hj)
  rw [Memory.eccOf, shadowedMemory, h]
  cases isGlobal j <;> rfl

/-- The zeroing of die 0's window takes the first entry, and no byte of the word. -/
theorem zeroWindows_shadowed : (shadowedMemory j).zeroWindows 1 0 64 = poisonedMemory j := by
  have hd : dieNums.filter (fun d => (1 : BitVec 16).getLsbD d) = [0] := by decide
  have hg := granOf_lt hj
  rw [Memory.zeroWindows, hd]
  simp only [List.foldl_cons, List.foldl_nil, shadowedMemory, poisonedMemory, Memory.clearRange, dieSpadBase, Memory.reset]
  have hout : (j < 2 ^ 64 ∨ 2 ^ 64 + 64 ≤ j) ∧ (granOf j < 2 ^ 64 ∨ 2 ^ 64 + 64 ≤ granOf j) := ⟨.inl hj, .inl hg⟩
  simpa using hout

end

theorem poisonedMemory_word (j : Nat) : (poisonedMemory j).word j = 1 := by
  have hrange : (poisonedMemory j).range j 8 = (List.range 8).map (fun i => if i = 0 then 1 else 0) := by
    simp [Memory.range, Memory.byte, poisonedMemory, lookup, Memory.default]
  rw [Memory.word, hrange]
  decide

/-- A word in a bad granule of global memory is written in part, and so not merged (13 R284). -/
theorem word_write_bad {m : Memory} {a : Nat} {v : Word} {c : Cover} {tag : Nat} (hw : m.wf = true) (ha : a % 8 = 0) (hg : a < 2 ^ 64)
    (hbad : Memory.bad (m.eccOf a) = true) : (m.write (List.range' a 8) (wordBytes v) c tag).1.word a = m.word a := by
  have hbyte : ∀ i < 8, (m.write (List.range' a 8) (wordBytes v) c tag).1.byte (a + i) = m.byte (a + i) := by
    intro i hi
    have hmem : a + i ∈ List.range' a 8 := List.mem_range'_1.mpr ⟨Nat.le_add_right .., Nat.add_lt_add_left hi a⟩
    have hglobal : isGlobal (a + i) = true := decide_eq_true (by omega)
    have hgran : granOf (a + i) ≤ (if a % 32 = 0 then a + 8 else a - a % 32) ∧
        (if a % 32 = 0 then a + 8 else a - a % 32) < granOf (a + i) + granBytes (granOf (a + i)) := by
      rw [granBytes_granOf, granOf, granBytes, hglobal, if_pos rfl]
      split <;> omega
    have hout : (if a % 32 = 0 then a + 8 else a - a % 32) ∉ List.range' a 8 := by
      rw [List.mem_range'_1]
      split <;> omega
    have hlen : (wordBytes v).length = 8 := by simp [wordBytes, natBytes]
    have hat : (List.range' a 8)[i]? = some (a + i) := by simp [hi]
    exact (byte_writePart_in hw List.nodup_range' (by rw [hlen, List.length_range']) hat
      (List.getElem?_eq_getElem (hlen.symm ▸ hi))).trans
      (if_pos (granOf_mem_unmerged List.nodup_range' hmem ((eccOf_word ha hmem).symm ▸ hbad) hgran hout))
  exact congrArg bytesWord (List.map_congr_left fun i hi => hbyte i (List.mem_range.mp hi))

/-- A state with a queue, where the job of context 0 has the word above. -/
def shadowed : State :=
  { State.reset with work := { Work.reset with queues := [Queue.fresh 0] }, mem := shadowedMemory (jobAddr 0) }

/-- VALID, die 0 in the set, a window of one line at 0. -/
def windowEntry : BitVec 512 := BitVec.ofNat 512 (2 ^ 216 + 2 ^ 16 + 1)

/-- The counter keeps its 1. -/
theorem shadowed_counter : (shadowed.createContext 0 windowEntry.toNat).mem.word (jobAddr 0) = 1 := by
  obtain ⟨c, tag, h⟩ := createContext_mem (s := shadowed) (id := 0) (e := windowEntry.toNat) rfl (by decide +kernel)
  have hzero : shadowed.mem.zeroWindows (BitVec.ofNat 16 (bitsAt windowEntry.toNat 0 16)) (64 * bitsAt windowEntry.toNat 192 24)
      (min (64 * bitsAt windowEntry.toNat 216 24) (Config.dieSpadBytes - 64 * bitsAt windowEntry.toNat 192 24)) = poisonedMemory (jobAddr 0) := by
    have hset : BitVec.ofNat 16 (bitsAt windowEntry.toNat 0 16) = 1 := by decide +kernel
    have hbase : 64 * bitsAt windowEntry.toNat 192 24 = 0 := by decide +kernel
    have hlen : min (64 * bitsAt windowEntry.toNat 216 24) (Config.dieSpadBytes - 64 * bitsAt windowEntry.toNat 192 24) = 64 := by decide +kernel
    rw [hset, hlen, hbase]
    exact zeroWindows_shadowed (jobAddr_lt 0)
  have hbad : Memory.bad ((poisonedMemory (jobAddr 0)).eccOf (jobAddr 0)) = true := by
    rw [eccOf_poisoned (by simp [poisonedMemory, lookup])]
    rfl
  rw [h, hzero, word_write_bad rfl (jobAddr_aligned 0) (jobAddr_lt 0) hbad]
  exact poisonedMemory_word _

/-- Refutes O48: an error table out of order, which its hypotheses do not shut out, hides the poison of the counter's granule from
them; zeroing the window uncovers it, and the counter keeps its 1. -/
theorem not_pagesAndContexts : ¬ Obligations.PagesAndContexts := by
  unfold Obligations.PagesAndContexts
  intro h
  obtain ⟨-, -, -, -, -, -, -, -, -, -, -, hcreate, -⟩ := h shadowed 0 0 (Queue.fresh 0) 0 0 0 windowEntry
    ⟨0, 0, false, 0, 0, 0, 0, 0, 0, 0, 0, 0, [], 0, false, false, false⟩ rfl
  obtain ⟨t, y, hexec, -, -, -, -, -, -, -, hword, -⟩ := hcreate rfl (by decide) (by decide +kernel) (by decide +kernel) (by decide +kernel) 
    rfl (shadowedMemory_sound (jobAddr_lt 0))
  obtain rfl : _ = t := Host.Outcome.next.inj ((exec_contextCreate 0 windowEntry shadowed).symm.trans hexec)
  exact absurd (shadowed_counter.symm.trans hword) (by decide)

end Sys2Proof.Machine
end

section
/-! SUPPORT. Clocks, current, wear, the boot level, images and the register window (14 R295 to R316). -/

namespace Sys2Proof.Machine

/-! The die in front. -/

section
variable (s : State) (f : Die → Die)

theorem modDieAt_numbered {d : Nat} (h : s.die.num = d) : s.modDieAt d f = { s with die := f s.die } := if_pos h

theorem modDieAt_front : s.modDieAt s.die.num f = { s with die := f s.die } := modDieAt_numbered s f rfl

theorem modDieAt_other {d : Nat} (h : s.die.num ≠ d) : (s.modDieAt d f).die = s.die := by rw [State.modDieAt, if_neg h]

end

section
variable (s : State) (d n : Nat)

theorem setRetn_mem : (s.setRetn d n).mem = s.mem :=
  iteInduction (motive := fun t : State => t.mem = s.mem) (fun _ => modDieAt_mem ..) (fun _ => modDieAt_mem ..)

theorem setRetn_die : (s.setRetn d n).die = (s.modDieAt d (fun x => { x with retn := n })).die :=
  iteInduction (motive := fun t : State => t.die = (s.modDieAt d (fun x => { x with retn := n })).die) (fun _ => rfl) (fun _ => rfl)

theorem setClock_mem : (s.setClock d n).mem = s.mem := by
  unfold State.setClock
  split
  · rfl
  · exact iteInduction (motive := fun t : State => t.mem = s.mem) (fun _ => rfl) fun _ => (modDieAt_mem ..).trans (setRetn_mem ..)

theorem setClock_other (h : s.die.num ≠ d) : (s.setClock d n).die = s.die := by
  unfold State.setClock
  split
  · rfl
  next x _ =>
    have hretn : (s.setRetn d (x.retn * n / x.freq)).die = s.die := (setRetn_die ..).trans (modDieAt_other _ _ h)
    exact iteInduction (motive := fun t : State => t.die = s.die) (fun _ => rfl) fun _ =>
      (modDieAt_other _ _ (by rw [hretn]; exact h)).trans hretn

end

/-- The clock of the die in front set: its frequency, if it runs, and with it RETN (07 R158). -/
theorem setClock_front (s : State) (mhz : Nat) : (s.setClock s.die.num mhz).die =
    if s.die.freq = mhz ∨ s.die.freq = 0 then s.die else { s.die with retn := s.die.retn * mhz / s.die.freq, freq := mhz } := by
  have hretn (r : Nat) : (s.setRetn s.die.num r).die = { s.die with retn := r } := by rw [setRetn_die, modDieAt_front]
  rw [State.setClock, dieAt_front]
  dsimp only
  by_cases h : s.die.freq = mhz ∨ s.die.freq = 0
  · rw [if_pos h, if_pos (by simpa using h)]
  · rw [if_neg h, if_neg (by simpa using h)]
    exact (congrArg State.die (if_pos (congrArg Die.num (hretn _)))).trans (by rw [hretn])

/-! A heartbeat that stays away (14 R310). -/

/-- A die's clock brought down to 1.4 GHz. -/
def State.slowed (s : State) (x : Die) : State := if Config.baseMhz < x.freq then s.setClock x.num Config.baseMhz else s

theorem slowed_frame (s : State) (x : Die) : SameButHardware s (s.slowed x) ∧ (s.slowed x).mem = s.mem :=
  iteInduction (motive := fun t => SameButHardware s t ∧ t.mem = s.mem) (fun _ => ⟨sameButHardware_setClock .., setClock_mem ..⟩)
    (fun _ => ⟨.refl s, rfl⟩)

theorem slowed_front (s : State) : (s.slowed s.die).die.freq = min s.die.freq 1400 ∧ (s.slowed s.die).die.num = s.die.num := by
  unfold State.slowed
  split
  next h =>
    have hfast : 1400 < s.die.freq := h
    rw [setClock_front, if_neg (by simp [Config.baseMhz]; omega)]
    exact ⟨(min_eq_right hfast.le).symm, rfl⟩
  next h => exact ⟨(min_eq_left (Nat.not_lt.mp h)).symm, rfl⟩

theorem slowed_other {s : State} {x : Die} (h : s.die.num ≠ x.num) : (s.slowed x).die = s.die :=
  iteInduction (motive := fun t : State => t.die = s.die) (fun _ => setClock_other _ _ _ h) (fun _ => rfl)

/-- Every die slowed: the others leave the die in front as it is then. -/
theorem slowed_all {s : State} (h : ∀ y ∈ s.dies, y.num ≠ s.die.num) :
    (s.allDies.foldl State.slowed s).die = (s.slowed s.die).die ∧ SameButHardware s (s.allDies.foldl State.slowed s) ∧
      (s.allDies.foldl State.slowed s).mem = s.mem := by
  refine ⟨?_, foldl_inv (fun t : State => SameButHardware s t ∧ t.mem = s.mem) s.allDies s ⟨.refl s, rfl⟩ fun t y _ ht => ?_⟩
  · refine foldl_inv (fun t : State => t.die = (s.slowed s.die).die) s.dies (s.slowed s.die) rfl fun t y hy ht => ?_
    refine (slowed_other ?_).trans ht
    rw [ht, (slowed_front s).2]
    exact (h y hy).symm
  · obtain ⟨hhard, hmem⟩ := slowed_frame t y
    exact ⟨ht.1.trans hhard, hmem.trans ht.2⟩

theorem allDies_mapDies (s : State) (f : Die → Die) : (s.mapDies f).allDies = s.allDies.map f := rfl

theorem enforceSafe_eq (s : State) : s.enforceSafe =
    (s.allDies.foldl State.slowed s).mapDies (fun x => { x with clamp := [0, 1, 2].map (Config.clampLimit x.num) }) := rfl

theorem heartbeatMiss_spec {s : State} (h : ∀ y ∈ s.dies, y.num ≠ s.die.num) : ∃ t, exec .heartbeatMiss s = .next t ∧
    t.window.heartbeat = false ∧ t.die.freq = min s.die.freq 1400 ∧
    (∀ y ∈ t.allDies, y.clamp = [0, 1, 2].map (Config.clampLimit y.num)) ∧ t.u = s.u ∧ t.mem = s.mem := by
  obtain ⟨hdie, hhard, hmem⟩ := slowed_all (s := { s with window := { s.window with heartbeat := false } }) h
  refine ⟨_, congrArg Host.Outcome.next (enforceSafe_eq _), congrArg Window.heartbeat hhard.window, ?_, fun y hy => ?_, hhard.u, hmem⟩
  · exact (congrArg Die.freq hdie).trans (slowed_front _).1
  · rw [allDies_mapDies] at hy
    obtain ⟨z, -, rfl⟩ := List.mem_map.mp hy
    rfl

/-! Current and wear (14 R307, R308). -/

theorem getD_set_self {α : Type} {l : List α} {k : Nat} (hk : k < l.length) (v d : α) : (l.set k v).getD k d = v := by
  rw [List.getD_eq_getElem _ _ (by simpa using hk), List.getElem_set_self]

/-- A die whose cluster k has worn by v more, and the ceiling that its wear sets. -/
def Die.worn (k v : Nat) (x : Die) : Die :=
  let w := x.wear.set k (min (2 ^ 48 - 1) (x.wear.getD k 0 + min 16 v))
  { x with wear := w, ceil := ceilOf w }

/-- The clock comes down to the ceiling. -/
def State.lowered (s : State) : State := if s.die.ceil < s.die.freq then s.setClock s.die.num s.die.ceil else s

/-- The records of wear are kept once an hour. -/
def State.wearKept (s t : State) : State := if s.secure.wearAt + wearHour ≤ s.clock then t.recordWear else t

theorem exec_wearUpdate_worn (s : State) (d k v : Nat) : exec (.wearUpdate d k v) s = .next (s.wearKept
    (match (s.modDieAt d (Die.worn k v)).dieAt d with
      | some x => if x.ceil < x.freq then (s.modDieAt d (Die.worn k v)).setClock d x.ceil else s.modDieAt d (Die.worn k v)
      | none => s.modDieAt d (Die.worn k v))) := rfl

theorem exec_wearUpdate_front (s : State) (k v : Nat) : exec (.wearUpdate s.die.num k v) s =
    .next (s.wearKept ({ s with die := s.die.worn k v } : State).lowered) := by
  have hnum : (s.die.worn k v).num = s.die.num := rfl
  rw [exec_wearUpdate_worn, modDieAt_front]
  generalize s.die.worn k v = x at *
  have hdie : ({ s with die := x } : State).dieAt s.die.num = some x := hnum ▸ dieAt_front { s with die := x }
  simp only [hdie, State.lowered, hnum]

theorem lowered_front (s : State) : s.lowered.die.wear = s.die.wear ∧ s.lowered.die.ceil = s.die.ceil ∧ s.lowered.u = s.u ∧
    s.lowered.mem = s.mem := by
  unfold State.lowered
  split
  · refine ⟨?_, ?_, (sameButHardware_setClock ..).u, setClock_mem ..⟩
    all_goals
      rw [setClock_front]
      split <;> rfl
  · exact ⟨rfl, rfl, rfl, rfl⟩

theorem wearKept_frame (s t : State) : (s.wearKept t).die = t.die ∧ (s.wearKept t).u = t.u ∧ (s.wearKept t).mem = t.mem :=
  iteInduction (motive := fun r : State => r.die = t.die ∧ r.u = t.u ∧ r.mem = t.mem) (fun _ => ⟨rfl, rfl, rfl⟩) (fun _ => ⟨rfl, rfl, rfl⟩)

theorem wearUpdate_spec (s : State) {k : Nat} (v : Nat) (hk : k < s.die.wear.length) : ∃ t, exec (.wearUpdate s.die.num k v) s = .next t ∧
    t.die.wear.getD k 0 = min (2 ^ 48 - 1) (s.die.wear.getD k 0 + min 16 v) ∧ t.die.ceil = ceilOf t.die.wear ∧ t.u = s.u ∧
    t.mem = s.mem := by
  obtain ⟨hwear, hceil, hu, hmem⟩ := lowered_front { s with die := s.die.worn k v }
  obtain ⟨kdie, ku, kmem⟩ := wearKept_frame s ({ s with die := s.die.worn k v } : State).lowered
  refine ⟨_, exec_wearUpdate_front s k v, ?_, ?_, ku.trans hu, kmem.trans hmem⟩
  · rw [kdie, hwear]
    exact getD_set_self hk _ _
  · rw [kdie, hceil, hwear]
    rfl

/-- A die whose cluster k draws v (14 R307). -/
def Die.sampled (k v : Nat) (x : Die) : Die :=
  { x with
    isense := x.isense.set k v, hot := x.hot.set k (decide (x.clamp.getD k 0 < v)),
    throttled := x.throttled.set k (if decide (x.clamp.getD k 0 < v) && x.hot.getD k false then true
      else if v * 10 < x.clamp.getD k 0 * 9 then false else x.throttled.getD k false) }

theorem exec_currentSample_front (s : State) (k v : Nat) : exec (.currentSample s.die.num k v) s =
    .next { s with die := s.die.sampled k v } := congrArg Host.Outcome.next (modDieAt_front s (Die.sampled k v))

section
variable {x : Die} {k : Nat} (v : Nat) (hk : k < x.throttled.length)
include hk

/-- Two samples above the clamp throttle. -/
theorem sampled_throttles (hv : x.clamp.getD k 0 < v) (hhot : x.hot.getD k false = true) :
    (x.sampled k v).throttled.getD k false = true := by
  refine (getD_set_self hk _ _).trans (if_pos ?_)
  rw [hhot, decide_eq_true hv]
  rfl

/-- One below nine tenths of it ends that. -/
theorem sampled_ends (hv : v * 10 < x.clamp.getD k 0 * 9) : (x.sampled k v).throttled.getD k false = false := by
  have hlow : ¬ x.clamp.getD k 0 < v := by omega
  refine (getD_set_self hk _ _).trans ((if_neg ?_).trans (if_pos hv))
  rw [decide_eq_false hlow, Bool.false_and]
  exact Bool.false_ne_true

end

/-! A change of clock (14 R306). -/

theorem clockChange_spec {s : State} {mhz : Nat} (retn : Nat) (hbeat : s.window.heartbeat = true) (hupd : s.window.updating = false)
    (hlevel : s.window.level = 3) (hstep : mhz % 25 = 0) (hlow : 1400 ≤ mhz) (hhigh : mhz ≤ s.die.ceil) :
    ∃ t, exec (.clockChange s.die.num mhz retn) s = .next t ∧ t.die.freq = mhz ∧ t.u = s.u ∧ t.mem = s.mem ∧
      t.die.retn = s.die.retnAt mhz retn := by
  have hallowed : (mhz % 25 = 0 && ((mhz = 700 && (s.window.level = 1 || (s.supply.b2 && s.supply.fromB1 && s.kept s.die.num && !s.die.fenced))) ||
      (s.window.level ≠ 1 && Config.baseMhz ≤ mhz &&
        mhz ≤ (if s.window.heartbeat && !s.window.updating && s.window.level ≠ 2 then s.die.ceil else Config.baseMhz)))) = true := by
    simp [hbeat, hupd, hlevel, hstep, hlow, hhigh, Config.baseMhz]
  have hexec : exec (.clockChange s.die.num mhz retn) s =
      .next ((s.setRetn s.die.num (s.die.retnAt mhz retn)).modDieAt s.die.num (fun x => { x with freq := mhz })) := by
    rw [exec_clockChange, execClockChange, dieAt_front]
    exact congrArg Host.Outcome.next (if_pos hallowed)
  have hretn : (s.setRetn s.die.num (s.die.retnAt mhz retn)).die = { s.die with retn := s.die.retnAt mhz retn } := by
    rw [setRetn_die, modDieAt_front]
  have hnum : (s.setRetn s.die.num (s.die.retnAt mhz retn)).die.num = s.die.num := by rw [hretn]
  have hdie := congrArg State.die (modDieAt_numbered _ (fun x => { x with freq := mhz }) hnum)
  rw [hretn] at hdie
  exact ⟨_, hexec, congrArg Die.freq hdie, (modDieAt_u ..).trans (sameButHardware_setRetn ..).u, (modDieAt_mem ..).trans (setRetn_mem ..),
    congrArg Die.retn hdie⟩

theorem exec_clockChange_offStep (s : State) {d mhz : Nat} (retn : Nat) (h : mhz % 25 ≠ 0) : exec (.clockChange d mhz retn) s = .next s := by
  rw [exec_clockChange, execClockChange]
  split
  · rfl
  · simp [h]

/-! The boot level (14 R315, R316). -/

/-- The dies of a list as a mask. -/
theorem getLsbD_dieMask (l : List Nat) (m : BitVec 16) {d : Nat} (hd : d < 16) :
    (l.foldl (fun m e => m ||| BitVec.ofNat 16 (2 ^ e)) m).getLsbD d = (m.getLsbD d || l.contains d) := by
  induction l generalizing m with
  | nil => simp
  | cons e r ih =>
    rw [List.foldl_cons, ih, BitVec.getLsbD_or, BitVec.getLsbD_ofNat, Nat.testBit_two_pow, decide_eq_true hd, Bool.true_and,
      List.contains_cons, Bool.or_assoc]
    congr 2
    exact decide_eq_decide.mpr eq_comm

theorem bootLevelRise_stays (s : State) (dies : BitVec 16) (h : (3 ≤ s.window.level || (newest s.secure.records.harvest).isNone ||
    (newest s.secure.records.calib).isNone) = true) : exec (.bootLevelRise dies) s = .next s :=
  congrArg Host.Outcome.next (if_pos h)

/-- The dies not disabled by HARVEST. -/
def State.goodDies (s : State) (dies : BitVec 16) : BitVec 16 := dies &&& ~~~(s.harvest.dies.foldl (fun m e => m ||| BitVec.ofNat 16 (2 ^ e)) 0)

theorem getLsbD_goodDies (s : State) (dies : BitVec 16) {d : Nat} (hd : d < 16) :
    (s.goodDies dies).getLsbD d = (dies.getLsbD d && !s.harvest.dies.contains d) := by
  rw [State.goodDies, BitVec.getLsbD_and, BitVec.getLsbD_not, getLsbD_dieMask _ _ hd, decide_eq_true hd, Bool.true_and]
  congr 2
  exact (congrArg (· || _) BitVec.getLsbD_zero).trans (Bool.false_or _)

/-- The rise to level 3, which changes no clock. -/
theorem bootLevelRise_full {s : State} (dies : BitVec 16) (hl : s.window.level = 2) (hh : (newest s.secure.records.harvest).isSome = true)
    (hc : (newest s.secure.records.calib).isSome = true) : ∃ t, exec (.bootLevelRise dies) s = .next t ∧ t.window.level = 3 ∧
      t.window.dies = s.goodDies dies ∧ t.work.epoch = (s.work.epoch + 1) % 2 ^ 32 ∧ t.u = s.u ∧ t.mem = s.mem := by
  have hrises : ¬ ((3 ≤ s.window.level || (newest s.secure.records.harvest).isNone || (newest s.secure.records.calib).isNone) = true) := by
    simp [hl, Option.isSome_iff_ne_none.mp hh, Option.isSome_iff_ne_none.mp hc]
  rw [exec_bootLevelRise, execBootLevelRise, if_neg hrises, hl]
  exact ⟨_, rfl, rfl, rfl, rfl, rfl, rfl⟩

/-! Firmware images (14 R312). -/

/-- The component's copy not in use. -/
def State.idleCopy (s : State) (component : Nat) : Nat := 1 - lookup 0 s.secure.active component % 2

section
variable {s : State} {image : FwImage}

theorem firmwareUpdate_spec (hc : image.component ≠ 2) (hr : lookup 0 s.secure.rollback image.component ≤ image.rollback)
    (hv : Config.falconVerify (shake256 64 image.bytes) image.signature = true) : ∃ t, exec (.firmwareUpdate image) s = .next t ∧
      t.u = s.u ∧ t.mem = s.mem.lay (firmwareBase image.component (s.idleCopy image.component)) (image.bytes.take (2 ^ 27)) ∧
      t.secure.images = s.secure.images.filter (fun i => !(i.image.component = image.component && i.copy = s.idleCopy image.component)) ++
        [⟨s.idleCopy image.component, image⟩] ∧
      t.secure.rollback = put 0 s.secure.rollback image.component image.rollback ∧ t.secure.running = s.secure.running := by
  have hadmit : (Config.falconVerify (shake256 64 image.bytes) image.signature && lookup 0 s.secure.rollback image.component ≤ image.rollback) = true := by
    simp [hv, hr]
  exact ⟨_, congrArg Host.Outcome.next ((if_pos hadmit).trans (if_neg hc)), rfl, rfl, rfl, rfl, rfl⟩

theorem firmwareUpdate_refused (h : Config.falconVerify (shake256 64 image.bytes) image.signature ≠ true ∨
    image.rollback < lookup 0 s.secure.rollback image.component) : exec (.firmwareUpdate image) s = .next s := by
  have hrefuse : ¬ ((Config.falconVerify (shake256 64 image.bytes) image.signature &&
      lookup 0 s.secure.rollback image.component ≤ image.rollback) = true) := by
    rw [Bool.and_eq_true, decide_eq_true_eq, not_and_or, Nat.not_le]
    exact h
  exact congrArg Host.Outcome.next (if_neg hrefuse)

end

theorem byte_lay_in {m : Memory} (h : m.wf = true) {a k : Nat} {b : Byte} {bs : List Byte} (hk : bs[k]? = some b) :
    (m.lay a bs).byte (a + k) = b := by
  obtain ⟨hlt, rfl⟩ := List.getElem?_eq_some_iff.mp hk
  rw [Memory.lay, byte_renew, byte_poke_in bs h hlt]

/-- An image laid at its home: its first 2^27 bytes, and no byte beyond them. -/
theorem firmware_bytes {m : Memory} (h : m.wf = true) (bs : List Byte) (home : Nat) :
    (∀ k b, k < 2 ^ 27 → bs[k]? = some b → (m.lay home (bs.take (2 ^ 27))).byte (home + k) = b) ∧
      ∀ a, a < home ∨ home + 2 ^ 27 ≤ a → (m.lay home (bs.take (2 ^ 27))).byte a = m.byte a := by
  generalize 2 ^ 27 = n
  refine ⟨fun k b hk hb => byte_lay_in h (by rwa [List.getElem?_take_of_lt hk]), fun a ha => byte_lay_out h (ha.imp_right fun hle => ?_)⟩
  exact (Nat.add_le_add_left (List.length_take_le _ _) home).trans hle

/-! Attestation (14 R314). -/

/-- The report begins with the nonce. -/
theorem report_nonce (s : State) (nonce : BitVec 256) : ∃ r, s.report nonce = natBytes 32 nonce.toNat ++ r := by
  unfold State.report State.reportBody
  simp only [List.append_assoc]
  exact ⟨_, rfl⟩

theorem getElem_natBytes {n i : Nat} (x : BitVec (8 * n)) (hi : i < (natBytes n x.toNat).length) :
    (natBytes n x.toNat)[i] = x.extractLsb' (8 * i) 8 := by
  have hin : i < n := by rwa [length_natBytes] at hi
  refine BitVec.eq_of_toNat_eq ?_
  rw [← List.getD_eq_getElem _ 0 hi, getD_natBytes hin, BitVec.extractLsb'_toNat, Nat.shiftRight_eq_div_pow]

theorem attestation_writes (s : State) (nonce : BitVec 256) (buffer : BitVec 64) : ∃ t, exec (.attestation nonce buffer) s = .next t ∧
    t.u = s.u ∧ t.mem = s.mem.poke (hostBase + buffer.toNat) (s.report nonce) := ⟨_, exec_attestation .., modMem_u .., modMem_mem ..⟩

/-- The report lies in the host's buffer (log 12), its nonce first. -/
theorem attestation_bytes {s : State} (h : s.mem.wf = true) (nonce : BitVec 256) (buffer : BitVec 64) (a : Nat) :
    (a < 2 ^ 67 + buffer.toNat → (s.mem.poke (hostBase + buffer.toNat) (s.report nonce)).byte a = s.mem.byte a) ∧
      (a < 32 → (s.mem.poke (hostBase + buffer.toNat) (s.report nonce)).byte (2 ^ 67 + buffer.toNat + a) =
        nonce.extractLsb' (8 * a) 8) := by
  refine ⟨fun ha => byte_poke_out _ h (.inl ha), fun ha => ?_⟩
  obtain ⟨r, hr⟩ := report_nonce s nonce
  have hlt : a < (natBytes 32 nonce.toNat).length := by rwa [length_natBytes]
  rw [hr]
  refine (byte_poke_in _ h (by rw [List.length_append]; omega)).trans ?_
  rw [List.getElem_append_left hlt]
  exact getElem_natBytes (n := 32) nonce hlt

/-! The register window (14 R295, R296). -/

theorem registerWrite_sdaddr (s : State) (w : BitVec 64) : exec (.registerWrite ⟨0, 0x2000, 8⟩ w) s =
    .next { s with window := { s.window with sdaddr := w } } := rfl

theorem registerWrite_keep (s : State) (w : BitVec 64) (hw : w.getLsbD 16 = false) : exec (.registerWrite ⟨0, 0x1000, 8⟩ w) s =
    .next (s.modSupply (fun p => { p with keep := w.setWidth 16 ||| 1 })) := by
  have hwrite : exec (.registerWrite ⟨0, 0x1000, 8⟩ w) s = if w.getLsbD 16 = true then
    execHibreq (s.modSupply (fun p => { p with keep := w.setWidth 16 ||| 1 }))
    else .next (s.modSupply (fun p => { p with keep := w.setWidth 16 ||| 1 })) := rfl
  rw [hwrite, hw]
  rfl

/-- Settles O50: each event by the lemma above on what it leaves. -/
theorem clocksAndPower : Obligations.ClocksAndPower := by
  unfold Obligations.ClocksAndPower
  intro s x k v mhz retn w dies image nonce buffer hx
  subst hx
  refine ⟨⟨_, rfl, rfl, rfl, rfl⟩, heartbeatMiss_spec, fun hk hi ht _ => ?_, fun hk hw => wearUpdate_spec s v (hw ▸ hk),
    fun hbeat hupd hlevel hstep hlow hhigh => ?_, exec_clockChange_offStep s retn, fun h => ?_, fun hl hh hc => ?_, fun hl => ?_,
    fun hc hr hw hm => ?_, fun h => firmwareUpdate_refused (.inr h), fun hlow hhigh => ?_, fun hm => ?_, fun a ha => ?_, ?_, ?_⟩
  · exact ⟨_, exec_currentSample_front s k v, getD_set_self (hi ▸ hk) _ _, rfl, rfl, sampled_throttles v (ht ▸ hk), sampled_ends v (ht ▸ hk)⟩
  · exact clockChange_spec retn hbeat hupd hlevel hstep hlow hhigh
  · refine bootLevelRise_stays s dies ?_
    rcases h with h | h <;> simp [h]
  · obtain ⟨t, hexec, hlevel, hdies, hepoch, hu, hmem⟩ := bootLevelRise_full dies hl hh hc
    exact ⟨t, hexec, hlevel, fun d hd => by rw [hdies, getLsbD_goodDies s dies hd], hepoch, hu, hmem⟩
  · exact bootLevelRise_stays s dies (by simp [hl])
  · intro copy home
    by_cases hv : Config.falconVerify (shake256 64 image.bytes) image.signature = true
    · obtain ⟨t, hexec, hu, hmem, himages, hrollback, hrunning⟩ := firmwareUpdate_spec hc hr hv
      refine ⟨t, hexec, hu, ?_⟩
      rw [if_pos hv, himages, hrollback, hrunning, hmem]
      exact ⟨List.mem_append_right _ (List.mem_singleton_self _), lookup_put_self hw, rfl, firmware_bytes hm image.bytes _⟩
    · refine ⟨s, firmwareUpdate_refused (.inl hv), rfl, ?_⟩
      rw [if_neg hv]
  · have hrange : ¬ ((!tickRange w.toNat) = true) := by simp [tickRange, hlow, hhigh]
    refine ⟨fun hstart => ?_, fun hstart => congrArg Host.Outcome.next ((if_neg hrange).trans (if_pos hstart))⟩
    exact ⟨_, congrArg Host.Outcome.next ((if_neg hrange).trans (if_neg (hstart ▸ Bool.false_ne_true))), rfl, rfl, rfl, rfl⟩
  · obtain ⟨t, hexec, hu, hmem⟩ := attestation_writes s nonce buffer
    refine ⟨t, hexec, hu, fun a => ?_⟩
    rw [hmem]
    exact attestation_bytes hm nonce buffer a
  · exact if_pos (by rw [ha]; rfl)
  · exact ⟨_, registerWrite_sdaddr s w, rfl, rfl, rfl⟩
  · have hlow : (w &&& 0xFFFF).getLsbD 16 = false := by simp
    have hkeep : (w &&& 0xFFFF).setWidth 16 = w.setWidth 16 := by
      refine BitVec.eq_of_toNat_eq ?_
      rw [BitVec.toNat_setWidth, BitVec.toNat_setWidth, BitVec.toNat_and]
      exact (congrArg (· % 2 ^ 16) (Nat.and_two_pow_sub_one_eq_mod w.toNat 16)).trans (Nat.mod_mod _ _)
    refine ⟨_, registerWrite_keep s _ hlow, ?_, rfl, rfl⟩
    rw [hkeep]
    rfl

end Sys2Proof.Machine
end
